-- ==== Sys2Proof/Word.lean ====
section
/-! DEFINITION. The words the Control Link and the Drive Reference Link carry. -/

namespace Sys2Proof

/-- One byte on a link (R191, R87). -/
abbrev Byte := BitVec 8

/-- One 32-bit value of an event record (R201), or a 4-byte field of a reply (R198). -/
abbrev Word32 := BitVec 32

end Sys2Proof
end

