-- ==== Sys2Proof/Machine/Types.lean ====
section
/-! DEFINITION. The names and records of the manual: enumerations of R199's code table, the fault
kinds of R172, and the records of the description (R6 to R17), of plans (R68), of trips (R50, R51)
and of watch points (R146). -/

namespace Sys2Proof

/-- Conveyance A or B, and the drum each hangs from. -/
inductive Conv
  | a | b
  deriving DecidableEq, Repr

/-- One value for each of the two drums or conveyances. -/
structure Both (α : Type) where
  a : α
  b : α
  deriving DecidableEq, Repr

/-- Winder states (chapter 6). -/
inductive WinderState
  | checking | stoodDown | idle | preparing | prepared | winding | stopping | held | dwell
  | tripped | lockedOut
  deriving DecidableEq, Repr

/-- Phases of the readiness sequence (R116). -/
inductive Phase
  | signal | gates | torque | release | settle
  deriving DecidableEq, Repr

/-- Rest steps of the landing and of STOPPING (R116). -/
inductive RestStep
  | none | toRest | brakeConfirm
  deriving DecidableEq, Repr

/-- Why the state is STOPPING (R116). -/
inductive StopReason
  | none | request | fault | watch
  deriving DecidableEq, Repr

/-- A stop taken during a landing (R116, R131). -/
inductive DeferredStop
  | none | request | fault
  deriving DecidableEq, Repr

/-- Kinds of DWELL (R116). -/
inductive DwellKind
  | loading | dumping
  deriving DecidableEq, Repr

/-- The unit mode (R122). -/
inductive UnitMode
  | normal | inspection
  deriving DecidableEq, Repr

/-- Where RESET_TRIP returns the winder to (R141, R143). -/
inductive ServiceReturn
  | idle | stoodDown
  deriving DecidableEq, Repr

/-- Clutch states (R158). -/
inductive ClutchState
  | engaged | releasing | released | engaging
  deriving DecidableEq, Repr

/-- Steps of a clutch sequence (R158). -/
inductive ClutchStep
  | none | holding | opening | closing
  deriving DecidableEq, Repr

/-- Segment labels (R78). -/
inductive SegmentLabel
  | none | accel | cruise | decel | creep | landing
  deriving DecidableEq, Repr

/-- Certainty of a conveyance (section 2.4). -/
inductive Certainty
  | certain | degraded | uncertain
  deriving DecidableEq, Repr

/-- Causes of a change of certainty (R34). -/
inductive CertaintyCause
  | datum | mark | sample | crossCheck | description
  deriving DecidableEq, Repr

/-- Load classes (R32). -/
inductive LoadClass
  | empty | persons | material | rock
  deriving DecidableEq, Repr

/-- Conveyance kinds (R11). -/
inductive ConvKind
  | cage | skip | counterweight
  deriving DecidableEq, Repr

/-- Kinds of an occupied level (R6). -/
inductive LevelKind
  | bank | station | pocket | tipple | sump
  deriving DecidableEq, Repr

/-- Trip modes (R50). -/
inductive Mode
  | man | material | rock | inspection
  deriving DecidableEq, Repr

/-- Legs of a skip cycle (R51). -/
inductive Leg
  | toPocket | loading | toTipple | dumping
  deriving DecidableEq, Repr

/-- Direction of travel over a plan (section 4). -/
inductive Travel
  | down | up
  deriving DecidableEq, Repr

/-- Directions in which a mark or a watch entry acts (R8, R146). -/
inductive Facing
  | down | up | either
  deriving DecidableEq, Repr

/-- The store state (R3). -/
inductive StoreState
  | idle | writing
  deriving DecidableEq, Repr

/-- The last write outcome (R3). -/
inductive WriteOutcome
  | none | written | failed
  deriving DecidableEq, Repr

/-- Run states of a drum (section 2.5). -/
inductive RunState
  | none | run | lost
  deriving DecidableEq, Repr

/-- Passage states of a mark (R45). -/
inductive Passage
  | armed | taken | disarmed
  deriving DecidableEq, Repr

/-- ATTN modes (R203). -/
inductive AttnMode
  | level | pulse
  deriving DecidableEq, Repr

/-- How a watch entry is bound to winding (R146). -/
inductive WatchBinding
  | forced | tagged
  deriving DecidableEq, Repr

/-- What a watch entry does; SLOW carries its cap (R146). -/
inductive WatchAction
  | notify
  | slow (cap : Nat)
  | stop
  deriving DecidableEq, Repr

/-- Whether a watch entry is removed when it acts (R146). -/
inductive Persistence
  | once | always
  deriving DecidableEq, Repr

/-- The kind of a binding other than NONE (R152). -/
inductive BindKind
  | notify | slow | stop
  deriving DecidableEq, Repr

/-- Where a plan point came from (R68). -/
inductive Origin
  | target | pocket | tipple | tagged | forced
  deriving DecidableEq, Repr

/-- Receive states of the Control Link Port (R192). -/
inductive ReceiveState
  | hunting | receiving
  deriving DecidableEq, Repr

/-- Reply states of the Control Link Port (R194). -/
inductive ReplyState
  | idle | pending | sending
  deriving DecidableEq, Repr

/-- A severity, 0 to 3 (R172). -/
abbrev Severity := Fin 4

/-- The 31 fault kinds, in order of their numbers (R172). -/
inductive FaultKind
  | envelopeExceeded | overspeed | overwindApproach | overwind | overtravel | tripOvertime
  | directionWrong | unexpectedMotion | driveNotFollowing | sampleInvalid | sampleInvalidStrict
  | positionLost | encoderDisagree | checkChannelLost | markDisagree | markMissed
  | drumDiscrepancy | clutchDrift | clutchNotConfirmed | signalTimeout | torqueNotProven
  | brakeNotReleased | brakeNotApplied | loadTimeout | dumpTimeout | shaftStopSignal | gateOpen
  | unexpectedSignal | emergencyInput | storeInvalid | selfCheck
  deriving DecidableEq, Repr

/-- The kinds of event (R201). -/
inductive EventKind
  | stateChanged | tripQueued | tripEnded | tripInterrupted | tripLanded | tripHeld
  | tripRetargeted | cycleDone | watchFired | markPassed | certaintyChanged | clutchChanged
  | fault | storeWritten | storeWriteFailed
  deriving DecidableEq, Repr

/-- Result codes (R199). -/
inductive ResultCode
  | ok | accepted | badForm | unknownKind | badRange | notStoodDown | notInService | locked | busy
  | uncommitted | invalidDescription | faultsPending | keyAbsent | notStandstill | wrongState
  | duplicateLevel | queueFull | duplicateId | noSuchTrip | isActive | notHead | noSuchLevel
  | levelClosed | noSuchDeck | modeForbidden | addressForbidden | wrongLevelKind | noSkip
  | passiveLimit | positionUncertain | balance | planFull | notPrepared | tooLate
  | wrongDirection | stopping | clutchState | notAligned
  deriving DecidableEq, Repr

/-- The permitted modes of a level: any set of the four modes (R6). -/
structure ModeSet where
  man : Bool
  material : Bool
  rock : Bool
  inspection : Bool
  deriving DecidableEq, Repr

/-- An occupied Level Table entry (R6). -/
structure Level where
  kind : LevelKind
  serves : Conv
  depth : Int
  modes : ModeSet
  inService : Bool
  /-- `none` is the absent gate line. -/
  gate : Option (Fin 16)
  label : List Byte
  deriving DecidableEq, Repr

/-- An occupied Mark Table entry (R8). -/
structure Mark where
  conv : Conv
  depth : Int
  facing : Facing
  line : Fin 24
  deriving DecidableEq, Repr

/-- One layer of rope: its start count and its pitch in nm per count (R9). -/
structure Layer where
  start : Int
  pitch : Nat
  deriving DecidableEq, Repr

/-- The sense of a drum, +1 or −1 (R9). -/
inductive Sense
  | plus | minus
  deriving DecidableEq, Repr

/-- A Drum record (R9). -/
structure Drum where
  sense : Sense
  tolerance : Nat
  layers : List Layer
  deriving DecidableEq, Repr

/-- The stretch coefficients of a conveyance in ppm: four for a CAGE or SKIP, one for a
COUNTERWEIGHT (R11). -/
inductive Stretch
  | perClass (empty persons material rock : Nat)
  | single (k : Nat)
  deriving DecidableEq, Repr

/-- A Conveyance record (R11). -/
structure Conveyance where
  kind : ConvKind
  decks : Nat
  spacing : Nat
  top : Int
  bottom : Int
  ropeOffset : Nat
  stretch : Stretch
  deriving DecidableEq, Repr

/-- The Limits record, its fields in the order of R14. -/
structure Limits where
  samplePeriod : Nat
  vDesign : Nat
  manLimit : Nat
  materialLimit : Nat
  rockLimit : Nat
  inspectionLimit : Nat
  uncertainSpeed : Nat
  declutchedSpeed : Nat
  aAcc : Nat
  aDec : Nat
  aRet : Nat
  aEmg : Nat
  vCreep : Nat
  dCreep : Nat
  landWindow : Nat
  overtravelLimit : Nat
  standstill : Nat
  marginAbs : Nat
  marginPct : Nat
  followLimit : Nat
  followTime : Nat
  overtimeSlack : Nat
  overtimeFixed : Nat
  captureWindow : Nat
  nDeg : Nat
  discrepancyLimit : Nat
  driftLimit : Nat
  clutchTime : Nat
  toothPitch : Nat
  alignTolerance : Nat
  signalWait : Nat
  waitTorque : Nat
  waitRelease : Nat
  waitSettle : Nat
  brakeConfirm : Nat
  loadWait : Nat
  dumpWait : Nat
  attnMode : AttnMode
  adviseEnable : Bool
  strictAll : Bool
  deriving DecidableEq, Repr

/-- The description: its tables and records (R2). -/
structure Description where
  levels : Vector (Option Level) 48
  marks : Vector (Option Mark) 24
  drums : Both Drum
  convs : Both Conveyance
  limits : Limits
  /-- The Severity Map, at place kind − 1 (R17). -/
  severities : Vector Severity 31
  deriving DecidableEq, Repr

/-- The stored copy of the description (R2, R20, R21): blank, written whole with a matching check
value, or without a valid check value. -/
inductive StoredCopy
  | blank
  | unchecked
  | valid (d : Description)
  deriving DecidableEq, Repr

/-- The target of a cage trip as the host gave it (R50). -/
inductive Target
  | station (level deck : Nat)
  | depth (d : Int)
  deriving DecidableEq, Repr

/-- What a trip record orders (R50, R51): a cage trip, or a series of skip cycles. -/
inductive TripBody
  | cage (mode : Mode) (target : Target) (targetDepth : Int)
  | skip (pocket tipple cycles remaining : Nat) (leg : Leg)
  deriving DecidableEq, Repr

/-- A trip record (R50). -/
structure TripRecord where
  id : Nat
  body : TripBody
  /-- The stored speed override; `none` is absent (R56). -/
  override : Option Nat
  /-- Status ACTIVE (R49). -/
  active : Bool
  interrupted : Bool
  deriving DecidableEq, Repr

/-- The kind of a plan point; SLOW carries its cap (R68). -/
inductive PointKind
  | stop
  | slow (cap : Nat)
  deriving DecidableEq, Repr

/-- A plan point (R68). -/
structure PlanPoint where
  kind : PointKind
  depth : Int
  origin : Origin
  watchId : Option Nat
  deriving DecidableEq, Repr

/-- A watch entry with its binding to the plan now held (R146). -/
structure WatchEntry where
  conv : Conv
  depth : Int
  facing : Facing
  binding : WatchBinding
  action : WatchAction
  persistence : Persistence
  /-- The trip a tagged entry applies to; `none` means every trip. -/
  trip : Option Nat
  /-- Binding NONE, or its kind and the bound depth of the guide (R152). -/
  bound : Option (BindKind × Int)
  deriving DecidableEq, Repr

/-- An event record (R201). Its flags are clear at raising and stay clear in the queue (R200); the
overrun flag is set only in the reply that carries it (R202). -/
structure EventRecord where
  kind : EventKind
  trip : Nat
  time : Nat
  v1 : Word32
  v2 : Word32
  v3 : Word32
  v4 : Word32
  deriving DecidableEq, Repr

/-- A fault report: its kind, its subject and the numeric items of its context (R174, R176). -/
structure Report where
  kind : FaultKind
  subject : Nat
  item1 : Int
  item2 : Int
  item3 : Int
  deriving DecidableEq, Repr

/-- The First-Fault Record (R184). -/
structure FirstFault where
  kind : FaultKind
  severity : Severity
  time : Nat
  winder : WinderState
  trip : Option Nat
  label : SegmentLabel
  depth : Both Int
  speed : Both Int
  ref : Int
  env : Nat
  certainty : Both Certainty
  clutch : ClutchState
  /-- Subject and context as the four values of the FAULT event (R176). -/
  v1 : Word32
  v2 : Word32
  v3 : Word32
  v4 : Word32
  deriving DecidableEq, Repr

/-- A record of the Later-Fault List (R185). -/
structure LaterFault where
  kind : FaultKind
  severity : Severity
  time : Nat
  depth : Int
  trip : Option Nat
  deriving DecidableEq, Repr

end Sys2Proof
end

