-- ==== Sys2Proof/Syntax.lean ====
section
/-! DEFINITION. The commands: one constructor for each row of the table of operations and events, with
the operands that the outside world supplies. -/

namespace Sys2Proof

/-- A change of an input line on which no rule acts when it comes, the line being read only later:
the lines without a row of their own, and the changes opposite to the rows (log 6). -/
inductive QuietChange
  | torqueOk (asserted : Bool)
  | brakeReleased (asserted : Bool)
  | keyOk (asserted : Bool)
  | signalOkWithdrawn
  | shaftStopWithdrawn
  | emergencyInMade
  | gateCloses (line : Fin 16)
  | brakeAppliedWithdrawn
  | bBrakeAppliedWithdrawn
  | skipLoadedWithdrawn
  | skipDumpedWithdrawn
  deriving DecidableEq, Repr

/-- What has passed since the command before: the time, and the quiet changes in their order
(logs 5 and 6). -/
structure Elapse where
  micros : Nat
  quiet : List QuietChange
  deriving DecidableEq, Repr

/-- The debounced state of each contact input; `true` is asserted, made or, for a gate, closed
(section 3, R1). -/
structure InputLines where
  signalOk : Bool
  shaftStop : Bool
  emergencyIn : Bool
  torqueOk : Bool
  brakeReleased : Bool
  brakeApplied : Bool
  bBrakeApplied : Bool
  clutchOpen : Bool
  clutchClosed : Bool
  skipLoaded : Bool
  skipDumped : Bool
  keyOk : Bool
  gates : Vector Bool 16
  deriving DecidableEq, Repr

/-- What power-on finds: the first debounced state of the lines, the straps (R191), the number of the
self-check test that fails, if one does (R178), and whether the store is loaded in this step or only
at the end of CHECKING (R21, log 8). -/
structure PowerUp where
  lines : InputLines
  addrStrap : Fin 32
  baudStrap : Bool
  selfCheck : Option Nat
  loadNow : Bool
  deriving DecidableEq, Repr

/-- What one encoder head delivered within the sample period (R24): no complete position word, or a
word with its raw count and its error indication. -/
inductive HeadWord
  | missing
  | word (raw : Word32) (error : Bool)
  deriving DecidableEq, Repr

/-- The four heads (R24). -/
structure Heads where
  primary : Both HeadWord
  check : Both HeadWord
  deriving DecidableEq, Repr

/-- The blocks that take the depths and speeds of one Sample record, in an order the manual leaves
open (section 2, R47, R100; log 7). -/
inductive SampleBlock
  | reference | envelope | watch | clutch | executive
  deriving DecidableEq, Repr

/-- What the read-back of a store write finds (R20, R201). -/
inductive ReadBack
  | agrees
  | differs (offset : Nat)
  deriving DecidableEq, Repr

/-- The test of R193 that a discarded frame fails. -/
inductive DiscardReason
  | badCrc | otherAddress | replyBusy
  deriving DecidableEq, Repr

/-- The commands of the WM-24. A request row carries the tag and the payload of a complete frame
addressed to the unit with a good CRC (R193, R207). -/
inductive Instr
  /-- POWER_ON (R119): Power is applied: the device enters CHECKING, resets every block to its power-on values and starts sampling. -/
  | powerOn (up : PowerUp)
  /-- CHECKING_END (R119): CHECKING completes and the winder goes to LOCKED_OUT, TRIPPED or STOOD_DOWN by the highest pending severity. -/
  | checkingEnd (e : Elapse)
  /-- CLUTCH_POWER_ON_READ (R159): Once the clutch switches have debounced states, the Clutch Controller reads them once and sets the clutch state. -/
  | clutchPowerOnRead (e : Elapse)
  /-- SAMPLE (R24): At the end of each sample period the Encoder Front End forms a Sample record and hands it to the Position Model. -/
  | sample (e : Elapse) (heads : Heads) (order : List SampleBlock)
  /-- RUN_LOST (R39): The degraded count exceeds N_deg: the run becomes LOST and the model is held. -/
  | runLost (e : Elapse) (drum : Conv)
  /-- MARK_EDGE (R41): A rising edge on a MARK line is taken for its mark or ignored. -/
  | markEdge (e : Elapse) (line : Fin 24) (age : Nat)
  /-- DRIVE_NOT_FOLLOWING (R99): A following error that has lasted the follow time reports kind 9. -/
  | driveNotFollowing (e : Elapse)
  /-- TRIP_OVERTIME (R101): The passing of the overtime deadline in WINDING or STOPPING reports kind 6. -/
  | tripOvertime (e : Elapse)
  /-- SIGNAL_OK_ASSERTED (R125): SIGNAL_OK asserted in phase SIGNAL ends the phase and the GATES test follows. -/
  | signalOkAsserted (e : Elapse)
  /-- SHAFT_STOP_ASSERTED (R138): SHAFT_STOP asserted in PREPARING, PREPARED or WINDING reports kind 26. -/
  | shaftStopAsserted (e : Elapse)
  /-- EMERGENCY_IN_OPEN (R178): The debounced EMERGENCY_IN going open reports EMERGENCY_INPUT, kind 29. -/
  | emergencyInOpen (e : Elapse)
  /-- GATE_OPENS (R137): A supervised gate line going withdrawn is reported as GATE_OPEN, kind 27, where the state calls for it. -/
  | gateOpens (e : Elapse) (line : Fin 16)
  /-- BRAKE_APPLIED_ASSERTED (R130): BRAKE_APPLIED asserted in BRAKE_CONFIRM confirms the brakes and ends the landing or the stop. -/
  | brakeAppliedAsserted (e : Elapse)
  /-- B_BRAKE_APPLIED_ASSERTED (R161): B_BRAKE_APPLIED asserted in HOLDING ends the step and OPENING begins. -/
  | bBrakeAppliedAsserted (e : Elapse)
  /-- CLUTCH_SWITCH_CHANGE (R166): A change of CLUTCH_OPEN or CLUTCH_CLOSED completes a sequence step or is supervised for disagreement. -/
  | clutchSwitchChange (e : Elapse) (opened closed : Bool)
  /-- SKIP_LOADED_ASSERTED (R133): SKIP_LOADED asserted in DWELL LOADING makes the skip ROCK and begins the leg to the tipple. -/
  | skipLoadedAsserted (e : Elapse)
  /-- SKIP_DUMPED_ASSERTED (R134): SKIP_DUMPED asserted in DWELL DUMPING empties the skip and completes a cycle. -/
  | skipDumpedAsserted (e : Elapse)
  /-- SIGNAL_WAIT_EXPIRY (R125): The signal wait expires in phase SIGNAL and the phase fails with SIGNAL_TIMEOUT. -/
  | signalWaitExpiry (e : Elapse)
  /-- TORQUE_WAIT_EXPIRY (R126): W1 expires: RELEASE begins with TORQUE_OK asserted, or the phase fails with TORQUE_NOT_PROVEN. -/
  | torqueWaitExpiry (e : Elapse)
  /-- RELEASE_WAIT_EXPIRY (R126): W2 expires: SETTLE begins with BRAKE_RELEASED asserted, or the phase fails with BRAKE_NOT_RELEASED. -/
  | releaseWaitExpiry (e : Elapse)
  /-- SETTLE_WAIT_EXPIRY (R126): W3 expires: the winder goes to WINDING if START is held or a later leg runs, otherwise to PREPARED. -/
  | settleWaitExpiry (e : Elapse)
  /-- BRAKE_TIMER_EXPIRY (R130): The brake confirm time expires and BRAKE_NOT_APPLIED is reported. -/
  | brakeTimerExpiry (e : Elapse)
  /-- LOAD_WAIT_EXPIRY (R135): The load wait expires in DWELL LOADING and LOAD_TIMEOUT is reported. -/
  | loadWaitExpiry (e : Elapse)
  /-- DUMP_WAIT_EXPIRY (R135): The dump wait expires in DWELL DUMPING and DUMP_TIMEOUT is reported. -/
  | dumpWaitExpiry (e : Elapse)
  /-- CLUTCH_RELEASE_TIMEOUT (R162): The clutch timer expires in HOLDING or OPENING, and the release fails back to ENGAGED. -/
  | clutchReleaseTimeout (e : Elapse)
  /-- CLUTCH_ENGAGE_TIMEOUT (R164): The clutch timer expires in CLOSING, and the engagement fails back to RELEASED. -/
  | clutchEngageTimeout (e : Elapse)
  /-- STORE_WRITE_END (R20): A store write ends with its read-back, and the store state returns to IDLE. -/
  | storeWriteEnd (e : Elapse) (readBack : ReadBack)
  /-- ATTN_PULSE_END (R203): The 1 ms ATTN pulse of PULSE mode expires and ATTN is withdrawn. -/
  | attnPulseEnd (e : Elapse)
  /-- FRAME_GAP_TIMEOUT (R192): A gap of more than 5 ms while RECEIVING abandons the frame silently. -/
  | frameGapTimeout (e : Elapse)
  /-- FRAME_DISCARD (R193): A complete frame with a bad CRC, another address or a busy reply state is dropped silently. -/
  | frameDiscard (e : Elapse) (why : DiscardReason)
  /-- REPLY_BEGIN (R194): The device begins sending the pending reply within 10 ms, and the reply state becomes SENDING. -/
  | replyBegin (e : Elapse)
  /-- REPLY_END (R194): The last reply byte is sent and the reply state returns to IDLE. -/
  | replyEnd (e : Elapse)
  /-- UNKNOWN_KIND (R195): A request of an unlisted kind is refused with UNKNOWN_KIND. -/
  | unknownKind (e : Elapse) (tag kind : Byte) (payload : List Byte)
  /-- ASK_IDENTITY (R205): Returns the vendor, part, revision, address, rate and capacities. -/
  | askIdentity (e : Elapse) (tag : Byte) (payload : List Byte)
  /-- ASK_STATUS (R206): Returns the status summary of R209. -/
  | askStatus (e : Elapse) (tag : Byte) (payload : List Byte)
  /-- ASK_POSITION (R47): Returns the position model items of each conveyance, drum and mark. -/
  | askPosition (e : Elapse) (tag : Byte) (payload : List Byte)
  /-- ASK_QUEUE (R59): Returns every trip record in queue order. -/
  | askQueue (e : Elapse) (tag : Byte) (payload : List Byte)
  /-- TAKE_EVENTS (R202): Removes and returns up to max n of the oldest event records, flagging an overrun. -/
  | takeEvents (e : Elapse) (tag : Byte) (payload : List Byte)
  /-- ASK_FAULTS (R187): Returns the pending count, the response in force, STOP_REQ, ADVISE and the Fault Kind Table. -/
  | askFaults (e : Elapse) (tag : Byte) (payload : List Byte)
  /-- READ_FAULT_LOG (R189): Returns the First-Fault Record and the Later-Fault List records from a start position. -/
  | readFaultLog (e : Elapse) (tag : Byte) (payload : List Byte)
  /-- ACK_FAULT (R186): Clears the pending flag of a kind or of all kinds. -/
  | ackFault (e : Elapse) (tag : Byte) (payload : List Byte)
  /-- CLEAR_FAULT_LOG (R188): Empties the fault log when no kind is pending. -/
  | clearFaultLog (e : Elapse) (tag : Byte) (payload : List Byte)
  /-- ASK_WATCH (R148): Returns every watch entry with its binding. -/
  | askWatch (e : Elapse) (tag : Byte) (payload : List Byte)
  /-- PUT_LEVEL (R7): Writes or empties a Level Table entry after the range and duplicate checks. -/
  | putLevel (e : Elapse) (tag : Byte) (payload : List Byte)
  /-- ASK_LEVEL (R6): Returns the description status and a Level Table entry. -/
  | askLevel (e : Elapse) (tag : Byte) (payload : List Byte)
  /-- PUT_MARK (R8): Writes or empties a Mark Table entry. -/
  | putMark (e : Elapse) (tag : Byte) (payload : List Byte)
  /-- ASK_MARK (R8): Returns the description status and a Mark Table entry. -/
  | askMark (e : Elapse) (tag : Byte) (payload : List Byte)
  /-- PUT_DRUM (R10): Replaces a Drum record after its checks. -/
  | putDrum (e : Elapse) (tag : Byte) (payload : List Byte)
  /-- ASK_DRUM (R9): Returns the description status and a Drum record. -/
  | askDrum (e : Elapse) (tag : Byte) (payload : List Byte)
  /-- PUT_CONVEYANCE (R12): Replaces a Conveyance record after its checks. -/
  | putConveyance (e : Elapse) (tag : Byte) (payload : List Byte)
  /-- ASK_CONVEYANCE (R11): Returns the description status and a Conveyance record. -/
  | askConveyance (e : Elapse) (tag : Byte) (payload : List Byte)
  /-- PUT_LIMITS (R15): Replaces the Limits record, clamping the mode limits to the design speed. -/
  | putLimits (e : Elapse) (tag : Byte) (payload : List Byte)
  /-- ASK_LIMITS (R14): Returns the description status and the Limits record. -/
  | askLimits (e : Elapse) (tag : Byte) (payload : List Byte)
  /-- PUT_SEVERITY (R17): Stores a fault kind's severity, raised to its floor. -/
  | putSeverity (e : Elapse) (tag : Byte) (payload : List Byte)
  /-- COMMIT (R19): Validates the working description and starts a store write. -/
  | commit (e : Elapse) (tag : Byte) (payload : List Byte)
  /-- SET_DATUM (R33): Sets a conveyance's datum at a level or depth and makes it CERTAIN. -/
  | setDatum (e : Elapse) (tag : Byte) (payload : List Byte)
  /-- SET_SERVICE_ON (R120): Takes the winder from STOOD_DOWN into IDLE after its checks. -/
  | setServiceOn (e : Elapse) (tag : Byte)
  /-- SET_SERVICE_OFF (R121): Takes the winder from IDLE to STOOD_DOWN, discarding the queue. -/
  | setServiceOff (e : Elapse) (tag : Byte)
  /-- SET_MODE (R122): Sets the unit mode in IDLE. -/
  | setMode (e : Elapse) (tag : Byte) (payload : List Byte)
  /-- QUEUE_TRIP (R54): Admits a cage trip record to the Trip Queue after the admission checks. -/
  | queueTrip (e : Elapse) (tag : Byte) (payload : List Byte)
  /-- QUEUE_SKIP_CYCLES (R55): Admits a skip cycles record after the admission checks. -/
  | queueSkipCycles (e : Elapse) (tag : Byte) (payload : List Byte)
  /-- WITHDRAW (R58): Removes a PENDING record with TRIP_ENDED WITHDRAWN. -/
  | withdraw (e : Elapse) (tag : Byte) (payload : List Byte)
  /-- PREPARE (R123): Activates the head trip after the activation checks and starts the readiness sequence. -/
  | prepare (e : Elapse) (tag : Byte) (payload : List Byte)
  /-- START (R128): Starts winding from PREPARED, holds a START in PREPARING, or resumes from HELD. -/
  | start (e : Elapse) (tag : Byte) (payload : List Byte)
  /-- STOP (R129): Abandons readiness, orders a stop, defers it during a landing, or interrupts from HELD or DWELL. -/
  | stop (e : Elapse) (tag : Byte) (payload : List Byte)
  /-- RETARGET (R84): Sends the winding cage trip to a new target in the same direction after its checks. -/
  | retarget (e : Elapse) (tag : Byte) (payload : List Byte)
  /-- SET_WATCH (R147): Places or replaces a watch entry. -/
  | setWatch (e : Elapse) (tag : Byte) (payload : List Byte)
  /-- CLEAR_WATCH (R148): Removes one watch entry or all of them. -/
  | clearWatch (e : Elapse) (tag : Byte) (payload : List Byte)
  /-- CLUTCH_OUT (R160): Starts the release of the clutch after its checks. -/
  | clutchOut (e : Elapse) (tag : Byte) (payload : List Byte)
  /-- CLUTCH_IN (R163): Starts the engagement of the clutch after the alignment test. -/
  | clutchIn (e : Elapse) (tag : Byte) (payload : List Byte)
  /-- RESET_TRIP (R143): Returns the winder from TRIPPED to its service return after its checks. -/
  | resetTrip (e : Elapse) (tag : Byte) (payload : List Byte)
  /-- CLEAR_LOCKOUT (R144): With the key, clears the severity-3 flags, discards the queue and returns to STOOD_DOWN. -/
  | clearLockout (e : Elapse) (tag : Byte) (payload : List Byte)
  /-- RESTART (R145): Empties the queues and the watch table, clears the pending flags and returns to STOOD_DOWN. -/
  | restart (e : Elapse) (tag : Byte) (payload : List Byte)
  /-- BYTE_RECEIVED (R192): A byte arrives on the Control Link: in HUNTING an A5h starts a frame, and in RECEIVING the byte is gathered, with a length byte outside 2 to 202 abandoning the frame. -/
  | byteReceived (e : Elapse) (byte : Byte)
  deriving DecidableEq, Repr

end Sys2Proof
end

