-- ==== Sys2Proof/Decode.lean ====
section
/-! DEFINITION. The table gives no row any bits, so no word spells a command. The frames of the Control
Link, which do carry requests as bytes, are read by the receiver of R192 to R195
(Machine/LinkRequests.lean). -/

namespace Sys2Proof

/-- The command a word spells by the table's bits: the table gives none to any row. -/
def decodeTableWord (_nbits _w : Nat) : Option Instr := none

end Sys2Proof
end

