-- ==== Sys2Proof/Config.lean ====
section
/-! DEFINITION. What the manual fixes as a number of the part, and the values it leaves open, each an
opaque constant that nothing can evaluate. -/

namespace Sys2Proof.Config

/-- Records the Trip Queue holds at most (R49). -/
def queueCapacity : Nat := 12
/-- Records the Event Queue holds at most (R200). -/
def eventCapacity : Nat := 32
/-- Records the Later-Fault List holds at most (R185). -/
def laterCapacity : Nat := 15
/-- Points a plan holds at most (R68). -/
def planCapacity : Nat := 8
/-- Least depth of the depth range, mm (section 6.1). -/
def depthMin : Int := -200000
/-- Greatest depth of the depth range, mm (section 6.1). -/
def depthMax : Int := 3400000
/-- Least distance between two levels of one conveyance, mm (R7). -/
def levelGap : Int := 1000
/-- Bound of a drum speed, mm/s (R30). -/
def speedBound : Int := 65535
/-- Rope wound back that DIRECTION_WRONG allows, nm (R98). -/
def rollbackLimit : Int := 100000000
/-- Length of an ATTN pulse, µs (R203). -/
def pulseMicros : Nat := 1000

/-- The microsecond clock runs over the least common period of the 32-bit millisecond clock and the
32-bit sample clock (section 6.5), so that both wrap as the manual says. -/
def clockPeriod : Nat := 1000 * 2 ^ 32

/-- DESIGN CHOICE (log 2), safe. The bytes of the store area for a description: the manual gives the
CRC-32 of them (R20) and not their layout. -/
opaque storeImage : Description → List Byte

/-- DESIGN CHOICE (log 3), safe. A 4-byte field whose quantity does not fit 32 bits: no rule says
what it carries (R31 leaves a depth unclamped). -/
opaque unfit32 : Int → Word32

/-- DESIGN CHOICE (log 4), safe. The speed of R30 where the interval it divides by is 0, from the
change of length. -/
opaque speedAtZeroInterval : Int → Int

end Sys2Proof.Config
end

