-- ==== Sys2Proof/Machine/Arith.lean ====
section
/-! DEFINITION. The integer arithmetic of section 6.6, the clock differences of R25 and R74, the byte
order and field widths of section 6.7 and R198, and the two CRCs (R207, R20). -/

namespace Sys2Proof.Machine

/-- The digits of the square root below bit `b`, added to the root found so far. -/
def isqrtFrom : Nat → Nat → Nat → Nat
  | 0, _, r => r
  | b + 1, n, r => isqrtFrom b n (if (r + 2 ^ b) * (r + 2 ^ b) ≤ n then r + 2 ^ b else r)

/-- isqrt: the floor of the exact square root (section 6.6). -/
def isqrt (n : Nat) : Nat := isqrtFrom (n.log2 / 2 + 1) n 0

/-- ceil(n / d) on non-negative operands (section 6.6). -/
def ceilDiv (n d : Nat) : Nat := (n + d - 1) / d

/-- A length in nanometres truncated to millimetres (R31, R40). -/
def truncMm (nm : Int) : Int := nm.tdiv 1000000

/-- |x| as a natural number. -/
def mag (x : Int) : Nat := x.natAbs

/-- A difference of two sample times, modulo 2³², read as a signed 32-bit value (R25). -/
def signedElapsed (later earlier : Nat) : Int := Int.bmod ((later : Int) - earlier) (2 ^ 32)

/-- A difference of two 32-bit times, modulo 2³² (R74, R99, R101). -/
def unsignedElapsed (later earlier : Nat) : Nat := (((later : Int) - earlier) % 2 ^ 32).toNat

/-- A byte of a natural number. -/
def byteAt (n i : Nat) : Byte := BitVec.ofNat 8 (n / 256 ^ i)

/-- A 1-byte field. -/
def le8 (n : Nat) : List Byte := [byteAt n 0]

/-- A 2-byte field, least significant byte first (section 6.7). -/
def le16 (n : Nat) : List Byte := [byteAt n 0, byteAt n 1]

/-- A 3-byte field, least significant byte first (R198, ASK_WATCH). -/
def le24 (n : Nat) : List Byte := [byteAt n 0, byteAt n 1, byteAt n 2]

/-- A 4-byte field, least significant byte first. -/
def leWord (w : Word32) : List Byte :=
  [byteAt w.toNat 0, byteAt w.toNat 1, byteAt w.toNat 2, byteAt w.toNat 3]

/-- A signed quantity as a 32-bit value in two's complement (R201); a quantity that does not fit is
free (log 3). -/
def word32 (x : Int) : Word32 :=
  if -2 ^ 31 ≤ x ∧ x < 2 ^ 31 then BitVec.ofInt 32 x else Config.unfit32 x

/-- An unsigned quantity as a 32-bit value; one that does not fit is free (log 3). -/
def uword32 (n : Nat) : Word32 :=
  if n < 2 ^ 32 then BitVec.ofNat 32 n else Config.unfit32 n

/-- A signed 4-byte field. -/
def leInt (x : Int) : List Byte := leWord (word32 x)

/-- An unsigned 4-byte field. -/
def leNat32 (n : Nat) : List Byte := leWord (uword32 n)

/-- A signed 3-byte field (R198, ASK_WATCH). -/
def leInt24 (x : Int) : List Byte := le24 (BitVec.ofInt 24 x).toNat

/-- A yes/no byte (R199). -/
def leBool (b : Bool) : List Byte := [if b then 1 else 0]

/-- Reads a little-endian unsigned field. -/
def natOfBytes : List Byte → Nat
  | [] => 0
  | b :: bs => b.toNat + 256 * natOfBytes bs

/-- The unsigned field of `w` bytes at offset `i` of a payload. -/
def fieldNat (p : List Byte) (i w : Nat) : Nat := natOfBytes ((p.drop i).take w)

/-- The signed 4-byte field at offset `i` of a payload. -/
def fieldInt (p : List Byte) (i : Nat) : Int := (BitVec.ofNat 32 (fieldNat p i 4)).toInt

/-- One bit of the CRC-16: polynomial 1021h, most significant bit first (R207). -/
def crc16Bit (c : BitVec 16) : BitVec 16 :=
  if c.msb then (c <<< 1) ^^^ 0x1021#16 else c <<< 1

/-- One byte of the CRC-16 (R207). -/
def crc16Byte (c : BitVec 16) (b : Byte) : BitVec 16 :=
  Nat.repeat crc16Bit 8 (c ^^^ (b.setWidth 16 <<< 8))

/-- The CRC-16 of R207: initial value FFFFh, neither reflected nor inverted. -/
def crc16 (bs : List Byte) : BitVec 16 := bs.foldl crc16Byte 0xFFFF#16

/-- One bit of the CRC-32 of R20, polynomial 04C11DB7h with input and output reflected. -/
def crc32Bit (c : Word32) : Word32 :=
  if c.getLsbD 0 then (c >>> 1) ^^^ 0xEDB88320#32 else c >>> 1

/-- One byte of the CRC-32. -/
def crc32Byte (c : Word32) (b : Byte) : Word32 :=
  Nat.repeat crc32Bit 8 (c ^^^ b.setWidth 32)

/-- The CRC-32 of R20: initial value FFFFFFFFh, the result inverted. -/
def crc32 (bs : List Byte) : Word32 := ~~~ (bs.foldl crc32Byte 0xFFFFFFFF#32)

end Sys2Proof.Machine
end

