-- ==== Sys2Proof/Machine/Codes.lean ====
section
/-! DEFINITION. The codes of R199, R172 and R201, and the readings of those that requests carry. -/

namespace Sys2Proof

/-- Code on the link (R199). -/
def WinderState.code : WinderState → Nat
  | .checking => 0 | .stoodDown => 1 | .idle => 2 | .preparing => 3 | .prepared => 4
  | .winding => 5 | .stopping => 6 | .held => 7 | .dwell => 8 | .tripped => 9 | .lockedOut => 10

/-- Code on the link (R199). -/
def Phase.code : Phase → Nat
  | .signal => 1 | .gates => 2 | .torque => 3 | .release => 4 | .settle => 5

/-- Code on the link (R199). -/
def RestStep.code : RestStep → Nat
  | .none => 0 | .toRest => 1 | .brakeConfirm => 2

/-- Code on the link (R199). -/
def StopReason.code : StopReason → Nat
  | .none => 0 | .request => 1 | .fault => 2 | .watch => 3

/-- Code on the link (R199). -/
def DwellKind.code : DwellKind → Nat
  | .loading => 1 | .dumping => 2

/-- Code on the link (R199). -/
def UnitMode.code : UnitMode → Nat
  | .normal => 0 | .inspection => 1

/-- Code on the link (R199). -/
def ClutchState.code : ClutchState → Nat
  | .engaged => 0 | .releasing => 1 | .released => 2 | .engaging => 3

/-- Code on the link (R199). -/
def SegmentLabel.code : SegmentLabel → Nat
  | .none => 0 | .accel => 1 | .cruise => 2 | .decel => 3 | .creep => 4 | .landing => 5

/-- Code on the link (R199). -/
def Certainty.code : Certainty → Nat
  | .certain => 0 | .degraded => 1 | .uncertain => 2

/-- Code on the link (R199). -/
def CertaintyCause.code : CertaintyCause → Nat
  | .datum => 1 | .mark => 2 | .sample => 3 | .crossCheck => 4 | .description => 5

/-- Code on the link (R199). -/
def LoadClass.code : LoadClass → Nat
  | .empty => 0 | .persons => 1 | .material => 2 | .rock => 3

/-- Code on the link (R199). -/
def Conv.code : Conv → Nat
  | .a => 1 | .b => 2

/-- Code on the link (R199). -/
def ConvKind.code : ConvKind → Nat
  | .cage => 1 | .skip => 2 | .counterweight => 3

/-- Code on the link (R199). -/
def LevelKind.code : LevelKind → Nat
  | .bank => 1 | .station => 2 | .pocket => 3 | .tipple => 4 | .sump => 5

/-- Code on the link (R199). -/
def Mode.code : Mode → Nat
  | .man => 1 | .material => 2 | .rock => 3 | .inspection => 4

/-- Code on the link (R199). -/
def Leg.code : Leg → Nat
  | .toPocket => 1 | .loading => 2 | .toTipple => 3 | .dumping => 4

/-- Code on the link (R199). -/
def Facing.code : Facing → Nat
  | .down => 1 | .up => 2 | .either => 3

/-- Code on the link (R199). -/
def WatchBinding.code : WatchBinding → Nat
  | .forced => 1 | .tagged => 2

/-- Code on the link (R199). -/
def Persistence.code : Persistence → Nat
  | .once => 1 | .always => 2

/-- Code on the link (R199). -/
def BindKind.code : BindKind → Nat
  | .notify => 1 | .slow => 2 | .stop => 3

/-- Code on the link (R199). -/
def StoreState.code : StoreState → Nat
  | .idle => 0 | .writing => 1

/-- Code on the link (R199). -/
def WriteOutcome.code : WriteOutcome → Nat
  | .none => 0 | .written => 1 | .failed => 2

/-- Code on the link (R199). -/
def RunState.code : RunState → Nat
  | .none => 0 | .run => 1 | .lost => 2

/-- Code on the link (R199). -/
def Passage.code : Passage → Nat
  | .armed => 0 | .taken => 1 | .disarmed => 2

/-- Code on the link (R199). -/
def AttnMode.code : AttnMode → Nat
  | .level => 0 | .pulse => 1

/-- The number of a fault kind (R172). -/
def FaultKind.code : FaultKind → Nat
  | .envelopeExceeded => 1 | .overspeed => 2 | .overwindApproach => 3 | .overwind => 4
  | .overtravel => 5 | .tripOvertime => 6 | .directionWrong => 7 | .unexpectedMotion => 8
  | .driveNotFollowing => 9 | .sampleInvalid => 10 | .sampleInvalidStrict => 11
  | .positionLost => 12 | .encoderDisagree => 13 | .checkChannelLost => 14 | .markDisagree => 15
  | .markMissed => 16 | .drumDiscrepancy => 17 | .clutchDrift => 18 | .clutchNotConfirmed => 19
  | .signalTimeout => 20 | .torqueNotProven => 21 | .brakeNotReleased => 22
  | .brakeNotApplied => 23 | .loadTimeout => 24 | .dumpTimeout => 25 | .shaftStopSignal => 26
  | .gateOpen => 27 | .unexpectedSignal => 28 | .emergencyInput => 29 | .storeInvalid => 30
  | .selfCheck => 31

/-- The code of an event kind (R201). -/
def EventKind.code : EventKind → Nat
  | .stateChanged => 1 | .tripQueued => 2 | .tripEnded => 3 | .tripInterrupted => 4
  | .tripLanded => 5 | .tripHeld => 6 | .tripRetargeted => 7 | .cycleDone => 8 | .watchFired => 9
  | .markPassed => 10 | .certaintyChanged => 11 | .clutchChanged => 12 | .fault => 13
  | .storeWritten => 14 | .storeWriteFailed => 15

/-- The first payload byte of a reply (R199). -/
def ResultCode.code : ResultCode → Nat
  | .ok => 0x00 | .accepted => 0x01 | .badForm => 0x10 | .unknownKind => 0x11 | .badRange => 0x12
  | .notStoodDown => 0x13 | .notInService => 0x14 | .locked => 0x15 | .busy => 0x16
  | .uncommitted => 0x17 | .invalidDescription => 0x18 | .faultsPending => 0x19
  | .keyAbsent => 0x1A | .notStandstill => 0x1B | .wrongState => 0x1C | .duplicateLevel => 0x1D
  | .queueFull => 0x20 | .duplicateId => 0x21 | .noSuchTrip => 0x22 | .isActive => 0x23
  | .notHead => 0x24 | .noSuchLevel => 0x25 | .levelClosed => 0x26 | .noSuchDeck => 0x27
  | .modeForbidden => 0x28 | .addressForbidden => 0x29 | .wrongLevelKind => 0x2A
  | .noSkip => 0x2B | .passiveLimit => 0x2C | .positionUncertain => 0x2D | .balance => 0x2E
  | .planFull => 0x2F | .notPrepared => 0x30 | .tooLate => 0x31 | .wrongDirection => 0x32
  | .stopping => 0x33 | .clutchState => 0x34 | .notAligned => 0x35

/-- Reads a code; a code not in the table has no reading. -/
def Conv.ofCode : Nat → Option Conv
  | 1 => some .a | 2 => some .b | _ => none

/-- Reads a code; a code not in the table has no reading. -/
def ConvKind.ofCode : Nat → Option ConvKind
  | 1 => some .cage | 2 => some .skip | 3 => some .counterweight | _ => none

/-- Reads a code; a code not in the table has no reading. -/
def LevelKind.ofCode : Nat → Option LevelKind
  | 1 => some .bank | 2 => some .station | 3 => some .pocket | 4 => some .tipple
  | 5 => some .sump | _ => none

/-- Reads a code; a code not in the table has no reading. -/
def Mode.ofCode : Nat → Option Mode
  | 1 => some .man | 2 => some .material | 3 => some .rock | 4 => some .inspection | _ => none

/-- Reads a code; a code not in the table has no reading. -/
def Facing.ofCode : Nat → Option Facing
  | 1 => some .down | 2 => some .up | 3 => some .either | _ => none

/-- Reads a code; a code not in the table has no reading. -/
def WatchBinding.ofCode : Nat → Option WatchBinding
  | 1 => some .forced | 2 => some .tagged | _ => none

/-- Reads a code; a code not in the table has no reading. -/
def Persistence.ofCode : Nat → Option Persistence
  | 1 => some .once | 2 => some .always | _ => none

/-- Reads a code; a code not in the table has no reading. -/
def FaultKind.ofCode : Nat → Option FaultKind
  | 1 => some .envelopeExceeded | 2 => some .overspeed | 3 => some .overwindApproach
  | 4 => some .overwind | 5 => some .overtravel | 6 => some .tripOvertime
  | 7 => some .directionWrong | 8 => some .unexpectedMotion | 9 => some .driveNotFollowing
  | 10 => some .sampleInvalid | 11 => some .sampleInvalidStrict | 12 => some .positionLost
  | 13 => some .encoderDisagree | 14 => some .checkChannelLost | 15 => some .markDisagree
  | 16 => some .markMissed | 17 => some .drumDiscrepancy | 18 => some .clutchDrift
  | 19 => some .clutchNotConfirmed | 20 => some .signalTimeout | 21 => some .torqueNotProven
  | 22 => some .brakeNotReleased | 23 => some .brakeNotApplied | 24 => some .loadTimeout
  | 25 => some .dumpTimeout | 26 => some .shaftStopSignal | 27 => some .gateOpen
  | 28 => some .unexpectedSignal | 29 => some .emergencyInput | 30 => some .storeInvalid
  | 31 => some .selfCheck | _ => none

/-- The fault kinds in order of number (R172). -/
def FaultKind.all : List FaultKind :=
  [.envelopeExceeded, .overspeed, .overwindApproach, .overwind, .overtravel, .tripOvertime,
   .directionWrong, .unexpectedMotion, .driveNotFollowing, .sampleInvalid,
   .sampleInvalidStrict, .positionLost, .encoderDisagree, .checkChannelLost, .markDisagree,
   .markMissed, .drumDiscrepancy, .clutchDrift, .clutchNotConfirmed, .signalTimeout,
   .torqueNotProven, .brakeNotReleased, .brakeNotApplied, .loadTimeout, .dumpTimeout,
   .shaftStopSignal, .gateOpen, .unexpectedSignal, .emergencyInput, .storeInvalid, .selfCheck]

/-- The place of a kind in a table of 31 rows. -/
def FaultKind.idx (k : FaultKind) : Nat := k.code - 1

/-- The direction in which an entry acts, as code of a direction of travel. -/
def Travel.facing : Travel → Facing
  | .down => .down | .up => .up

/-- The opposite direction of travel. -/
def Travel.opposite : Travel → Travel
  | .down => .up | .up => .down

/-- Whether an entry's direction admits a direction of motion. -/
def Facing.admits : Facing → Travel → Bool
  | .either, _ => true
  | .down, .down => true
  | .up, .up => true
  | _, _ => false

/-- The sum of weights of the permitted modes (R199). -/
def ModeSet.code (m : ModeSet) : Nat :=
  (if m.man then 1 else 0) + (if m.material then 2 else 0) + (if m.rock then 4 else 0)
    + (if m.inspection then 8 else 0)

/-- Reads the sum of weights of the permitted modes; a sum above 15 has no reading. -/
def ModeSet.ofCode (n : Nat) : Option ModeSet :=
  if n ≤ 15 then
    some { man := n % 2 = 1, material := n / 2 % 2 = 1, rock := n / 4 % 2 = 1,
           inspection := n / 8 % 2 = 1 }
  else none

/-- Whether a level's permitted modes include a mode. -/
def ModeSet.permits (m : ModeSet) : Mode → Bool
  | .man => m.man | .material => m.material | .rock => m.rock | .inspection => m.inspection

/-- Code of an action of a watch entry (R199). -/
def WatchAction.code : WatchAction → Nat
  | .notify => 1 | .slow _ => 2 | .stop => 3

/-- The cap a watch entry carries on the link, 0 for other actions than SLOW (R198). -/
def WatchAction.cap : WatchAction → Nat
  | .slow c => c | _ => 0

/-- The response in force on the link: FFh for NONE (R199). -/
def inForceCode : Option Severity → Nat
  | none => 0xFF | some v => v.val

/-- The value of one of the four items of a byte-packed event value, least significant byte first
(R201). -/
def packBytes (b0 b1 b2 b3 : Nat) : Word32 :=
  BitVec.ofNat 32 (b0 % 256 + 256 * (b1 % 256) + 65536 * (b2 % 256) + 16777216 * (b3 % 256))

/-- What a change of winder state was caused by (R118). -/
inductive Cause
  | sequence
  | request (kind : Nat)
  | fault (kind : FaultKind)
  deriving DecidableEq, Repr

/-- The two bytes of a cause (R201). -/
def Cause.word : Cause → Word32
  | .sequence => 0
  | .request k => packBytes k 1 0 0
  | .fault k => packBytes k.code 2 0 0

end Sys2Proof
end

