-- ==== Sys2Proof/Machine/State.lean ====
section
/-! DEFINITION. The state of the device, block by block (section 2), and its values at power-on. -/

namespace Sys2Proof.Machine

open Sys2Proof

/-- The Description Store (R2, R3, R19 to R21). -/
structure DescriptionStore where
  /-- The working description. -/
  desc : Description
  /-- The non-volatile copy. -/
  stored : StoredCopy
  uncommitted : Bool
  storeState : StoreState
  lastWrite : WriteOutcome
  /-- The power-on load of R21 has been made. -/
  loaded : Bool
  deriving DecidableEq, Repr

/-- The Encoder Front End's items of one head (chapter 2). -/
structure HeadItem where
  /-- The count of the head's last complete position word, before sense. -/
  raw : Word32
  /-- The head delivered a complete, error-free word in the last period. -/
  valid : Bool
  /-- The count of the latest Sample record (R24). -/
  count : Int
  deriving DecidableEq, Repr

/-- The Encoder Front End's items of one drum (chapter 2). -/
structure DrumFront where
  primary : HeadItem
  check : HeadItem
  /-- The check offset; `none` is PENDING (R26). -/
  offset : Option Int
  disagree : Bool
  checkLost : Bool
  deriving DecidableEq, Repr

/-- The Encoder Front End. -/
structure EncoderFrontEnd where
  drums : Both DrumFront
  /-- The time of the latest Sample record, µs (R25). -/
  sampleTime : Nat
  /-- The sample period in progress, ms (R16). -/
  period : Nat
  deriving DecidableEq, Repr

/-- The Position Model's items of one drum (chapter 2). -/
structure DrumModel where
  /-- Paid-out length, nm. -/
  paidOut : Int
  /-- Last valid count and time; `none` until the first valid primary (R48). -/
  lastValid : Option (Int × Nat)
  run : RunState
  markInRun : Bool
  /-- The latest Sample record was held by R36 (log 12). -/
  heldLast : Bool
  deriving DecidableEq, Repr

/-- The Position Model's items of one conveyance (chapter 2). -/
structure ConvModel where
  datumCount : Int
  datumDepth : Int
  sDatum : Int
  correction : Int
  loadClass : LoadClass
  certainty : Certainty
  degraded : Nat
  depth : Int
  prevDepth : Int
  speed : Int
  deriving DecidableEq, Repr

/-- The Position Model. -/
structure PositionModel where
  drums : Both DrumModel
  convs : Both ConvModel
  passage : Vector Passage 24
  deriving DecidableEq, Repr

/-- The Trip Executive (R116). A timer is `none` when stopped, else the clock of its expiry. -/
structure Executive where
  winder : WinderState
  phase : Phase
  rest : RestStep
  stopReason : StopReason
  deferred : DeferredStop
  heldStart : Bool
  dwell : DwellKind
  readiness : Option Nat
  brake : Option Nat
  dwellTimer : Option Nat
  unitMode : UnitMode
  serviceReturn : ServiceReturn
  stopWatch : Option Nat
  laterLeg : Bool
  /-- The brake timer has expired and the landing or stop goes no further (R130, log 13). -/
  brakeExpired : Bool
  deriving DecidableEq, Repr

/-- A message of the Drive Reference Link (R87), less its CRC, which `driveBytes` adds. -/
structure DriveMessage where
  seq : Byte
  ref : Int
  run : Bool
  deriving DecidableEq, Repr

/-- The Reference Generator (chapter 4). -/
structure ReferenceGenerator where
  /-- The plan; `none` is absent. -/
  plan : Option (List PlanPoint)
  guide : Conv
  travel : Travel
  limit : Nat
  legTime : Nat
  refPrev : Nat
  latch : Bool
  label : SegmentLabel
  /-- The count carried by the next message (R87). -/
  seq : Byte
  /-- The reference as last sent, signed for the guide (R89). -/
  refSent : Int
  /-- The messages sent in the latest command, in order (R87; the model's own view, log 9). -/
  sent : List DriveMessage
  deriving DecidableEq, Repr

/-- The Envelope Supervisor (chapter 5). -/
structure EnvelopeSupervisor where
  env : Nat
  margin : Nat
  tier1 : Nat
  tier2 : Nat
  /-- The overtime deadline, a unit time; `none` is CLEAR. -/
  deadline : Option Nat
  refInForce : Nat
  /-- The follow timer, a sample time; `none` is CLEAR. -/
  follow : Option Nat
  legStart : Option Int
  progress : Int
  /-- The motion baselines; `none` is NONE. -/
  motion : Both (Option Int)
  deriving DecidableEq, Repr

/-- The Clutch Controller (R158). -/
structure ClutchController where
  state : ClutchState
  step : ClutchStep
  timer : Option Nat
  /-- The discrepancy baseline; `none` is PENDING. -/
  discrepancy : Option (Int × Int)
  /-- The drift baseline; `none` is PENDING. -/
  drift : Option Int
  switchFault : Bool
  /-- The power-on reading of R159 has been made. -/
  read : Bool
  deriving DecidableEq, Repr

/-- The Fault Manager (chapter 9). The stored severities are the Severity Map of the working
description (R172); floors and defaults are fixed in the part. -/
structure FaultManager where
  pending : Vector Bool 31
  counts : Vector Nat 31
  first : Option FirstFault
  later : List LaterFault
  /-- The response in force; `none` is NONE. -/
  inForce : Option Severity
  /-- The stop order is OUTSTANDING. -/
  stopOrder : Bool
  deriving DecidableEq, Repr

/-- The Control Link Port (chapter 10). The ATTN mode is the Limits record's (R16). -/
structure ControlLink where
  address : Nat
  /-- 115,200 baud rather than 38,400. -/
  fast : Bool
  receive : ReceiveState
  /-- The bytes of the frame being gathered, first byte first. -/
  buffer : List Byte
  replyState : ReplyState
  /-- The reply frame in preparation or being sent; empty when there is none. -/
  reply : List Byte
  events : List EventRecord
  overrun : Bool
  /-- The end of the ATTN pulse that runs in PULSE mode (R203). -/
  pulse : Option Nat
  deriving DecidableEq, Repr

/-- The device, and the commands that wait for it. -/
structure State where
  /-- Microseconds since power-on, modulo `Config.clockPeriod` (section 6.5). -/
  clock : Nat
  lines : InputLines
  ds : DescriptionStore
  efe : EncoderFrontEnd
  pm : PositionModel
  tq : List TripRecord
  te : Executive
  rg : ReferenceGenerator
  es : EnvelopeSupervisor
  wt : Vector (Option WatchEntry) 16
  cc : ClutchController
  fm : FaultManager
  link : ControlLink
  /-- The commands that wait, first in, first out. -/
  pending : List Instr
  deriving DecidableEq, Repr

/-- Why the machine stops with a fault. No rule of the manual stops the device, so none is raised:
every meaning answers a next state. -/
inductive Fault
  deriving DecidableEq, Repr

/-- Why the model has no meaning for a command. -/
inductive Refusal
  /-- Raised by an arm of `exec` for a command the model has not reached; safe. No arm raises it. -/
  | notModelled (mnemonic : String)
  deriving DecidableEq, Repr

/-- What a meaning answers. -/
abbrev Answer := Host.Outcome State Fault Refusal

/-- The default severity of each kind, at place kind − 1 (R172). -/
def defaultSeverities : Vector Severity 31 :=
  #v[1, 2, 2, 3, 2, 1, 2, 2, 1, 0, 2, 1, 1, 0, 1, 1, 2, 2, 1, 0, 1, 1, 3, 0, 1, 1, 2, 0, 2, 3, 3]

/-- The floor of each kind, at place kind − 1 (R172). -/
def severityFloors : Vector Severity 31 :=
  #v[1, 2, 2, 2, 1, 0, 2, 2, 1, 0, 2, 1, 1, 0, 1, 0, 1, 2, 1, 0, 1, 1, 2, 0, 0, 1, 1, 0, 2, 3, 3]

/-- The Limits record with every field at its default (R14). -/
def defaultLimits : Limits :=
  { samplePeriod := 5, vDesign := 16000, manLimit := 12000, materialLimit := 10000,
    rockLimit := 16000, inspectionLimit := 1000, uncertainSpeed := 1500, declutchedSpeed := 1000,
    aAcc := 750, aDec := 750, aRet := 900, aEmg := 2500, vCreep := 500, dCreep := 2000,
    landWindow := 50, overtravelLimit := 300, standstill := 20, marginAbs := 300, marginPct := 5,
    followLimit := 1000, followTime := 1000, overtimeSlack := 25, overtimeFixed := 10,
    captureWindow := 500, nDeg := 4, discrepancyLimit := 500, driftLimit := 50, clutchTime := 10,
    toothPitch := 1024, alignTolerance := 16, signalWait := 30, waitTorque := 5, waitRelease := 3,
    waitSettle := 2, brakeConfirm := 1000, loadWait := 120, dumpWait := 60, attnMode := .level,
    adviseEnable := true, strictAll := false }

/-- The Drum record of the empty description (R22). -/
def emptyDrum : Drum := { sense := .plus, tolerance := 64, layers := [] }

/-- The Conveyance record of the empty description for drum A (R11). -/
def emptyConvA : Conveyance :=
  { kind := .cage, decks := 1, spacing := 1000, top := -1000, bottom := 1000, ropeOffset := 0,
    stretch := .perClass 0 0 0 0 }

/-- The Conveyance record of the empty description for drum B (R11). -/
def emptyConvB : Conveyance := { emptyConvA with kind := .counterweight, stretch := .single 0 }

/-- The empty description (R22). -/
def emptyDescription : Description :=
  { levels := Vector.replicate 48 none, marks := Vector.replicate 24 none,
    drums := ⟨emptyDrum, emptyDrum⟩, convs := ⟨emptyConvA, emptyConvB⟩, limits := defaultLimits,
    severities := defaultSeverities }

/-- A head before its first position word (log 10). -/
def resetHead : HeadItem := { raw := 0, valid := false, count := 0 }

/-- The Encoder Front End's items of a drum after power-on (R48). -/
def resetDrumFront : DrumFront :=
  { primary := resetHead, check := resetHead, offset := none, disagree := false,
    checkLost := false }

/-- The Position Model's items of a drum after power-on (R48). -/
def resetDrumModel : DrumModel :=
  { paidOut := 0, lastValid := none, run := .none, markInRun := false, heldLast := false }

/-- The Position Model's items of a conveyance after power-on (R48). -/
def resetConvModel : ConvModel :=
  { datumCount := 0, datumDepth := 0, sDatum := 0, correction := 0, loadClass := .empty,
    certainty := .uncertain, degraded := 0, depth := 0, prevDepth := 0, speed := 0 }

/-- The Trip Executive after power-on (R116). -/
def resetExecutive : Executive :=
  { winder := .checking, phase := .signal, rest := .none, stopReason := .none, deferred := .none,
    heldStart := false, dwell := .loading, readiness := none, brake := none, dwellTimer := none,
    unitMode := .normal, serviceReturn := .stoodDown, stopWatch := none, laterLeg := false,
    brakeExpired := false }

/-- The Reference Generator after power-on (R90). -/
def resetReference : ReferenceGenerator :=
  { plan := none, guide := .a, travel := .down, limit := 0, legTime := 0, refPrev := 0,
    latch := false, label := .none, seq := 0, refSent := 0, sent := [] }

/-- The Envelope Supervisor after power-on (R115). -/
def resetEnvelope : EnvelopeSupervisor :=
  { env := 0, margin := 0, tier1 := 0, tier2 := 0, deadline := none, refInForce := 0,
    follow := none, legStart := none, progress := 0, motion := ⟨none, none⟩ }

/-- The Clutch Controller from power-on until its reading (R159). -/
def resetClutch : ClutchController :=
  { state := .engaged, step := .none, timer := none, discrepancy := none, drift := none,
    switchFault := false, read := false }

/-- The Fault Manager after power-on (R190). -/
def resetFaults : FaultManager :=
  { pending := Vector.replicate 31 false, counts := Vector.replicate 31 0, first := none,
    later := [], inForce := none, stopOrder := false }

/-- The Control Link Port after power-on (R191, R204). -/
def resetLink : ControlLink :=
  { address := 1, fast := false, receive := .hunting, buffer := [], replyState := .idle,
    reply := [], events := [], overrun := false, pulse := none }

/-- The lines before the first debounced states are held (log 10): nothing asserted, made or closed
but EMERGENCY_IN, which is taken as made until it is found open (R178). -/
def resetLines : InputLines :=
  { signalOk := false, shaftStop := false, emergencyIn := true, torqueOk := false,
    brakeReleased := false, brakeApplied := false, bBrakeApplied := false, clutchOpen := false,
    clutchClosed := false, skipLoaded := false, skipDumped := false, keyOk := false,
    gates := Vector.replicate 16 false }

/-- The device the moment power is applied: CHECKING, every block at its power-on value, the store
blank and not yet loaded, nothing waiting (R119, R21, R48, R66, R90, R115, R116, R157, R159, R190,
R204). -/
def State.reset : State :=
  { clock := 0
    lines := resetLines
    ds := { desc := emptyDescription, stored := .blank, uncommitted := false, storeState := .idle,
            lastWrite := .none, loaded := false }
    efe := { drums := ⟨resetDrumFront, resetDrumFront⟩, sampleTime := 0, period := 5 }
    pm := { drums := ⟨resetDrumModel, resetDrumModel⟩, convs := ⟨resetConvModel, resetConvModel⟩,
            passage := Vector.replicate 24 .armed }
    tq := []
    te := resetExecutive
    rg := resetReference
    es := resetEnvelope
    wt := Vector.replicate 16 none
    cc := resetClutch
    fm := resetFaults
    link := resetLink
    pending := [] }

end Sys2Proof.Machine
end

