-- ==== Sys2Proof/Machine/Ops.lean ====
section
/-! DEFINITION. The named operations that the meanings share: access to the blocks, the clock, the Event
Queue, the drive link, the winder state, and the end of the active trip. -/

namespace Sys2Proof

/-- The value of one drum or conveyance. -/
def Both.get {α : Type} (p : Both α) : Conv → α
  | .a => p.a
  | .b => p.b

/-- Replaces the value of one drum or conveyance. -/
def Both.set {α : Type} (p : Both α) (c : Conv) (x : α) : Both α :=
  match c with
  | .a => { p with a := x }
  | .b => { p with b := x }

/-- The other drum or conveyance. -/
def Conv.other : Conv → Conv
  | .a => .b
  | .b => .a

/-- The entry at a place of a table, `none` outside it. -/
def tableGet {α : Type} {n : Nat} (t : Vector (Option α) n) (i : Nat) : Option α := t[i]?.join

/-- A table with every entry changed. -/
def tableMap {α β : Type} {n : Nat} (f : α → β) (t : Vector α n) : Vector β n :=
  ⟨⟨t.toList.map f⟩, by simp⟩

/-- A table with every entry changed by its place. -/
def tableMapIdx {α β : Type} {n : Nat} (f : Nat → α → β) (t : Vector α n) : Vector β n :=
  ⟨⟨(t.toList.zipIdx).map fun x => f x.2 x.1⟩, by simp⟩

/-- The occupied entries of a table with their places, in order. -/
def tableEntries {α : Type} {n : Nat} (t : Vector (Option α) n) : List (Nat × α) :=
  t.toList.zipIdx.filterMap fun x => x.1.map fun v => (x.2, v)

/-- Takes one quiet change of a line. -/
def InputLines.quiet (l : InputLines) : QuietChange → InputLines
  | .torqueOk b => { l with torqueOk := b }
  | .brakeReleased b => { l with brakeReleased := b }
  | .keyOk b => { l with keyOk := b }
  | .signalOkWithdrawn => { l with signalOk := false }
  | .shaftStopWithdrawn => { l with shaftStop := false }
  | .emergencyInMade => { l with emergencyIn := true }
  | .gateCloses g => { l with gates := l.gates.setIfInBounds g true }
  | .brakeAppliedWithdrawn => { l with brakeApplied := false }
  | .bBrakeAppliedWithdrawn => { l with bBrakeApplied := false }
  | .skipLoadedWithdrawn => { l with skipLoaded := false }
  | .skipDumpedWithdrawn => { l with skipDumped := false }

/-- The mode of a record: ROCK for skip cycles (R51). -/
def TripBody.mode : TripBody → Mode
  | .cage m _ _ => m
  | .skip .. => .rock

/-- The guide of a record (R69): A for a cage trip, B for skip cycles. -/
def TripBody.guide : TripBody → Conv
  | .cage .. => .a
  | .skip .. => .b

/-- The type code of a record (R199). -/
def TripBody.typeCode : TripBody → Nat
  | .cage .. => 1
  | .skip .. => 2

/-- The leg code of a record, 0 for a cage trip (R65). -/
def TripBody.legCode : TripBody → Nat
  | .cage .. => 0
  | .skip _ _ _ _ leg => leg.code

/-- The remaining count of a record, 0 for a cage trip (R65). -/
def TripBody.remaining : TripBody → Nat
  | .cage .. => 0
  | .skip _ _ _ r _ => r

/-- Puts a skip record on a leg; a cage trip has none (R61). -/
def TripBody.onLeg (b : TripBody) (leg : Leg) : TripBody :=
  match b with
  | .cage m t d => .cage m t d
  | .skip p t c r _ => .skip p t c r leg

/-- The state moves under the reference (R79, R91). -/
def WinderState.moving : WinderState → Bool
  | .winding | .stopping => true
  | _ => false

/-- The states of an active trip (R49). -/
def WinderState.tripActive : WinderState → Bool
  | .preparing | .prepared | .winding | .stopping | .held | .dwell => true
  | _ => false

/-- The resting states in which motion baselines are taken (R107). -/
def WinderState.resting : WinderState → Bool
  | .idle | .held | .dwell | .stoodDown | .tripped | .lockedOut => true
  | _ => false

end Sys2Proof

namespace Sys2Proof.Machine

open Sys2Proof

/-! ### The blocks -/

/-- Changes the Description Store. -/
def State.modDs (f : DescriptionStore → DescriptionStore) (s : State) : State :=
  { s with ds := f s.ds }
/-- Changes the Encoder Front End. -/
def State.modEfe (f : EncoderFrontEnd → EncoderFrontEnd) (s : State) : State :=
  { s with efe := f s.efe }
/-- Changes the Position Model. -/
def State.modPm (f : PositionModel → PositionModel) (s : State) : State := { s with pm := f s.pm }
/-- Changes the Trip Queue. -/
def State.modTq (f : List TripRecord → List TripRecord) (s : State) : State :=
  { s with tq := f s.tq }
/-- Changes the Trip Executive. -/
def State.modTe (f : Executive → Executive) (s : State) : State := { s with te := f s.te }
/-- Changes the Reference Generator. -/
def State.modRg (f : ReferenceGenerator → ReferenceGenerator) (s : State) : State :=
  { s with rg := f s.rg }
/-- Changes the Envelope Supervisor. -/
def State.modEs (f : EnvelopeSupervisor → EnvelopeSupervisor) (s : State) : State :=
  { s with es := f s.es }
/-- Changes the Watch Table. -/
def State.modWt (f : Vector (Option WatchEntry) 16 → Vector (Option WatchEntry) 16) (s : State) :
    State := { s with wt := f s.wt }
/-- Changes the Clutch Controller. -/
def State.modCc (f : ClutchController → ClutchController) (s : State) : State :=
  { s with cc := f s.cc }
/-- Changes the Fault Manager. -/
def State.modFm (f : FaultManager → FaultManager) (s : State) : State := { s with fm := f s.fm }
/-- Changes the Control Link Port. -/
def State.modLink (f : ControlLink → ControlLink) (s : State) : State :=
  { s with link := f s.link }
/-- Changes the input lines. -/
def State.modLines (f : InputLines → InputLines) (s : State) : State :=
  { s with lines := f s.lines }
/-- Sets the clock. -/
def State.setClock (t : Nat) (s : State) : State := { s with clock := t }

/-- The Position Model's items of one conveyance. -/
def State.conv (s : State) (c : Conv) : ConvModel := s.pm.convs.get c
/-- The Position Model's items of one drum. -/
def State.drum (s : State) (c : Conv) : DrumModel := s.pm.drums.get c
/-- The Encoder Front End's items of one drum. -/
def State.front (s : State) (c : Conv) : DrumFront := s.efe.drums.get c
/-- Changes the Position Model's items of one conveyance. -/
def State.modConv (c : Conv) (f : ConvModel → ConvModel) (s : State) : State :=
  s.modPm fun p => { p with convs := p.convs.set c (f (p.convs.get c)) }
/-- Changes the Position Model's items of one drum. -/
def State.modDrum (c : Conv) (f : DrumModel → DrumModel) (s : State) : State :=
  s.modPm fun p => { p with drums := p.drums.set c (f (p.drums.get c)) }
/-- Changes the Encoder Front End's items of one drum. -/
def State.modFront (c : Conv) (f : DrumFront → DrumFront) (s : State) : State :=
  s.modEfe fun e => { e with drums := e.drums.set c (f (e.drums.get c)) }

/-- The working Limits record (R2: read at the moment of use). -/
def State.limits (s : State) : Limits := s.ds.desc.limits
/-- The working Conveyance record. -/
def State.convRec (s : State) (c : Conv) : Conveyance := s.ds.desc.convs.get c
/-- The Level Table entry at an index. -/
def State.level (s : State) (i : Nat) : Option Level := tableGet s.ds.desc.levels i
/-- The depth of the level at an index; 0 for an empty index, which no admitted record names. -/
def State.levelDepth (s : State) (i : Nat) : Int := ((s.level i).map Level.depth).getD 0

/-! ### The clock (section 6.5) -/

/-- The unit time, ms, 32 bits. -/
def State.unitTime (s : State) : Nat := s.clock / 1000 % 2 ^ 32
/-- The sample clock, µs, 32 bits (R25). -/
def State.sampleClock (s : State) : Nat := s.clock % 2 ^ 32
/-- The clock after `ms` milliseconds, for a timer that starts now (R116). -/
def State.after (s : State) (ms : Nat) : Nat := (s.clock + 1000 * ms) % Config.clockPeriod
/-- Brings the clock up to the expiry of a timer that expires now, if it stands before it (log 5). -/
def State.reach (t : Nat) (s : State) : State :=
  if (t + Config.clockPeriod - s.clock) % Config.clockPeriod < Config.clockPeriod / 2 then
    s.setClock t
  else s

/-- What passes before a command: the time and the quiet changes; the drive messages of the command
before are cleared from view (logs 5, 6, 9). -/
def State.elapse (e : Elapse) (s : State) : State :=
  ((s.setClock ((s.clock + e.micros) % Config.clockPeriod)).modLines
    fun l => e.quiet.foldl InputLines.quiet l).modRg fun r => { r with sent := [] }

/-! ### The active trip -/

/-- The record at the head of the Trip Queue while it is ACTIVE (R49). -/
def State.activeHead (s : State) : Option TripRecord :=
  match s.tq with
  | r :: _ => if r.active then some r else none
  | [] => none

/-- The id of the ACTIVE head, or 0. -/
def State.activeId (s : State) : Nat := (s.activeHead.map TripRecord.id).getD 0

/-- Changes the record at the head of the Trip Queue. -/
def State.modHead (f : TripRecord → TripRecord) (s : State) : State :=
  s.modTq fun q =>
    match q with
    | r :: rest => f r :: rest
    | [] => []

/-- A conveyance is at standstill (R46). -/
def State.convAtRest (s : State) (c : Conv) : Bool := mag (s.conv c).speed ≤ s.limits.standstill

/-- The winder is at standstill (R46). -/
def State.atStandstill (s : State) : Bool := s.convAtRest .a && s.convAtRest .b

/-! ### Events (R200, R203) -/

/-- Adds an event record, dropping the oldest from a full queue; in PULSE mode it starts or restarts
the pulse, except in CHECKING (R200, R203, R204). -/
def State.raise (k : EventKind) (trip : Nat) (v1 v2 v3 v4 : Word32) (s : State) : State :=
  s.modLink fun l =>
    { l with
      events :=
        (if l.events.length < Config.eventCapacity then l.events else l.events.drop 1) ++
          [{ kind := k, trip := trip, time := s.unitTime, v1 := v1, v2 := v2, v3 := v3, v4 := v4 }]
      overrun := l.overrun || !decide (l.events.length < Config.eventCapacity)
      pulse :=
        if s.limits.attnMode = .pulse ∧ s.te.winder ≠ .checking then
          some ((s.clock + Config.pulseMicros) % Config.clockPeriod)
        else l.pulse }

/-- Sets a conveyance's certainty; a change raises CERTAINTY_CHANGED with its cause (R34). -/
def State.setCertainty (c : Conv) (new : Certainty) (cause : CertaintyCause) (s : State) : State :=
  if (s.conv c).certainty = new then s
  else
    (s.modConv c fun m => { m with certainty := new }).raise .certaintyChanged s.activeId
      (uword32 c.code) (uword32 new.code) (uword32 (s.conv c).certainty.code) (uword32 cause.code)

/-! ### The Drive Reference Link (R87, R88) -/

/-- Sends one message: the reference is given signed for the guide, and sent signed for conveyance A.
The Envelope Supervisor is handed its magnitude (R87, R100). -/
def State.sendDrive (ref : Int) (run : Bool) (s : State) : State :=
  (s.modRg fun r =>
    { r with
      sent := r.sent ++ [{ seq := r.seq, ref := if r.guide = .a then ref else -ref, run := run }]
      seq := r.seq + 1
      refSent := ref }).modEs fun e => { e with refInForce := mag ref }

/-- The 8 bytes of a message (R87). -/
def driveBytes (m : DriveMessage) : List Byte :=
  let body := [m.seq] ++ leInt m.ref ++ leBool m.run
  body ++ le16 (crc16 body).toNat

/-! ### The winder state (R118) -/

/-- The third value of STATE_CHANGED (R118). -/
def Executive.detail (t : Executive) : Nat :=
  match t.winder with
  | .preparing => t.phase.code
  | .dwell => t.dwell.code
  | .stopping => t.stopReason.code
  | _ => 0

/-- What a new winder state does to the Envelope Supervisor: the leg supervision is cleared outside
WINDING and STOPPING, the follow timer outside WINDING, the motion baselines inside them
(R99, R106, R110). -/
def EnvelopeSupervisor.onState (e : EnvelopeSupervisor) (new : WinderState) : EnvelopeSupervisor :=
  if new.moving then
    { e with motion := ⟨none, none⟩, follow := if new = .winding then e.follow else none }
  else
    { e with env := 0, margin := 0, tier1 := 0, tier2 := 0, follow := none, legStart := none,
             progress := 0 }

/-- Enters a winder state: the Envelope Supervisor follows, the segment label is NONE outside WINDING
and STOPPING (R78), the response in force becomes NONE in IDLE and STOOD_DOWN (R179), and
STATE_CHANGED is raised with the record ACTIVE in the state left or entered (R118, R201). -/
def State.enter (new : WinderState) (cause : Cause) (trip : Nat) (s : State) : State :=
  let s1 := s.modTe fun t => { t with winder := new }
  let s2 := s1.modEs fun e => e.onState new
  let s3 := s2.modRg fun r => if new.moving then r else { r with label := .none }
  let s4 := s3.modFm fun f =>
    if new = .idle ∨ new = .stoodDown then { f with inForce := none } else f
  s4.raise .stateChanged trip (uword32 new.code) (uword32 s.te.winder.code)
    (uword32 s1.te.detail) cause.word

/-! ### The end of a plan and of the active trip -/

/-- The plan is discarded with the items that belong to it, the overtime deadline and every binding
(R72, R74, R153). -/
def State.discardPlan (s : State) : State :=
  ((s.modRg fun r =>
    { r with plan := none, latch := false, label := .none, refPrev := 0, legTime := 0 }).modEs
      fun e => { e with deadline := none }).modWt
        (tableMap fun o => o.map fun w => { w with bound := none })

/-- The items that belong to the active trip return to their power-on values (R116). -/
def Executive.clearTrip (t : Executive) : Executive :=
  { t with
    phase := .signal, rest := .none, stopReason := .none, deferred := .none, heldStart := false,
    dwell := .loading, readiness := none, brake := none, dwellTimer := none, stopWatch := none,
    laterLeg := false, brakeExpired := false }

/-- Interrupts the active trip (R62): TRIP_INTERRUPTED is raised, the head returns to PENDING with its
interrupted flag set, and the plan is discarded. -/
def State.interrupt (s : State) : State :=
  match s.activeHead with
  | none => s
  | some r =>
    ((((s.raise .tripInterrupted r.id (uword32 s.te.winder.code) (uword32 r.body.legCode)
        (uword32 r.body.remaining) (word32 (s.conv r.body.guide).depth)).modHead
      fun h => { h with active := false, interrupted := true }).discardPlan)).modTe
        Executive.clearTrip

/-- Raises TRIP_ENDED for a record (R65); the outcome is 1 COMPLETED, 2 WITHDRAWN, 3 DISCARDED. -/
def State.raiseEnded (outcome : Nat) (r : TripRecord) (remaining : Nat) (s : State) : State :=
  s.raise .tripEnded r.id (uword32 outcome) (uword32 r.body.typeCode) (uword32 remaining)
    (word32 (s.conv r.body.guide).depth)

/-- Completes the active trip (R63): the head is removed, TRIP_ENDED COMPLETED is raised with a
remaining count of 0, and the plan is discarded. -/
def State.complete (s : State) : State :=
  match s.activeHead with
  | none => s
  | some r =>
    (((s.modTq List.tail).raiseEnded 1 r 0).discardPlan).modTe Executive.clearTrip

/-- Empties the Trip Queue, with one TRIP_ENDED DISCARDED for each record from the head (R64). -/
def State.discardQueue (s : State) : State :=
  (s.tq.foldl (fun s r => s.raiseEnded 3 r r.body.remaining) s).modTq fun _ => []

end Sys2Proof.Machine
end

