-- ==== Sys2Proof/Machine/Flags.lean ====
section
/-! DEFINITION. The output lines, each as its block drives it from the state (R117, R158, R181, R182,
R203), and the word that carries them (R206). -/

namespace Sys2Proof.Machine

open Sys2Proof

/-- SAFETY (R117). -/
def State.safety (s : State) : Bool :=
  match s.te.winder with
  | .checking | .tripped | .lockedOut => false
  | .stoodDown | .idle | .preparing | .prepared | .winding | .stopping | .held | .dwell => true

/-- BRAKE_RELEASE (R117). -/
def State.brakeRelease (s : State) : Bool :=
  match s.te.winder with
  | .preparing => s.te.phase = .release || s.te.phase = .settle
  | .prepared => true
  | .winding | .stopping => s.te.rest != .brakeConfirm
  | .checking | .stoodDown | .idle | .held | .dwell | .tripped | .lockedOut => false

/-- TORQUE_REQ (R117). -/
def State.torqueReq (s : State) : Bool :=
  match s.te.winder with
  | .preparing => s.te.phase = .torque || s.te.phase = .release || s.te.phase = .settle
  | .prepared | .winding | .stopping => true
  | .checking | .stoodDown | .idle | .held | .dwell | .tripped | .lockedOut => false

/-- LOAD_PERMIT (R117, R133). -/
def State.loadPermit (s : State) : Bool := s.te.winder = .dwell && s.te.dwell = .loading

/-- LOCKOUT_LAMP (R117). -/
def State.lockoutLamp (s : State) : Bool := s.te.winder = .lockedOut

/-- B_BRAKE_HOLD (R158). -/
def State.bBrakeHold (s : State) : Bool := s.cc.state != .engaged

/-- CLUTCH_CMD (R158). -/
def State.clutchCmd (s : State) : Bool :=
  match s.cc.state with
  | .engaged | .engaging => false
  | .releasing => s.cc.step = .opening
  | .released => true

/-- STOP_REQ (R182). -/
def State.stopReq (s : State) : Bool := s.fm.stopOrder

/-- The kinds pending (R175). -/
def State.pendingKinds (s : State) : List FaultKind :=
  FaultKind.all.filter fun k => (s.fm.pending.toList[k.idx]?).getD false

/-- The stored severity of a kind: the Severity Map's (R17, R172). -/
def State.severity (s : State) (k : FaultKind) : Severity :=
  (s.ds.desc.severities.toList[k.idx]?).getD 0

/-- ADVISE (R181): withdrawn in CHECKING. -/
def State.advise (s : State) : Bool :=
  s.te.winder != .checking && s.limits.adviseEnable
    && s.pendingKinds.any fun k => s.severity k = 0

/-- ATTN (R203, R204): withdrawn in CHECKING. -/
def State.attn (s : State) : Bool :=
  s.te.winder != .checking &&
    match s.limits.attnMode with
    | .level => !s.link.events.isEmpty
    | .pulse => s.link.pulse.isSome

/-- The weight of a line in the outputs word. -/
def lineWeight (b : Bool) (w : Nat) : Nat := if b then w else 0

/-- The output lines as one field (R206). -/
def State.outputs (s : State) : Nat :=
  lineWeight s.safety 1 + lineWeight s.brakeRelease 2 + lineWeight s.torqueReq 4
    + lineWeight s.bBrakeHold 8 + lineWeight s.clutchCmd 16 + lineWeight s.stopReq 32
    + lineWeight s.advise 64 + lineWeight s.lockoutLamp 128 + lineWeight s.loadPermit 256
    + lineWeight s.attn 512

end Sys2Proof.Machine
end

