-- ==== Sys2Proof/Machine/Faults.lean ====
section
/-! DEFINITION. The taking of a fault report (R174 to R185) and the responses that the Fault Manager
orders of the Trip Executive (R127, R139, R141, R142, R179 to R182). -/

namespace Sys2Proof.Machine

open Sys2Proof

/-! ### Leaving the active trip -/

/-- Interrupts the active trip and enters IDLE (R127, R129, R139, R140). -/
def State.toIdle (cause : Cause) (s : State) : State := s.interrupt.enter .idle cause s.activeId

/-- Abandons a readiness sequence, from PREPARING or PREPARED (R127). -/
def State.abandon (cause : Cause) (s : State) : State := s.toIdle cause

/-- Enters STOPPING from WINDING (R139, R140). DEDUCED (log 28): the stop watch id becomes that of this
stop, and absent for a stop of another reason, so that a REQUEST or FAULT stop clears the id that an
earlier WATCH stop of the same trip left. -/
def State.beginStopping (reason : StopReason) (watch : Option Nat) (cause : Cause) (s : State) :
    State :=
  (s.modTe fun t => { t with stopReason := reason, stopWatch := watch, rest := .none }).enter
    .stopping cause s.activeId

/-- Sets the stop order (R182). -/
def State.setStopOrder (b : Bool) (s : State) : State := s.modFm fun f => { f with stopOrder := b }

/-! ### The responses -/

/-- Every timer stops and the rest step, the held START and the deferred stop are cleared
(R141 step 3). -/
def Executive.halt (t : Executive) : Executive :=
  { t with rest := .none, heldStart := false, deferred := .none, readiness := none, brake := none,
           dwellTimer := none, brakeExpired := false }

/-- The steps that the emergency and the lockout response share: the reference falls to 0 with an
out-of-turn message, the sequences halt, an active trip is interrupted and the stop order is overtaken
(R81, R141 steps 1 to 4, R142, R182). -/
def State.halt (s : State) : State :=
  (((((s.modRg fun r => { r with refPrev := 0, label := .none }).sendDrive 0 false).modTe
    Executive.halt).interrupt).setStopOrder false)

/-- Enters TRIPPED with a service return (R141 steps 5 and 6). -/
def State.trip (ret : ServiceReturn) (k : FaultKind) (s : State) : State :=
  (s.halt.modTe fun t => { t with serviceReturn := ret }).enter .tripped (.fault k) s.activeId

/-- Enters LOCKED_OUT (R142). -/
def State.lock (k : FaultKind) (s : State) : State :=
  s.halt.enter .lockedOut (.fault k) s.activeId

/-- The emergency response (R141). -/
def State.emergency (k : FaultKind) (s : State) : State :=
  match s.te.winder with
  | .checking | .tripped | .lockedOut => s
  | .stoodDown => s.trip .stoodDown k
  | .idle | .preparing | .prepared | .winding | .stopping | .held | .dwell => s.trip .idle k

/-- The lockout response (R142). -/
def State.lockout (k : FaultKind) (s : State) : State :=
  match s.te.winder with
  | .checking | .lockedOut => s
  | .stoodDown | .idle | .preparing | .prepared | .winding | .stopping | .held | .dwell
  | .tripped => s.lock k

/-- The controlled-stop order as the Trip Executive takes it (R139), with the stop order it leaves
OUTSTANDING (R182). -/
def State.controlledStop (k : FaultKind) (s : State) : State :=
  match s.te.winder with
  | .preparing | .prepared => s.abandon (.fault k)
  | .winding =>
    if s.te.rest = .none then (s.beginStopping .fault none (.fault k)).setStopOrder true
    else (s.modTe fun t => { t with deferred := .fault }).setStopOrder true
  | .stopping =>
    (s.modTe fun t =>
      { t with stopReason := if t.stopReason = .watch then .fault else t.stopReason }).setStopOrder
        true
  | .held | .dwell => s.toIdle (.fault k)
  | .checking | .stoodDown | .idle | .tripped | .lockedOut => s

/-- The forced STOP of the Watch Table as the Trip Executive takes it (R139, R150). -/
def State.forcedStop (id : Nat) (s : State) : State :=
  if s.te.winder = .winding ∧ s.te.rest = .none then
    s.beginStopping .watch (some id) .sequence
  else s

/-- Orders the response of a severity that is acted on (R180). -/
def State.order (k : FaultKind) (v : Severity) (s : State) : State :=
  match v with
  | 0 => s
  | 1 => s.controlledStop k
  | 2 => s.emergency k
  | 3 => s.lockout k

/-- Whether a severity is higher than the response in force (R179). -/
def exceeds (v : Severity) : Option Severity → Bool
  | none => true
  | some w => w < v

/-- The response in force that a report acted on leaves before its order (R179): a report of severity 0
or 1 in STOOD_DOWN or IDLE leaves it. -/
def State.setInForce (v : Severity) (s : State) : State :=
  if v ≤ 1 ∧ (s.te.winder = .stoodDown ∨ s.te.winder = .idle) then s
  else s.modFm fun f => { f with inForce := some v }

/-- Decides and orders the response to a report (R174 step 6, R179, R183). -/
def State.respond (k : FaultKind) (v : Severity) (s : State) : State :=
  if s.te.winder = .checking ∨ !exceeds v s.fm.inForce then s
  else (s.setInForce v).order k v

/-! ### The log -/

/-- The place a report takes in the log: 0 the First-Fault Record, 1 to 15 in the Later-Fault List, 255
none (R176). -/
def FaultManager.place (f : FaultManager) : Nat :=
  match f.first with
  | none => 0
  | some _ => if f.later.length < Config.laterCapacity then f.later.length + 1 else 255

/-- Value 1 of FAULT (R201). -/
def reportWord (r : Report) (v : Severity) (place : Nat) : Word32 :=
  packBytes r.kind.code v.val place r.subject

/-- A numeric item of a report as a 4-byte value: the items of TRIP_OVERTIME are unit times, unsigned
(section 6.5), and every other item is carried signed (R104, R176, R201). -/
def itemWord (k : FaultKind) (x : Int) : Word32 :=
  if k = .tripOvertime then uword32 x.toNat else word32 x

/-- The ACTIVE head's id, or absent. -/
def State.activeTrip (s : State) : Option Nat := s.activeHead.map TripRecord.id

/-- The First-Fault Record of a report taken now (R184). -/
def State.firstFaultOf (s : State) (r : Report) (v : Severity) : FirstFault :=
  { kind := r.kind, severity := v, time := s.unitTime, winder := s.te.winder, trip := s.activeTrip,
    label := s.rg.label, depth := ⟨(s.conv .a).depth, (s.conv .b).depth⟩,
    speed := ⟨(s.conv .a).speed, (s.conv .b).speed⟩, ref := s.rg.refSent, env := s.es.env,
    certainty := ⟨(s.conv .a).certainty, (s.conv .b).certainty⟩, clutch := s.cc.state,
    v1 := reportWord r v 0, v2 := itemWord r.kind r.item1, v3 := itemWord r.kind r.item2,
    v4 := itemWord r.kind r.item3 }

/-- The conveyance whose depth a Later-Fault record carries: the guide of the ACTIVE head, or A (R185). -/
def State.faultGuide (s : State) : Conv := (s.activeHead.map fun r => r.body.guide).getD .a

/-- The Later-Fault record of a report taken now (R185). -/
def State.laterFaultOf (s : State) (r : Report) (v : Severity) : LaterFault :=
  { kind := r.kind, severity := v, time := s.unitTime, depth := (s.conv s.faultGuide).depth,
    trip := s.activeTrip }

/-- Logs a report (R174 step 4). -/
def State.log (r : Report) (v : Severity) (s : State) : State :=
  s.modFm fun f =>
    match f.first with
    | none => { f with first := some (s.firstFaultOf r v) }
    | some _ =>
      if f.later.length < Config.laterCapacity then
        { f with later := f.later ++ [s.laterFaultOf r v] }
      else f

/-! ### The pending flags and the counts -/

/-- The pending flag of a kind. -/
def State.isPending (s : State) (k : FaultKind) : Bool := (s.fm.pending.toList[k.idx]?).getD false

/-- Sets the pending flag of a kind. -/
def State.setPending (k : FaultKind) (b : Bool) (s : State) : State :=
  s.modFm fun f => { f with pending := f.pending.setIfInBounds k.idx b }

/-- Counts a report, up to 255 (R174 step 1). -/
def State.countReport (k : FaultKind) (s : State) : State :=
  s.modFm fun f =>
    { f with counts := f.counts.setIfInBounds k.idx (min 255 ((f.counts.toList[k.idx]?).getD 0 + 1)) }

/-- Takes a fault report (R174). -/
def State.report (r : Report) (s : State) : State :=
  let s1 := s.countReport r.kind
  if s.isPending r.kind then s1
  else
    let v := s.severity r.kind
    let s2 := (s1.setPending r.kind true).log r v
    let s3 := s2.raise .fault s.activeId (reportWord r v s.fm.place) (itemWord r.kind r.item1)
      (itemWord r.kind r.item2) (itemWord r.kind r.item3)
    s3.respond r.kind v

/-- A report with a subject and no numeric item. -/
def bare (k : FaultKind) (subject : Nat) : Report :=
  { kind := k, subject := subject, item1 := 0, item2 := 0, item3 := 0 }

/-- The acknowledgement of ENCODER_DISAGREE (R26): at standstill both check offsets become PENDING and
are captured afresh; otherwise the disagree marks alone are cleared. -/
def State.ackDisagree (s : State) : State :=
  if s.atStandstill then
    s.modEfe fun e =>
      { e with drums := ⟨{ e.drums.a with offset := none, disagree := false },
                         { e.drums.b with offset := none, disagree := false }⟩ }
  else
    s.modEfe fun e =>
      { e with drums := ⟨{ e.drums.a with disagree := false },
                         { e.drums.b with disagree := false }⟩ }

/-- Clears the pending flags of the kinds that a test picks; clearing that of ENCODER_DISAGREE is its
acknowledgement (R144, R186). -/
def State.clearPending (pick : FaultKind → Bool) (s : State) : State :=
  let s1 := (FaultKind.all.filter pick).foldl (fun s k => s.setPending k false) s
  if pick .encoderDisagree && s.isPending .encoderDisagree then s1.ackDisagree else s1

end Sys2Proof.Machine
end

