-- ==== Sys2Proof/Machine/Position.lean ====
section
/-! DEFINITION. The Encoder Front End's Sample record and cross-check (R24 to R28), the Position Model's
length, depth, certainty, runs and marks (R29 to R46). -/

namespace Sys2Proof

/-- The sense as a factor (R9). -/
def Sense.factor : Sense → Int
  | .plus => 1
  | .minus => -1

/-- The coefficient of a load class (R11, R31). -/
def Stretch.coeff : Stretch → LoadClass → Nat
  | .single k, _ => k
  | .perClass k _ _ _, .empty => k
  | .perClass _ k _ _, .persons => k
  | .perClass _ _ k _, .material => k
  | .perClass _ _ _ k, .rock => k

end Sys2Proof

namespace Sys2Proof.Machine

open Sys2Proof

/-! ### Rope and depth (R29 to R31) -/

/-- The counts of the interval from 0 up to `c` that lie in each layer, times its pitch (R29). -/
def paidOutFrom : List Layer → Int → Int
  | [], _ => 0
  | [l], c => max 0 (c - max 0 l.start) * l.pitch
  | l :: m :: rest, c => max 0 (min c m.start - max 0 l.start) * l.pitch + paidOutFrom (m :: rest) c

/-- P(c), the paid-out length at a count, nm (R29). -/
def paidOut (layers : List Layer) (c : Int) : Int :=
  match layers with
  | [] => 0
  | l :: _ => if 0 ≤ c then paidOutFrom layers c else c * l.pitch

/-- The layer table of a drum. -/
def State.layers (s : State) (c : Conv) : List Layer := (s.ds.desc.drums.get c).layers

/-- The stretch of a hanging length of `len` mm, a negative length being taken as 0 (R31 steps 2, 3). -/
def stretchMm (cv : Conveyance) (k : LoadClass) (len : Int) : Int :=
  (max len 0 * (cv.stretch.coeff k : Int)).tdiv 1000000

/-- The depth of a conveyance by R31, from its drum's paid-out length. -/
def State.depthFrom (s : State) (c : Conv) (length : Int) : Int :=
  let m := s.conv c
  let cv := s.convRec c
  let travel := truncMm (length - paidOut (s.layers c) m.datumCount)
  m.datumDepth + travel +
    (stretchMm cv m.loadClass (m.datumDepth + travel + cv.ropeOffset) - m.sDatum) + m.correction

/-- The depth of a conveyance by R31, from its drum's present paid-out length. -/
def State.depthNow (s : State) (c : Conv) : Int := s.depthFrom c (s.drum c).paidOut

/-- S_datum of a conveyance at a datum depth, with the present load class (R31, R33). -/
def State.datumStretch (s : State) (c : Conv) (depth : Int) : Int :=
  stretchMm (s.convRec c) (s.conv c).loadClass (depth + (s.convRec c).ropeOffset)

/-- Computes a conveyance's depth again; the value replaced becomes the previous depth (R31). -/
def State.redepth (c : Conv) (s : State) : State :=
  s.modConv c fun m => { m with prevDepth := m.depth, depth := s.depthNow c }

/-- Sets the load class of a conveyance, stepping its depth (R32). -/
def State.setLoadClass (c : Conv) (k : LoadClass) (s : State) : State :=
  if (s.conv c).loadClass = k then s
  else (s.modConv c fun m => { m with loadClass := k }).redepth c

/-- The speed over an interval, mm/s, held within its bounds (R30). -/
def speedOver (dL dt : Int) : Int :=
  let q := if dt = 0 then Config.speedAtZeroInterval dL else dL.tdiv dt
  max (-Config.speedBound) (min Config.speedBound q)

/-! ### The Sample record (R24) and the cross-check (R26 to R28) -/

/-- What a head gives to the Sample record (R24). -/
def HeadItem.take (h : HeadItem) (w : HeadWord) (f : Int) : HeadItem :=
  match w with
  | .missing => { h with valid := false, count := h.raw.toInt * f }
  | .word raw err =>
    { raw := raw, valid := !err && raw != 0x80000000#32, count := raw.toInt * f }

/-- Forms the Sample record (R24); the period that begins takes its length from the Limits (R16). -/
def State.takeHeads (h : Heads) (s : State) : State :=
  s.modEfe fun e =>
    { drums :=
        ⟨{ e.drums.a with
            primary := e.drums.a.primary.take h.primary.a s.ds.desc.drums.a.sense.factor
            check := e.drums.a.check.take h.check.a s.ds.desc.drums.a.sense.factor },
         { e.drums.b with
            primary := e.drums.b.primary.take h.primary.b s.ds.desc.drums.b.sense.factor
            check := e.drums.b.check.take h.check.b s.ds.desc.drums.b.sense.factor }⟩
      sampleTime := s.sampleClock
      period := s.limits.samplePeriod }

/-- The cross-check of a drum at a Sample record (R26, R27, R28). -/
def State.crossCheck (c : Conv) (s : State) : State :=
  let f := s.front c
  if f.check.valid then
    let s1 := s.modFront c fun f => { f with checkLost := false }
    if f.primary.valid then
      let d := f.primary.count - f.check.count
      match f.offset with
      | none => s1.modFront c fun f => { f with offset := some d, disagree := false }
      | some o =>
        if mag (d - o) ≤ (s.ds.desc.drums.get c).tolerance then
          s1.modFront c fun f => { f with disagree := false }
        else if f.disagree then s1
        else
          ((s1.report { kind := .encoderDisagree, subject := c.code, item1 := d, item2 := o,
                        item3 := 0 }).modFront c fun f => { f with disagree := true }).setCertainty
            c .uncertain .crossCheck
    else s1
  else if f.primary.valid && !f.checkLost then
    (s.report (bare .checkChannelLost c.code)).modFront c fun f => { f with checkLost := true }
  else s

/-! ### Runs of invalid primaries (R35 to R40, R43) -/

/-- The brake holding a drum is confirmed applied (R35). -/
def State.brakeHolds (s : State) (c : Conv) : Bool :=
  if c = .a ∨ s.cc.state = .engaged then s.lines.brakeApplied else s.lines.bBrakeApplied

/-- A drum is in the held case (R35). -/
def State.heldCase (s : State) (c : Conv) : Bool := s.convAtRest c && s.brakeHolds c

/-- A run whose first sample is formed now is strict (R38, R50). -/
def State.strict (s : State) : Bool :=
  match s.activeHead with
  | none => false
  | some r => r.body.mode = .man || s.limits.strictAll

/-- A CERTAIN conveyance becomes DEGRADED (R36, R37). -/
def State.degrade (c : Conv) (s : State) : State :=
  if (s.conv c).certainty = .certain then s.setCertainty c .degraded .sample else s

/-- A run becomes LOST (R39). -/
def State.loseRun (c : Conv) (s : State) : State :=
  let s1 := s.modDrum c fun d => { d with run := .lost }
  if (s.conv c).certainty = .uncertain then s1
  else (s1.setCertainty c .uncertain .sample).report (bare .positionLost c.code)

/-- The comparison of the measured length with the extrapolated or kept one (R36, R40). -/
def State.compareLength (c : Conv) (difference : Int) (s : State) : State :=
  if (mag difference) / 1000000 ≤ s.limits.captureWindow then
    if (s.conv c).certainty = .degraded then s.setCertainty c .certain .sample else s
  else if (s.conv c).certainty = .uncertain then s
  else (s.setCertainty c .uncertain .sample).report (bare .positionLost c.code)

/-- A Sample record with a valid primary (R30, R36, R40, R43); `prev` is the time of the record before.
DEDUCED (log 47): where a run that is LOST ends with the mark-in-run flag set, the extrapolated length of R43
is the length that the run has held since it became LOST (R39), with no step of extrapolation to this
record. -/
def State.measure (c : Conv) (prev : Nat) (s : State) : State :=
  let d := s.drum c
  let count := (s.front c).primary.count
  let now := s.efe.sampleTime
  let length := paidOut (s.layers c) count
  let speed := match d.lastValid with
    | none => 0
    | some (c0, t0) => speedOver (length - paidOut (s.layers c) c0) (signedElapsed now t0)
  let expected := match d.run with
    | .run => d.paidOut + (s.conv c).speed * signedElapsed now prev
    | .none | .lost => d.paidOut
  let s1 := s.modConv c fun m => { m with speed := speed }
  let s2 := if d.run = .run ∨ (d.run = .none ∧ d.heldLast) then
      s1.compareLength c (length - expected)
    else s1
  let s3 := s2.modConv c fun m =>
    { m with
      correction :=
        if d.run ≠ .none ∧ d.markInRun then m.correction - truncMm (length - expected)
        else m.correction
      degraded := if d.run = .none then m.degraded else 0 }
  let s4 := s3.modDrum c fun _ =>
    { paidOut := length, lastValid := some (count, now), run := .none, markInRun := false,
      heldLast := false }
  let s5 := s4.redepth c
  if d.lastValid.isNone then s5.modConv c fun m => { m with prevDepth := m.depth } else s5

/-- A Sample record held by R36. -/
def State.holdSample (c : Conv) (s : State) : State :=
  ((((s.modConv c fun m => { m with speed := 0 }).degrade c).modDrum c
    fun d => { d with heldLast := true }).redepth c)

/-- A sample of a run in state RUN, or the first of one (R37, R38, R39); `strict` says whether a run that
begins at this record is strict, which is settled when the record is formed. DEDUCED (log 45): a CERTAIN
conveyance at the sample that exceeds the allowance becomes DEGRADED first and then UNCERTAIN. -/
def State.runSample (c : Conv) (prev : Nat) (strict : Bool) (s : State) : State :=
  let first := (s.drum c).run = .none ∨ (s.drum c).heldLast
  let s1 := if first then
      (s.modDrum c fun d => { d with run := .run, markInRun := false, heldLast := false }).report
        (bare (if strict then .sampleInvalidStrict else .sampleInvalid) c.code)
    else s
  let step := (s.conv c).speed * signedElapsed s.efe.sampleTime prev
  let s2 := s1.modDrum c fun d => { d with paidOut := d.paidOut + step }
  let s3 := (s2.modConv c fun m => { m with degraded := m.degraded + 1 }).degrade c
  let s4 := s3.redepth c
  if s4.limits.nDeg < (s4.conv c).degraded then s4.loseRun c else s4

/-- A Sample record with an invalid primary in a LOST run: the model holds (R39). DEDUCED (log 46): the depth
is kept also where a PUT_DRUM or PUT_CONVEYANCE has changed the scale since (R13). -/
def State.lostSample (c : Conv) (s : State) : State :=
  s.modConv c fun m => { m with prevDepth := m.depth }

/-- Brings a drum and its conveyance up to date at a Sample record (R30, R35, R38). -/
def State.position (c : Conv) (prev : Nat) (strict : Bool) (s : State) : State :=
  if (s.front c).primary.valid then s.measure c prev
  else if s.heldCase c then s.holdSample c
  else if (s.drum c).run = .lost ∧ !(s.drum c).heldLast then s.lostSample c
  else s.runSample c prev strict

/-! ### Shaft marks (R41 to R45) -/

/-- The direction of a speed; `none` at 0. -/
def motionOf (speed : Int) : Option Travel :=
  if 0 < speed then some .down else if speed < 0 then some .up else none

/-- Two speeds have opposite signs (R45). -/
def opposed (x y : Int) : Bool := (0 < x && y < 0) || (x < 0 && 0 < y)

/-- The passage state of a mark. -/
def State.passage (s : State) (i : Nat) : Passage := (s.pm.passage.toList[i]?).getD .armed

/-- Sets the passage state of a mark. -/
def State.setPassage (i : Nat) (p : Passage) (s : State) : State :=
  s.modPm fun m => { m with passage := m.passage.setIfInBounds i p }

/-- The mark at an index. -/
def State.mark (s : State) (i : Nat) : Option Mark := tableGet s.ds.desc.marks i

/-- The conveyance has crossed the mark's far line at this Sample record (R45). -/
def State.crossedFarLine (s : State) (m : Mark) : Bool :=
  let c := s.conv m.conv
  let w : Int := s.limits.captureWindow
  match motionOf c.speed with
  | none => false
  | some .down =>
    m.facing.admits .down && c.prevDepth ≤ m.depth + w && m.depth + w < c.depth
  | some .up => m.facing.admits .up && m.depth - w ≤ c.prevDepth && c.depth < m.depth - w

/-- The passage state of a mark at a Sample record (R45); `old` is the speeds of the record before.
DEDUCED (log 22): the far line is tested for the marks that are ARMED when the record comes; a mark that
returns to ARMED at a record is first tested at the next. -/
def State.passMark (old : Both Int) (i : Nat) (s : State) : State :=
  match s.mark i with
  | none => s
  | some m =>
    match s.passage i with
    | .armed =>
      if (s.conv m.conv).certainty = .certain ∧ s.crossedFarLine m then
        (s.report (bare .markMissed i)).setPassage i .disarmed
      else s
    | .taken | .disarmed =>
      if s.convAtRest m.conv ∨ opposed (s.conv m.conv).speed (old.get m.conv) then
        s.setPassage i .armed
      else s

/-- The passage states of every mark at a Sample record (R45). -/
def State.passMarks (old : Both Int) (s : State) : State :=
  (List.range 24).foldl (fun s i => s.passMark old i) s

/-- The travel projected from the latest sample to the instant of an edge, mm (R42, R44). -/
def State.projected (s : State) (c : Conv) (edge : Nat) : Int :=
  ((s.conv c).speed * signedElapsed edge s.efe.sampleTime).tdiv 1000000

/-- A mark taken while its conveyance is CERTAIN or DEGRADED (R42). -/
def State.correct (i : Nat) (m : Mark) (edge : Nat) (s : State) : State :=
  let err := m.depth - ((s.conv m.conv).depth + s.projected m.conv edge)
  if mag err ≤ s.limits.captureWindow then
    let s1 := s.modConv m.conv fun c =>
      { c with correction := c.correction + err, depth := c.depth + err }
    let s2 := s1.raise .markPassed s.activeId (uword32 i) (uword32 m.conv.code) (word32 err)
      (word32 (s1.conv m.conv).depth)
    let s3 := if (s.conv m.conv).certainty = .degraded then s2.setCertainty m.conv .certain .mark
      else s2
    if (s.drum m.conv).run = .run then
      (s3.modConv m.conv fun c => { c with degraded := 0 }).modDrum m.conv
        fun d => { d with markInRun := true }
    else s3
  else
    (s.report { kind := .markDisagree, subject := i, item1 := err, item2 := 0, item3 := 0 }).setCertainty
      m.conv .uncertain .mark

/-- A mark taken while its conveyance is UNCERTAIN (R44). -/
def State.redatum (m : Mark) (edge : Nat) (s : State) : State :=
  if (s.front m.conv).primary.valid then
    let travel := s.projected m.conv edge
    let datum := m.depth - travel
    (s.modConv m.conv fun c =>
      { c with datumCount := (s.front m.conv).primary.count, datumDepth := datum,
               sDatum := s.datumStretch m.conv datum, correction := 0, degraded := 0,
               depth := datum + travel }).setCertainty m.conv .certain .mark
  else s

/-- The mark whose sensor is on a line, with its index (R8, R41). -/
def State.markOnLine (s : State) (line : Fin 24) : Option (Nat × Mark) :=
  (tableEntries s.ds.desc.marks).find? fun x => x.2.line = line

/-- The speed admits the mark's valid direction and lies above the standstill threshold (R41). -/
def State.passing (s : State) (m : Mark) : Bool :=
  !s.convAtRest m.conv &&
    match motionOf (s.conv m.conv).speed with
    | none => false
    | some t => m.facing.admits t

/-- A rising edge on a mark line, stamped at a sample clock time (R41). -/
def State.takeEdge (line : Fin 24) (edge : Nat) (s : State) : State :=
  match s.markOnLine line with
  | none => s
  | some (i, m) =>
    if s.passing m ∧ s.passage i ≠ .taken then
      let s1 := s.setPassage i .taken
      if (s.conv m.conv).certainty = .uncertain then s1.redatum m edge else s1.correct i m edge
    else s

end Sys2Proof.Machine
end

