-- ==== Sys2Proof/Machine/Plan.lean ====
section
/-! DEFINITION. Plans, their build and the binding of watch entries (R68 to R73, R152), the reference at
each sample (R75 to R80), forced slow points (R82, R83) and the feasibility of a retarget (R85). -/

namespace Sys2Proof

/-- The distance of a depth from the guide in a direction of travel (R68). -/
def Travel.distance (t : Travel) (guide depth : Int) : Int :=
  match t with
  | .down => depth - guide
  | .up => guide - depth

/-- The depth at a distance ahead of the guide. -/
def Travel.ahead (t : Travel) (guide : Int) (distance : Int) : Int :=
  match t with
  | .down => guide + distance
  | .up => guide - distance

/-- A signed quantity of the guide, taken in the direction of travel, and back (section 6.2). -/
def Travel.signed (t : Travel) (x : Int) : Int :=
  match t with
  | .down => x
  | .up => -x

/-- Whether a point is a STOP point. -/
def PlanPoint.isStop (p : PlanPoint) : Bool :=
  match p.kind with
  | .stop => true
  | .slow _ => false

/-- Whether two points are of the same depth and the same kind (R68). -/
def PlanPoint.merges (p q : PlanPoint) : Bool := p.depth = q.depth && p.isStop = q.isStop

/-- Of two points, the one with the lower watch id; one that no watch entry gave comes first (R152). -/
def PlanPoint.lowerId (p q : PlanPoint) : PlanPoint :=
  match p.watchId, q.watchId with
  | none, _ => p
  | _, none => q
  | some i, some j => if j < i then q else p

/-- Two points held as one: two STOP points as the lower id's, two SLOW points as the lesser cap's, or
at equal caps the lower id's (R68, R152). -/
def PlanPoint.merge (p q : PlanPoint) : PlanPoint :=
  match p.kind, q.kind with
  | .slow c, .slow d => if d < c then q else if c < d then p else p.lowerId q
  | _, _ => p.lowerId q

/-- Whether a point stands before another: nearer, or SLOW before STOP at the same depth (R68). -/
def PlanPoint.before (t : Travel) (p q : PlanPoint) : Bool :=
  0 < t.distance p.depth q.depth || (p.depth = q.depth && !p.isStop && q.isStop)

/-- Places a point in a plan, in order of distance, merging (R68, R69 step 5). -/
def placePoint (t : Travel) (p : PlanPoint) : List PlanPoint → List PlanPoint
  | [] => [p]
  | q :: qs =>
    if q.merges p then q.merge p :: qs
    else if p.before t q then p :: q :: qs
    else q :: placePoint t p qs

/-- The points of the leg: the nearest STOP point, after every SLOW point nearer than it; one of its own
depth, which R68 places before it, is not nearer (R71). -/
def legOf (ps : List PlanPoint) : List PlanPoint :=
  match ps.find? PlanPoint.isStop with
  | none => ps
  | some q => (ps.takeWhile fun p => !p.isStop).filter (fun p => p.depth ≠ q.depth) ++ [q]

/-- The mode limit of a mode (R56, R70). -/
def Limits.ofMode (l : Limits) : Mode → Nat
  | .man => l.manLimit
  | .material => l.materialLimit
  | .rock => l.rockLimit
  | .inspection => l.inspectionLimit

/-- A SLOW point moved to a depth, with the lesser of its cap and another (R83). -/
def PlanPoint.movedTo (p : PlanPoint) (depth : Int) (cap : Nat) : PlanPoint :=
  { p with depth := depth, kind := match p.kind with
    | .stop => .stop
    | .slow c => .slow (min c cap) }

end Sys2Proof

namespace Sys2Proof.Machine

open Sys2Proof

/-! ### The plan now held -/

/-- The points of the plan held; none when it is absent. -/
def ReferenceGenerator.points (r : ReferenceGenerator) : List PlanPoint := r.plan.getD []

/-- The points of the leg. -/
def ReferenceGenerator.leg (r : ReferenceGenerator) : List PlanPoint := legOf r.points

/-- The leg's stop point (R71). -/
def ReferenceGenerator.stop (r : ReferenceGenerator) : Option PlanPoint :=
  r.leg.find? PlanPoint.isStop

/-- The state seen on another plan: the plan that a Sample record found (R82). -/
def State.onPlan (plan : Option (List PlanPoint)) (s : State) : State :=
  s.modRg fun r => { r with plan := plan }

/-- The guide's last depth. -/
def State.guideDepth (s : State) : Int := (s.conv s.rg.guide).depth

/-- The guide's last speed in the direction of travel, v_m (R95). -/
def State.guideSpeed (s : State) : Int := s.rg.travel.signed (s.conv s.rg.guide).speed

/-- The distance of a point from the guide (R68). -/
def State.pointDistance (s : State) (p : PlanPoint) : Int :=
  s.rg.travel.distance s.guideDepth p.depth

/-- The distance to go; 0 with no plan (R71, R89). -/
def State.distanceToGo (s : State) : Int := (s.rg.stop.map s.pointDistance).getD 0

/-! ### The build (R69 to R73) -/

/-- The level index toward which a skip leg winds (R69 step 2). -/
def skipLevel (pocket tipple : Nat) : Leg → Nat
  | .toPocket | .loading => pocket
  | .toTipple | .dumping => tipple

/-- The depth of the final point of a record's plan (R69 step 2). -/
def State.finalDepth (s : State) : TripBody → Int
  | .cage _ _ d => d
  | .skip p t _ _ leg => s.levelDepth (skipLevel p t leg)

/-- The origin of the final point of a record's plan (R68). -/
def finalOrigin : TripBody → Origin
  | .cage .. => .target
  | .skip _ _ _ _ .toPocket | .skip _ _ _ _ .loading => .pocket
  | .skip _ _ _ _ .toTipple | .skip _ _ _ _ .dumping => .tipple

/-- A conveyance is on a moving drum of a record's trip (R47). -/
def State.movesIn (s : State) (b : TripBody) (c : Conv) : Bool :=
  c = .a || b.guide = .b || s.cc.state = .engaged

/-- The trip speed limit (R70). -/
def State.tripLimit (s : State) (r : TripRecord) : Nat :=
  let l := s.limits
  let l1 := l.ofMode r.body.mode
  let l2 := match r.override with
    | none => l1
    | some v => min l1 v
  let l3 := if s.te.unitMode = .inspection then min l2 l.inspectionLimit else l2
  let lost (c : Conv) : Bool := s.movesIn r.body c && (s.conv c).certainty = .uncertain
  let l4 := if lost .a ∨ lost .b then min l3 l.uncertainSpeed else l3
  if s.cc.state ≠ .engaged then min l4 l.declutchedSpeed else l4

/-- The planned leg time, ms, for a distance to go and a trip speed limit (R73). -/
def legTime (l : Limits) (distance : Int) (limit : Nat) : Nat :=
  let d := distance.toNat
  let vc := min l.vCreep limit
  if d ≤ l.dCreep then ceilDiv (vc * 1000) l.aAcc + ceilDiv (d * 1000) vc
  else
    let d' := d - l.dCreep
    let sa := ceilDiv (limit * limit) (2 * l.aAcc)
    let sd := ceilDiv (limit * limit - vc * vc) (2 * l.aDec)
    let v := if sa + sd ≤ d' then limit
      else max vc (isqrt ((2 * l.aAcc * l.aDec * d' + l.aAcc * (vc * vc)) / (l.aAcc + l.aDec)))
    let cruise := if sa + sd ≤ d' then d' - sa - sd else 0
    ceilDiv (v * 1000) l.aAcc + ceilDiv (cruise * 1000) v + ceilDiv ((v - vc) * 1000) l.aDec
      + ceilDiv (l.dCreep * 1000) vc

/-- The direction in which a conveyance moves over a plan (R152): the guide with the plan, the other
against it. -/
def travelOf (guide : Conv) (t : Travel) (c : Conv) : Travel := if c = guide then t else t.opposite

/-- A tagged entry applies to a record's plan (R152 items 1 to 3). -/
def State.applies (s : State) (id : Nat) (guide : Conv) (t : Travel) (w : WatchEntry) : Bool :=
  w.binding = .tagged && (w.trip = none || w.trip = some id)
    && (w.conv = guide || s.cc.state = .engaged) && w.facing.admits (travelOf guide t w.conv)

/-- The depth of the guide at which an entry acts (R152). -/
def State.boundDepth (s : State) (guide : Conv) (w : WatchEntry) : Int :=
  if w.conv = guide then w.depth else (s.conv guide).depth + (s.conv w.conv).depth - w.depth

/-- The binding that a build gives an entry; `final` is the final point's distance (R152, R69 step 4). -/
def State.bindEntry (s : State) (id : Nat) (guide : Conv) (t : Travel) (final : Int)
    (w : WatchEntry) : Option (BindKind × Int) :=
  let b := s.boundDepth guide w
  let d := t.distance (s.conv guide).depth b
  let window : Int := s.limits.landWindow
  if s.applies id guide t w ∧ Config.depthMin ≤ b ∧ b ≤ Config.depthMax then
    match w.action with
    | .notify => if 0 < d ∧ d ≤ final then some (.notify, b) else none
    | .slow _ => if window < d ∧ d < final - window then some (.slow, b) else none
    | .stop => if window < d ∧ d < final - window then some (.stop, b) else none
  else none

/-- The point of a bound STOP or SLOW entry. -/
def taggedPoint (id : Nat) (w : WatchEntry) (bound : BindKind × Int) : Option PlanPoint :=
  match w.action with
  | .notify => none
  | .slow cap => some { kind := .slow cap, depth := bound.2, origin := .tagged, watchId := some id }
  | .stop => some { kind := .stop, depth := bound.2, origin := .tagged, watchId := some id }

/-- What a build makes (R69). -/
structure Built where
  points : List PlanPoint
  guide : Conv
  travel : Travel
  limit : Nat
  legTime : Nat
  entries : Vector (Option WatchEntry) 16

/-- Builds the plan of a record, whether or not it fits (R69). -/
def State.build (s : State) (r : TripRecord) : Built :=
  let guide := r.body.guide
  let here := (s.conv guide).depth
  let finish := s.finalDepth r.body
  let t : Travel := if here ≤ finish then .down else .up
  let entries := tableMap
    (fun o => o.map fun w => { w with bound := s.bindEntry r.id guide t (t.distance here finish) w })
    s.wt
  let tagged := (tableEntries entries).filterMap fun x => x.2.bound.bind (taggedPoint x.1 x.2)
  let final : PlanPoint :=
    { kind := .stop, depth := finish, origin := finalOrigin r.body, watchId := none }
  let points := tagged.foldl (fun ps p => placePoint t p ps) [final]
  let limit := s.tripLimit r
  let first := ((legOf points).find? PlanPoint.isStop).map fun p => t.distance here p.depth
  { points := points, guide := guide, travel := t, limit := limit,
    legTime := legTime s.limits (first.getD 0) limit, entries := entries }

/-- The build succeeds (R69 step 6). -/
def Built.fits (b : Built) : Bool := b.points.length ≤ Config.planCapacity

/-- A build that succeeds replaces the plan and every binding; ref_prev stands (R69, R152). -/
def State.adopt (b : Built) (s : State) : State :=
  (s.modRg fun r =>
    { r with plan := some b.points, guide := b.guide, travel := b.travel, limit := b.limit,
             legTime := b.legTime, latch := false, label := .none }).modWt fun _ => b.entries

/-! ### The passive limit (R123 check 7) -/

/-- The passive conveyance's projected end depth for a record. -/
def State.passiveEnd (s : State) (b : TripBody) : Int :=
  (s.conv b.guide.other).depth - (s.finalDepth b - (s.conv b.guide).depth)

/-- The passive-limit test: it applies with the clutch ENGAGED. -/
def State.passiveFits (s : State) (b : TripBody) : Bool :=
  let cv := s.convRec b.guide.other
  s.cc.state != .engaged || (cv.top < s.passiveEnd b && s.passiveEnd b < cv.bottom)

/-! ### The reference (R75 to R80) -/

/-- The braking curve of a point at a distance, at retardation `a` (R76, R92). -/
def curveAt (l : Limits) (a : Nat) (p : PlanPoint) (d : Int) : Nat :=
  match p.kind with
  | .stop => isqrt (2 * a * (d - l.dCreep).toNat + l.vCreep * l.vCreep)
  | .slow cap => isqrt (2 * a * d.toNat + cap * cap)

/-- The least of a number and of a list. -/
def leastOf (x : Nat) (ys : List Nat) : Nat := ys.foldl min x

/-- The step of the reference for a rate and an interval, at least 1 mm/s (R75, R80). -/
def rateStep (a micros : Nat) : Nat := max 1 (a * micros / 1000000)

/-- The braking curves of the leg (R76). -/
def State.brakingCurves (s : State) : List Nat :=
  s.rg.leg.map fun p => curveAt s.limits s.limits.aDec p (s.pointDistance p)

/-- The ramp value of WINDING or the decrement of STOPPING, by R75 and R80. -/
def State.drivenTerm (s : State) (micros : Nat) : Nat :=
  if s.te.winder = .winding then s.rg.refPrev + rateStep s.limits.aAcc micros
  else s.rg.refPrev - rateStep s.limits.aDec micros

/-- The least of the terms, before the creep and land-window clauses (R77 step 1, R80). -/
def State.leastTerm (s : State) (micros : Nat) : Nat :=
  let x := leastOf (s.drivenTerm micros) s.brakingCurves
  if s.te.winder = .winding then min x s.rg.limit else x

/-- The landing latch after this Sample record (R77 step 3). -/
def State.latchNow (s : State) : Bool :=
  s.rg.latch || s.distanceToGo ≤ s.limits.landWindow

/-- The reference magnitude of this Sample record (R77, R80). -/
def State.referenceNow (s : State) (micros : Nat) : Nat :=
  let x := s.leastTerm micros
  let y := if s.distanceToGo ≤ s.limits.dCreep then min x s.limits.vCreep else x
  if s.latchNow then 0 else y

/-- A point's curve gives the reference while it falls: a STOP point's, or a SLOW point's above its cap
(R78 item 3). -/
def State.decelBy (s : State) (ref : Nat) (p : PlanPoint) : Bool :=
  let y := curveAt s.limits s.limits.aDec p (s.pointDistance p)
  y = ref &&
    match p.kind with
    | .stop => true
    | .slow cap => cap < y

/-- A SLOW point's curve standing at its cap gives the reference (R78 item 4). -/
def State.cappedBy (s : State) (ref : Nat) (p : PlanPoint) : Bool :=
  let y := curveAt s.limits s.limits.aDec p (s.pointDistance p)
  y = ref &&
    match p.kind with
    | .stop => false
    | .slow cap => y = cap

/-- The segment label of this Sample record (R78). DEDUCED (log 36): in STOPPING a reference that the
floor 0 of R80 gives, where ref_prev is at or below the decrement, is labelled DECEL, as one that the
decrement gives. -/
def State.labelNow (s : State) (micros : Nat) : SegmentLabel :=
  let ref := s.referenceNow micros
  let winding : Bool := s.te.winder = .winding
  if s.latchNow then .landing
  else if s.distanceToGo ≤ s.limits.dCreep then .creep
  else if s.rg.leg.any (s.decelBy ref) then .decel
  else if (winding && s.rg.limit = ref) || s.rg.leg.any (s.cappedBy ref) then .cruise
  else if winding && s.drivenTerm micros = ref then .accel
  else if !winding && s.drivenTerm micros = ref then .decel
  else .none

/-- The Reference Generator takes a Sample record; `prev` is the time of the record before (R75 to R80,
R87, R88), and `plan` the plan that this record found: a point that the Watch Table has placed at this
record is a point of the leg from the next one on (R82). DEDUCED (log 20): the law of R79 is kept by the
plan that the Envelope Supervisor reads (`State.supervisedPlan`), not by lowering this reference. Setting
the landing latch in WINDING begins the landing (R130). -/
def State.takeReference (prev : Nat) (plan : Option (List PlanPoint)) (s : State) : State :=
  if s.te.winder.moving then
    let micros := unsignedElapsed s.efe.sampleTime prev
    let ref := (s.onPlan plan).referenceNow micros
    let latch := (s.onPlan plan).latchNow
    let s1 := (s.modRg fun r =>
      { r with refPrev := ref, latch := latch, label := (s.onPlan plan).labelNow micros }).sendDrive
        (s.rg.travel.signed ref) true
    if s.te.winder = .winding ∧ s.te.rest = .none ∧ latch then
      s1.modTe fun t => { t with rest := .toRest }
    else s1
  else s.sendDrive 0 false

/-! ### Forced slow points (R82, R83) -/

/-- The distance at which a forced slow point is placed (R82). -/
def insertionDistance (l : Limits) (ref cap : Nat) : Nat :=
  if cap < ref then ceilDiv (ref * ref - cap * cap) (2 * l.aDec) else 0

/-- A SLOW point at or nearer than a distance with a cap at or below another (R83, redundant). -/
def State.coversSlow (s : State) (dist : Int) (cap : Nat) (p : PlanPoint) : Bool :=
  match p.kind with
  | .stop => false
  | .slow c => s.pointDistance p ≤ dist && c ≤ cap

/-- The SLOW point of the leg that lies nearest beyond a distance (R83, plan full). -/
def State.slowBeyond (s : State) (dist : Int) : Option PlanPoint :=
  s.rg.leg.find? fun p => !p.isStop && dist < s.pointDistance p

/-- Places a forced slow point from the guide depth of the crossing; the second value is false only when
it could not be placed (R82, R83, R151). DEDUCED (log 42): a point placed earlier at the same Sample record
counts here as a point of the plan and of the leg. -/
def State.insertSlow (id cap : Nat) (crossing : Int) (s : State) : State × Bool :=
  if s.te.winder ≠ .winding then (s, true)
  else
    let t := s.rg.travel
    let depth := t.ahead crossing (insertionDistance s.limits s.rg.refPrev cap)
    let dist := t.distance s.guideDepth depth
    if s.rg.leg.any (s.coversSlow dist cap) then (s, true)
    else if s.rg.stop.any fun p => s.pointDistance p ≤ dist then (s, true)
    else if s.rg.points.length < Config.planCapacity then
      (s.modRg fun r =>
        { r with plan := some (placePoint t
            { kind := .slow cap, depth := depth, origin := .forced, watchId := some id }
            r.points) }, true)
    else
      match s.slowBeyond dist with
      | none => (s, false)
      | some p =>
        (s.modRg fun r =>
          { r with plan := some (placePoint t (p.movedTo depth cap) (r.points.erase p)) }, true)

/-! ### Retarget (R85) -/

/-- The distance the reference needs to reach creep and creep its full distance (R85). -/
def requiredDistance (l : Limits) (ref : Nat) : Nat :=
  if l.vCreep < ref then ceilDiv (ref * ref - l.vCreep * l.vCreep) (2 * l.aDec) + l.dCreep else 0

end Sys2Proof.Machine
end

