-- ==== Sys2Proof/Machine/Clutch.lean ====
section
/-! DEFINITION. The Clutch Controller: its sequences (R160 to R165), the switch supervision (R166), the
reading at power-on (R159) and its tests at a Sample record (R168 to R170). -/

namespace Sys2Proof.Machine

open Sys2Proof

/-- The switches show the clutch open (R161). -/
def State.switchesOpen (s : State) : Bool := s.lines.clutchOpen && !s.lines.clutchClosed
/-- The switches show the clutch closed (R164). -/
def State.switchesClosed (s : State) : Bool := s.lines.clutchClosed && !s.lines.clutchOpen

/-- The line states that CLUTCH_NOT_CONFIRMED names as one item; the parking brake is named by a failed
release alone (R162, R164, R166, R176). -/
def State.switchItem (s : State) (withBrake : Bool) : Int :=
  (lineWeight (withBrake && s.lines.bBrakeApplied) 1 + lineWeight s.lines.clutchOpen 2
    + lineWeight s.lines.clutchClosed 4 : Nat)

/-- CLUTCH_NOT_CONFIRMED (R176). -/
def State.notConfirmed (s : State) (subject : Nat) (withBrake : Bool) : Report :=
  { kind := .clutchNotConfirmed, subject := subject, item1 := s.switchItem withBrake, item2 := 0,
    item3 := 0 }

/-- Enters a clutch state; drum B's motion baseline falls when it leaves ENGAGED (R110, R158). -/
def State.setClutch (c : ClutchState) (step : ClutchStep) (timer : Option Nat) (s : State) : State :=
  (s.modCc fun k => { k with state := c, step := step, timer := timer }).modEs fun e =>
    if c = .engaged then e else { e with motion := e.motion.set .b none }

/-- CLUTCH_CHANGED: the state after, the state before and the outcome, 1 COMPLETED or 2 FAILED
(R171). -/
def State.raiseClutch (before : ClutchState) (outcome : Nat) (s : State) : State :=
  s.raise .clutchChanged 0 (uword32 s.cc.state.code) (uword32 before.code) (uword32 outcome)
    (word32 (truncMm (s.drum .b).paidOut))

/-- The expiry of a clutch timer that starts now (R161, R164). -/
def State.clutchExpiry (s : State) : Nat := s.after (1000 * s.limits.clutchTime)

/-- OPENING ends: the clutch is RELEASED (R161). -/
def State.releaseComplete (s : State) : State :=
  ((s.setClutch .released .none none).modCc fun k =>
    { k with drift := some (s.drum .b).paidOut, switchFault := false }).raiseClutch .engaged 1

/-- OPENING begins; its end is tested at once (R161). -/
def State.beginOpening (s : State) : State :=
  let s1 := s.setClutch .releasing .opening (some s.clutchExpiry)
  if s1.switchesOpen then s1.releaseComplete else s1

/-- A release begins with HOLDING (R160, R161). -/
def State.beginRelease (s : State) : State :=
  let s1 := (s.setClutch .releasing .holding (some s.clutchExpiry)).modCc fun k =>
    { k with drift := some (s.drum .b).paidOut, discrepancy := none }
  if s1.lines.bBrakeApplied then s1.beginOpening else s1

/-- A release fails (R162). -/
def State.releaseFail (s : State) : State :=
  let subject := if s.cc.step = .holding then 1 else 2
  let s1 := (s.setClutch .engaged .none none).modCc fun k =>
    { k with drift := none, discrepancy := none, switchFault := true }
  (s1.report (s1.notConfirmed subject true)).raiseClutch .engaged 2

/-- CLOSING ends: the clutch is ENGAGED (R164). -/
def State.engageComplete (s : State) : State :=
  ((s.setClutch .engaged .none none).modCc fun k =>
    { k with drift := none, discrepancy := none, switchFault := false }).raiseClutch .released 1

/-- An engagement begins with CLOSING; its end is tested at once (R163, R164). -/
def State.beginClosing (s : State) : State :=
  let s1 := s.setClutch .engaging .closing (some s.clutchExpiry)
  if s1.switchesClosed then s1.engageComplete else s1

/-- An engagement fails (R164). -/
def State.engageFail (s : State) : State :=
  let s1 := (s.setClutch .released .none none).modCc fun k => { k with switchFault := true }
  (s1.report (s1.notConfirmed 3 false)).raiseClutch .released 2

/-- The switch supervision in ENGAGED and RELEASED (R166). -/
def State.superviseSwitches (agree : Bool) (subject : Nat) (s : State) : State :=
  if agree then s.modCc fun k => { k with switchFault := false }
  else if s.cc.switchFault then s
  else (s.modCc fun k => { k with switchFault := true }).report (s.notConfirmed subject false)

/-- A change of a clutch switch (R161, R164, R166). -/
def State.switchChange (s : State) : State :=
  match s.cc.state with
  | .engaged => s.superviseSwitches s.switchesClosed 4
  | .released => s.superviseSwitches s.switchesOpen 5
  | .releasing => if s.cc.step = .opening ∧ s.switchesOpen then s.releaseComplete else s
  | .engaging => if s.switchesClosed then s.engageComplete else s

/-- The one reading of the switches in CHECKING (R159). -/
def State.readClutch (s : State) : State :=
  let s1 := s.modCc fun k => { k with discrepancy := none, drift := none, read := true }
  if s.switchesClosed then
    (s1.setClutch .engaged .none none).modCc fun k => { k with switchFault := false }
  else if s.switchesOpen then
    (s1.setClutch .released .none none).modCc fun k => { k with switchFault := false }
  else
    ((s1.setClutch .released .none none).modCc fun k => { k with switchFault := true }).report
      (s.notConfirmed 5 false)

/-- The movement of drum B from the drift baseline, mm (R168). -/
def State.driftFrom (s : State) (baseline : Int) : Nat :=
  mag ((s.drum .b).paidOut - baseline) / 1000000

/-- The drift test of drum B (R168). -/
def State.testDrift (s : State) : State :=
  match s.cc.drift with
  | none =>
    if (s.front .b).primary.valid then
      s.modCc fun k => { k with drift := some (s.drum .b).paidOut }
    else s
  | some b =>
    if s.limits.driftLimit < s.driftFrom b then
      (s.modCc fun k => { k with drift := some (s.drum .b).paidOut }).report
        { kind := .clutchDrift, subject := 0, item1 := s.driftFrom b,
          item2 := s.limits.driftLimit, item3 := 0 }
    else s

/-- The discrepancy of the engaged drums, mm (R170). -/
def State.discrepancyFrom (s : State) (la lb : Int) : Nat :=
  mag (((s.drum .a).paidOut - la) + ((s.drum .b).paidOut - lb)) / 1000000

/-- The discrepancy test of the engaged drums (R169, R170). DEDUCED (log 31): drum A's change in the report is
truncated toward 0 to millimetres. -/
def State.testDiscrepancy (s : State) : State :=
  if (s.front .a).primary.valid && (s.front .b).primary.valid then
    match s.cc.discrepancy with
    | none =>
      s.modCc fun k =>
        { k with discrepancy := some ((s.drum .a).paidOut, (s.drum .b).paidOut) }
    | some (la, lb) =>
      if s.limits.discrepancyLimit < s.discrepancyFrom la lb then
        s.report { kind := .drumDiscrepancy, subject := 0, item1 := s.discrepancyFrom la lb,
                   item2 := s.limits.discrepancyLimit,
                   item3 := truncMm ((s.drum .a).paidOut - la) }
      else s
  else s

/-- The Clutch Controller takes a Sample record (R168, R170). -/
def State.takeClutch (s : State) : State :=
  if s.cc.state = .engaged then s.testDiscrepancy else s.testDrift

end Sys2Proof.Machine
end

