-- ==== Sys2Proof/Machine/Operands.lean ====
section
/-! DEFINITION. The operands of requests and the data of replies: the form of each payload (R195, R198),
the records read from payloads with their ranges (R6 to R17, R146), and the records written into replies
(R47, R59, R148, R187, R189, R198, R205, R208, R209). -/

namespace Sys2Proof.Machine

open Sys2Proof

/-! ### Reading -/

/-- A byte of a payload as a number. -/
def octet (p : List Byte) (i : Nat) : Nat := fieldNat p i 1

/-- Reads a yes/no byte; another value has no reading (R199). -/
def boolOf : Nat → Option Bool
  | 0 => some false
  | 1 => some true
  | _ => none

/-- A number within a range. -/
def within (lo hi n : Nat) : Bool := lo ≤ n && n ≤ hi

/-- A depth within the depth range (section 6.1). -/
def depthInRange (d : Int) : Bool := Config.depthMin ≤ d && d ≤ Config.depthMax

/-- The form of a fixed size (R195). -/
def sized (n : Nat) (p : List Byte) : Bool := p.length = n

/-- PUT_LEVEL's form: 2 bytes with kind NONE, or 11 and the label's stated length; with kind NONE the
bytes after the kind are not examined (R7, R198). -/
def formPutLevel (p : List Byte) : Bool :=
  if octet p 1 = 0 then p.length = 2 || 11 ≤ p.length
  else 11 ≤ p.length && p.length = 11 + octet p 10

/-- PUT_MARK's form (R198). -/
def formPutMark (p : List Byte) : Bool := p.length = 8 || (octet p 1 = 0 && p.length = 2)

/-- PUT_DRUM's form (R198). -/
def formPutDrum (p : List Byte) : Bool := 5 ≤ p.length && p.length = 5 + 8 * octet p 4

/-- PUT_CONVEYANCE's form: the coefficient count follows the kind (R12, R198). -/
def formPutConveyance (p : List Byte) : Bool :=
  2 ≤ p.length && p.length = if octet p 1 = 3 then 19 else 25

/-- SET_DATUM's form (R195, R198). -/
def formSetDatum (p : List Byte) : Bool := p.length = 6 && octet p 1 ≤ 1

/-- The form of SET_SERVICE and SET_MODE (R195, R198). -/
def formSwitch (p : List Byte) : Bool := p.length = 1 && octet p 0 ≤ 1

/-- The override test of R53: 0 is absent, 1 to 99 fail. -/
def overrideForm (v : Nat) : Bool := v = 0 || 100 ≤ v

/-- QUEUE_TRIP's form (R53). -/
def formQueueTrip (p : List Byte) : Bool :=
  p.length = 13 && fieldNat p 0 2 ≠ 0 && octet p 2 ≤ 1 && (Mode.ofCode (octet p 5)).isSome
    && octet p 6 ≤ 1 && overrideForm (fieldNat p 3 2)

/-- QUEUE_SKIP_CYCLES' form (R53). -/
def formQueueSkip (p : List Byte) : Bool :=
  p.length = 8 && fieldNat p 0 2 ≠ 0 && octet p 2 ≤ 1 && overrideForm (fieldNat p 3 2)

/-- RETARGET's form (R195, R198). -/
def formRetarget (p : List Byte) : Bool := p.length = 9 && octet p 2 ≤ 1

/-- The label of a PUT_LEVEL payload: at most 12 characters, each 20h to 7Eh (R6). -/
def labelOf (p : List Byte) : Option (List Byte) :=
  let l := p.drop 11
  if l.length ≤ 12 ∧ l.all fun b => within 0x20 0x7E b.toNat then some l else none

/-- A gate line, with FFh for absent (R6, R198). -/
def gateOf (n : Nat) : Option (Option (Fin 16)) :=
  if n = 0xFF then some none else if h : n < 16 then some (some ⟨n, h⟩) else none

/-- A depth of a payload, within the depth range. -/
def depthOf (p : List Byte) (i : Nat) : Option Int :=
  if depthInRange (fieldInt p i) then some (fieldInt p i) else none

/-- The complete Level Table entry of a PUT_LEVEL payload, if every field holds a value of R6. -/
def levelOf (p : List Byte) : Option Level := do
  let kind ← LevelKind.ofCode (octet p 1)
  let serves ← Conv.ofCode (octet p 2)
  let depth ← depthOf p 3
  let modes ← ModeSet.ofCode (octet p 7)
  let inService ← boolOf (octet p 8)
  let gate ← gateOf (octet p 9)
  let label ← labelOf p
  some { kind := kind, serves := serves, depth := depth, modes := modes, inService := inService,
         gate := gate, label := label }

/-- The complete Mark Table entry of a PUT_MARK payload, if every field is in range (R8). -/
def markOf (p : List Byte) : Option Mark := do
  let conv ← Conv.ofCode (octet p 1)
  let depth ← depthOf p 2
  let facing ← Facing.ofCode (octet p 6)
  if h : octet p 7 < 24 then
    some { conv := conv, depth := depth, facing := facing, line := ⟨octet p 7, h⟩ }
  else none

/-- The sense of a drum from its signed byte (R10). -/
def senseOf : Nat → Option Sense
  | 0x01 => some .plus
  | 0xFF => some .minus
  | _ => none

/-- The layers of a PUT_DRUM payload. -/
def layersOf (p : List Byte) : List Layer :=
  (List.range (octet p 4)).map fun i =>
    { start := fieldInt p (5 + 8 * i), pitch := fieldNat p (9 + 8 * i) 4 }

/-- The start counts strictly ascend (R9). -/
def ascending : List Layer → Bool
  | [] | [_] => true
  | l :: m :: rest => l.start < m.start && ascending (m :: rest)

/-- A layer table is well formed (R9). -/
def layersWellFormed (ls : List Layer) : Bool :=
  within 1 4 ls.length && (ls.head?.map Layer.start) = some 0 && ascending ls
    && ls.all fun l => within 1000 20000000 l.pitch

/-- The Drum record of a PUT_DRUM payload, if it passes R10. -/
def drumOf (p : List Byte) : Option Drum := do
  let sense ← senseOf (octet p 1)
  if layersWellFormed (layersOf p) ∧ within 1 1000 (fieldNat p 2 2) then
    some { sense := sense, tolerance := fieldNat p 2 2, layers := layersOf p }
  else none

/-- The kind that a conveyance may have (R11). -/
def kindAllowed : Conv → ConvKind → Bool
  | .a, .cage | .b, .skip | .b, .counterweight => true
  | .a, .skip | .a, .counterweight | .b, .cage => false

/-- The coefficients of a PUT_CONVEYANCE payload, by kind (R11, R12). -/
def stretchOf (p : List Byte) : ConvKind → Stretch
  | .counterweight => .single (fieldNat p 17 2)
  | .cage | .skip =>
    .perClass (fieldNat p 17 2) (fieldNat p 19 2) (fieldNat p 21 2) (fieldNat p 23 2)

/-- The coefficients are in range (R11). -/
def Stretch.inRange : Stretch → Bool
  | .single k => k ≤ 5000
  | .perClass e q m r => e ≤ 5000 && q ≤ 5000 && m ≤ 5000 && r ≤ 5000

/-- The Conveyance record of a PUT_CONVEYANCE payload for a conveyance, if it passes R12. -/
def conveyanceOf (c : Conv) (p : List Byte) : Option Conveyance := do
  let kind ← ConvKind.ofCode (octet p 1)
  let top ← depthOf p 5
  let bottom ← depthOf p 9
  if kindAllowed c kind ∧ within 1 2 (octet p 2) ∧ within 1000 10000 (fieldNat p 3 2) ∧ top < bottom
      ∧ fieldNat p 13 4 ≤ 300000 ∧ Stretch.inRange (stretchOf p kind) then
    some { kind := kind, decks := octet p 2, spacing := fieldNat p 3 2, top := top, bottom := bottom,
           ropeOffset := fieldNat p 13 4, stretch := stretchOf p kind }
  else none

/-- The ranges of the Limits record, its fields in the order of R14. -/
def limitRanges : List (Nat × Nat) :=
  [(2, 20), (1000, 20000), (100, 20000), (100, 20000), (100, 20000), (100, 2000), (100, 2000),
   (100, 2500), (100, 1500), (100, 1500)] ++
  [(100, 2000), (500, 5000), (100, 1000), (500, 10000), (10, 500), (50, 2000), (5, 100), (100, 2000),
   (0, 20), (200, 3000)] ++
  [(100, 5000), (0, 100), (1, 60), (50, 2000), (0, 8), (10, 5000), (5, 500), (1, 30), (16, 65535),
   (1, 200)] ++
  [(1, 120), (0, 15), (0, 15), (0, 15), (200, 5000), (5, 600), (5, 300), (0, 1), (0, 1), (0, 1)]

/-- The fields of a Limits record, in the order of R14. -/
def Limits.fields (l : Limits) : List Nat :=
  [l.samplePeriod, l.vDesign, l.manLimit, l.materialLimit, l.rockLimit, l.inspectionLimit,
   l.uncertainSpeed, l.declutchedSpeed, l.aAcc, l.aDec] ++
  [l.aRet, l.aEmg, l.vCreep, l.dCreep, l.landWindow, l.overtravelLimit, l.standstill, l.marginAbs,
   l.marginPct, l.followLimit] ++
  [l.followTime, l.overtimeSlack, l.overtimeFixed, l.captureWindow, l.nDeg, l.discrepancyLimit,
   l.driftLimit, l.clutchTime, l.toothPitch, l.alignTolerance] ++
  [l.signalWait, l.waitTorque, l.waitRelease, l.waitSettle, l.brakeConfirm, l.loadWait, l.dumpWait,
   l.attnMode.code, l.adviseEnable.toNat, l.strictAll.toNat]

/-- The Limits record of 40 fields, with the mode limits clamped to the design speed (R15). -/
def limitsFrom (f : Nat → Nat) : Limits :=
  { samplePeriod := f 0, vDesign := f 1, manLimit := min (f 2) (f 1), materialLimit := min (f 3) (f 1),
    rockLimit := min (f 4) (f 1), inspectionLimit := min (f 5) (f 1), uncertainSpeed := f 6,
    declutchedSpeed := f 7, aAcc := f 8, aDec := f 9, aRet := f 10, aEmg := f 11, vCreep := f 12,
    dCreep := f 13, landWindow := f 14, overtravelLimit := f 15, standstill := f 16,
    marginAbs := f 17, marginPct := f 18, followLimit := f 19, followTime := f 20,
    overtimeSlack := f 21, overtimeFixed := f 22, captureWindow := f 23, nDeg := f 24,
    discrepancyLimit := f 25, driftLimit := f 26, clutchTime := f 27, toothPitch := f 28,
    alignTolerance := f 29, signalWait := f 30, waitTorque := f 31, waitRelease := f 32,
    waitSettle := f 33, brakeConfirm := f 34, loadWait := f 35, dumpWait := f 36,
    attnMode := if f 37 = 0 then .level else .pulse, adviseEnable := f 38 = 1, strictAll := f 39 = 1 }

/-- The Limits record of a PUT_LIMITS payload, if every field is in range and a_ret is at least a_dec
(R15). -/
def limitsOf (p : List Byte) : Option Limits :=
  let f (i : Nat) : Nat := fieldNat p (2 * i) 2
  if (limitRanges.zipIdx.all fun x => within x.1.1 x.1.2 (f x.2)) ∧ f 9 ≤ f 10 then
    some (limitsFrom f)
  else none

/-- The target of a QUEUE_TRIP or RETARGET payload whose target form stands at `i` (R198). -/
def targetOf (p : List Byte) (i : Nat) : Target :=
  if octet p i = 0 then .station (octet p (i + 1)) (octet p (i + 2)) else .depth (fieldInt p (i + 3))

/-- The override of an admission payload; 0 is absent (R198). -/
def overrideOf (p : List Byte) : Option Nat := if fieldNat p 3 2 = 0 then none else some (fieldNat p 3 2)

/-- The action of a SET_WATCH payload; the cap is examined for SLOW alone (R147). -/
def actionOf (code cap : Nat) : Option WatchAction :=
  match code with
  | 1 => some .notify
  | 2 => if within 100 20000 cap then some (.slow cap) else none
  | 3 => some .stop
  | _ => none

/-- The entry of a SET_WATCH payload, if its fields pass R147. -/
def watchOf (p : List Byte) : Option WatchEntry := do
  let conv ← Conv.ofCode (octet p 1)
  let depth ← depthOf p 2
  let facing ← Facing.ofCode (octet p 6)
  let binding ← WatchBinding.ofCode (octet p 7)
  let action ← actionOf (octet p 8) (fieldNat p 9 2)
  let persistence ← Persistence.ofCode (octet p 11)
  let trip := fieldNat p 12 2
  if binding = .forced ∧ trip ≠ 0 then none
  else
    some { conv := conv, depth := depth, facing := facing, binding := binding, action := action,
           persistence := persistence, trip := if trip = 0 then none else some trip, bound := none }

/-! ### Writing -/

/-- A gate line in a record, FFh for absent (R198). -/
def gateCode (g : Option (Fin 16)) : Nat := (g.map Fin.val).getD 0xFF

/-- A Level Table place as PUT_LEVEL lays it out (R198). -/
def levelBytes (i : Nat) : Option Level → List Byte
  | none => le8 i ++ le8 0
  | some l =>
    le8 i ++ le8 l.kind.code ++ le8 l.serves.code ++ leInt l.depth ++ le8 l.modes.code
      ++ leBool l.inService ++ le8 (gateCode l.gate) ++ le8 l.label.length ++ l.label

/-- A Mark Table place as PUT_MARK lays it out (R198). -/
def markBytes (i : Nat) : Option Mark → List Byte
  | none => le8 i ++ le8 0
  | some m => le8 i ++ le8 m.conv.code ++ leInt m.depth ++ le8 m.facing.code ++ le8 m.line

/-- The signed byte of a sense (R198). -/
def senseByte : Sense → Byte
  | .plus => 0x01
  | .minus => 0xFF

/-- A Drum record as PUT_DRUM lays it out (R198). -/
def drumBytes (c : Conv) (d : Drum) : List Byte :=
  le8 c.code ++ [senseByte d.sense] ++ le16 d.tolerance ++ le8 d.layers.length
    ++ d.layers.flatMap fun l => leInt l.start ++ leNat32 l.pitch

/-- The coefficients as PUT_CONVEYANCE lays them out (R198). -/
def stretchBytes : Stretch → List Byte
  | .single k => le16 k
  | .perClass e q m r => le16 e ++ le16 q ++ le16 m ++ le16 r

/-- A Conveyance record as PUT_CONVEYANCE lays it out (R198). -/
def conveyanceBytes (c : Conv) (v : Conveyance) : List Byte :=
  le8 c.code ++ le8 v.kind.code ++ le8 v.decks ++ le16 v.spacing ++ leInt v.top ++ leInt v.bottom
    ++ leNat32 v.ropeOffset ++ stretchBytes v.stretch

/-- A Limits record as PUT_LIMITS lays it out (R198). -/
def limitsBytes (l : Limits) : List Byte := (Limits.fields l).flatMap le16

/-- The description status items, in the order of R3 (R198). -/
def statusBytes (d : DescriptionStore) : List Byte :=
  leBool d.uncommitted ++ le8 d.storeState.code ++ le8 d.lastWrite.code

/-- The event record of a TAKE_EVENTS reply (R208). -/
def eventBytes (flag : Bool) (e : EventRecord) : List Byte :=
  le8 e.kind.code ++ leBool flag ++ le16 e.trip ++ leNat32 e.time ++ leWord e.v1 ++ leWord e.v2
    ++ leWord e.v3 ++ leWord e.v4

/-- The records of a TAKE_EVENTS reply, the first carrying the overrun flag (R202). -/
def eventsBytes (flag : Bool) : List EventRecord → List Byte
  | [] => []
  | e :: es => eventBytes flag e ++ es.flatMap (eventBytes false)

/-- The override of a record, 0 for absent (R59). -/
def overrideCode (r : TripRecord) : Nat := r.override.getD 0

/-- The target fields of a cage trip: form, level index, deck (R198). -/
def targetBytes : Target → List Byte
  | .station l d => le8 0 ++ le8 l ++ le8 d
  | .depth _ => le8 1 ++ le8 0 ++ le8 0

/-- The fields of a record that follow its type (R198, ASK_QUEUE). -/
def bodyBytes : TripBody → List Byte
  | .cage _ t d => targetBytes t ++ leInt d
  | .skip p t c r leg => le8 leg.code ++ le8 p ++ le8 t ++ le16 c ++ le16 r

/-- A compact trip record of 15 bytes (R198, ASK_QUEUE). -/
def tripBytes (r : TripRecord) : List Byte :=
  le16 r.id ++ le8 r.body.typeCode ++ le8 r.body.mode.code ++ leBool r.active ++ leBool r.interrupted
    ++ bodyBytes r.body ++ le16 (overrideCode r)

/-- The kind code of a binding, 0 for NONE (R199). -/
def bindCode (b : Option (BindKind × Int)) : Nat := (b.map fun x => x.1.code).getD 0

/-- A compact watch entry of 12 bytes (R198, ASK_WATCH). -/
def watchBytes (id : Nat) (w : WatchEntry) : List Byte :=
  le8 (id + lineWeight (w.conv = .b) 16 + lineWeight (w.binding = .tagged) 32
      + lineWeight (w.persistence = .always) 64)
    ++ le8 (w.facing.code + 4 * w.action.code + 16 * bindCode w.bound)
    ++ leInt24 w.depth ++ le16 w.action.cap ++ le16 (w.trip.getD 0)
    ++ leInt24 ((w.bound.map Prod.snd).getD 0)

/-- A watch entry as SET_WATCH lays it out (R147, R198). DEDUCED (log 44): the cap of a NOTIFY or STOP entry
is 0. -/
def watchEntryBytes (id : Nat) (w : WatchEntry) : List Byte :=
  le8 id ++ le8 w.conv.code ++ leInt w.depth ++ le8 w.facing.code ++ le8 w.binding.code
    ++ le8 w.action.code ++ le16 w.action.cap ++ le8 w.persistence.code ++ le16 (w.trip.getD 0)

/-- The items of a conveyance in ASK_POSITION (R47). -/
def convBytes (m : ConvModel) : List Byte :=
  leInt m.depth ++ leInt m.speed ++ le8 m.certainty.code ++ le8 m.loadClass.code ++ leInt m.correction
    ++ leInt m.datumCount ++ leInt m.datumDepth ++ leInt m.sDatum ++ leNat32 m.degraded

/-- A check offset, −2,147,483,648 while PENDING (R199). -/
def offsetCode (o : Option Int) : Int := o.getD (-2147483648)

/-- The items of a drum in ASK_POSITION (R47). -/
def drumItemBytes (f : DrumFront) (d : DrumModel) : List Byte :=
  leInt f.primary.count ++ leBool f.primary.valid ++ leInt f.check.count ++ leBool f.check.valid
    ++ leInt (offsetCode f.offset) ++ le8 d.run.code ++ leInt (truncMm d.paidOut)

/-- The passage states, FFh for an empty index (R198). -/
def passageBytes (s : State) : List Byte :=
  (s.ds.desc.marks.toList.zip s.pm.passage.toList).flatMap fun x =>
    if x.1.isSome then le8 x.2.code else le8 0xFF

/-- The data of an ASK_POSITION reply (R47, R198). -/
def positionBytes (s : State) : List Byte :=
  convBytes (s.conv .a) ++ convBytes (s.conv .b) ++ drumItemBytes (s.front .a) (s.drum .a)
    ++ drumItemBytes (s.front .b) (s.drum .b) ++ passageBytes s

/-- One row of the Fault Kind Table (R187). -/
def faultRowBytes (s : State) (k : FaultKind) : List Byte :=
  le8 (s.severity k) ++ le8 ((severityFloors.toList[k.idx]?).getD 0)
    ++ le8 ((defaultSeverities.toList[k.idx]?).getD 0)
    ++ leBool ((s.fm.pending.toList[k.idx]?).getD false)
    ++ le8 ((s.fm.counts.toList[k.idx]?).getD 0)

/-- The data of an ASK_FAULTS reply (R187, R198). -/
def faultsBytes (s : State) : List Byte :=
  le8 s.pendingKinds.length ++ le8 (inForceCode s.fm.inForce) ++ leBool s.stopReq ++ leBool s.advise
    ++ FaultKind.all.flatMap (faultRowBytes s)

/-- The First-Fault Record in a reply, FFh when empty (R184, R198). -/
def firstFaultBytes : Option FirstFault → List Byte
  | none => le8 0xFF
  | some f =>
    le8 f.kind.code ++ le8 f.severity ++ leNat32 f.time ++ le8 f.winder.code ++ le16 (f.trip.getD 0)
      ++ le8 f.label.code ++ leInt f.depth.a ++ leInt f.depth.b ++ leInt f.speed.a ++ leInt f.speed.b
      ++ leInt f.ref ++ le16 f.env ++ le8 f.certainty.a.code ++ le8 f.certainty.b.code
      ++ le8 f.clutch.code ++ leWord f.v1 ++ leWord f.v2 ++ leWord f.v3 ++ leWord f.v4

/-- A Later-Fault record in a reply (R185, R198). -/
def laterFaultBytes (f : LaterFault) : List Byte :=
  le8 f.kind.code ++ le8 f.severity ++ leNat32 f.time ++ leInt f.depth ++ le16 (f.trip.getD 0)

/-- The data of a READ_FAULT_LOG reply (R189). -/
def logBytes (f : FaultManager) (start : Nat) : List Byte :=
  le8 f.later.length ++
    if start = 0 then firstFaultBytes f.first ++ (f.later.take 8).flatMap laterFaultBytes
    else ((f.later.drop (start - 1)).take 8).flatMap laterFaultBytes

/-- A text field of 16 characters, followed by spaces (R205). -/
def textBytes (t : List Nat) : List Byte :=
  ((t ++ List.replicate 16 0x20).take 16).flatMap le8

/-- The data of an ASK_IDENTITY reply (R205): ATHOLEN, CALKORO WM-24, revision 1.0, the address, the
rate and the capacities. -/
def identityBytes (l : ControlLink) : List Byte :=
  textBytes [0x41, 0x54, 0x48, 0x4F, 0x4C, 0x45, 0x4E]
    ++ textBytes [0x43, 0x41, 0x4C, 0x4B, 0x4F, 0x52, 0x4F, 0x20, 0x57, 0x4D, 0x2D, 0x32, 0x34]
    ++ [1, 0] ++ le8 l.address ++ leBool l.fast ++ [48, 24, 16, 12, 32, 15]

/-- The phase as ASK_STATUS shows it: 0 outside PREPARING (R118, R199). -/
def Executive.phaseShown (t : Executive) : Nat := if t.winder = .preparing then t.phase.code else 0
/-- The rest step as ASK_STATUS shows it: 0 outside WINDING and STOPPING (R118). -/
def Executive.restShown (t : Executive) : Nat := if t.winder.moving then t.rest.code else 0
/-- The stop reason as ASK_STATUS shows it: 0 outside STOPPING (R118). -/
def Executive.reasonShown (t : Executive) : Nat :=
  if t.winder = .stopping then t.stopReason.code else 0
/-- The dwell kind as ASK_STATUS shows it: 0 outside DWELL (R118, R199). -/
def Executive.dwellShown (t : Executive) : Nat := if t.winder = .dwell then t.dwell.code else 0

/-- The data of an ASK_STATUS reply (R206, R209); the distance to go is the Reference Generator's. -/
def statusSummary (s : State) (distanceToGo : Int) : List Byte :=
  le8 s.te.winder.code ++ le8 s.te.phaseShown ++ le8 s.te.restShown ++ le8 s.te.reasonShown
    ++ le8 s.te.dwellShown ++ le8 s.te.unitMode.code ++ le8 s.cc.state.code ++ le8 s.rg.label.code
    ++ le8 (s.conv .a).certainty.code ++ le8 (s.conv .b).certainty.code ++ le16 s.activeId
    ++ leInt (s.conv .a).depth ++ leInt (s.conv .b).depth ++ leInt (s.conv .a).speed
    ++ leInt (s.conv .b).speed ++ leInt s.rg.refSent ++ le16 s.es.env ++ le16 s.es.margin
    ++ le16 s.es.tier1 ++ le16 s.es.tier2 ++ leInt distanceToGo ++ le8 s.pendingKinds.length
    ++ le8 s.link.events.length ++ le16 s.outputs
    ++ le8 ((s.fm.first.map fun f => f.kind.code).getD 0) ++ leNat32 s.unitTime

end Sys2Proof.Machine
end

