-- ==== Sys2Proof/Machine/Serve.lean ====
section
/-! DEFINITION. The taking of a request by the Control Link Port and the forming of its reply (R193 to
R197, R207). -/

namespace Sys2Proof.Machine

open Sys2Proof

/-- The request classes (R196). -/
inductive RequestClass
  | any | stood | service | special
  deriving DecidableEq, Repr

/-- What the owning block answers: the state its taking leaves, the result code and the reply data. -/
structure Answered where
  state : State
  code : ResultCode
  data : List Byte

/-- A refusal that carries the result code alone and changes nothing (R197, R199). -/
def refuse (c : ResultCode) (s : State) : Answered := { state := s, code := c, data := [] }

/-- An answer that carries data. -/
def answer (c : ResultCode) (data : List Byte) (s : State) : Answered :=
  { state := s, code := c, data := data }

/-- The first refusal of a list of checks, each a condition that must hold and its refusal; `none` when
all pass. -/
def firstRefusal : List (Bool × ResultCode) → Option ResultCode
  | [] => none
  | (ok, c) :: rest => if ok then firstRefusal rest else some c

/-- The class check (R196). -/
def classRefusal (c : RequestClass) (w : WinderState) : Option ResultCode :=
  match c with
  | .any | .special => none
  | .stood => if w = .stoodDown then none else some .notStoodDown
  | .service =>
    match w with
    | .stoodDown | .checking => some .notInService
    | .lockedOut => some .locked
    | .idle | .preparing | .prepared | .winding | .stopping | .held | .dwell | .tripped => none

/-- A frame: start, address, length, tag, kind, payload and CRC (R207). -/
def frameBytes (address : Nat) (tag kind : Byte) (payload : List Byte) : List Byte :=
  let body := le8 address ++ le8 (payload.length + 2) ++ [tag, kind] ++ payload
  [0xA5] ++ body ++ le16 (crc16 body).toNat

/-- The receiver returns to HUNTING with nothing gathered (R192). -/
def State.hunt (s : State) : State := s.modLink fun l => { l with receive := .hunting, buffer := [] }

/-- The port takes a complete frame: not in CHECKING, and only with the reply state IDLE (R191, R193
test 3). -/
def State.takesFrame (s : State) : Bool :=
  s.te.winder != .checking && s.link.replyState = .idle

/-- The reply becomes PENDING (R194, R197). -/
def State.reply (tag kind : Byte) (a : Answered) : State :=
  a.state.modLink fun l =>
    { l with replyState := .pending,
             reply := frameBytes l.address tag kind (le8 a.code.code ++ a.data) }

/-- The reply kind of a request kind of R198 (R197). -/
def replyKind (kind : Byte) : Byte := kind + 0x80

/-- The checks of the port and then the owner (R195, R196). -/
def checked (cls : RequestClass) (form : List Byte → Bool) (owner : List Byte → State → Answered)
    (p : List Byte) (s : State) : Answered :=
  if form p then
    match classRefusal cls s.te.winder with
    | some c => refuse c s
    | none => owner p s
  else refuse .badForm s

/-- Takes a request of a listed kind (R193 to R197). -/
def State.serve (kind : Byte) (cls : RequestClass) (form : List Byte → Bool)
    (owner : List Byte → State → Answered) (tag : Byte) (p : List Byte) (s : State) : State :=
  if s.takesFrame then
    State.reply tag (replyKind kind) (checked cls form owner p s.hunt)
  else s.hunt

end Sys2Proof.Machine
end

