-- ==== Sys2Proof/Machine/DescriptionRequests.lean ====
section
/-! DEFINITION. The Description Store: the requests that edit and read the description (R4 to R19), its
validation (R18), the store write (R20) and the power-on load (R21). -/

namespace Sys2Proof.Machine

open Sys2Proof

/-! ### The effect of a change of scale (R13) -/

/-- Conveyance c's scale has changed: it becomes UNCERTAIN (R13). -/
def State.scaleChanged (c : Conv) (s : State) : State := s.setCertainty c .uncertain .description

/-- The paid-out length of a drum by its present layer table (R13). -/
def State.lengthNow (s : State) (c : Conv) : Int :=
  match (s.drum c).lastValid with
  | none => 0
  | some (count, _) => paidOut (s.layers c) count

/-- An accepted PUT_DRUM acts on the Position Model, the Envelope Supervisor and the Clutch Controller
(R13, R110, R168, R169). -/
def State.drumChanged (c : Conv) (s : State) : State :=
  (((s.scaleChanged c).modDrum c fun d => { d with paidOut := s.lengthNow c }).modEs fun e =>
    { e with motion := e.motion.set c none }).modCc fun k =>
      { k with discrepancy := none, drift := if c = .b then none else k.drift }

/-- Changes the working description by an accepted PUT: the uncommitted flag is set (R4). -/
def State.editDesc (f : Description → Description) (s : State) : State :=
  s.modDs fun d => { d with desc := f d.desc, uncommitted := true }

/-- A PUT after the port's checks: BUSY while a write is in progress (R4). -/
def whenStoreIdle (k : List Byte → State → Answered) (p : List Byte) (s : State) : Answered :=
  if s.ds.storeState = .writing then refuse .busy s else k p s

/-! ### Levels (R7) -/

/-- Another entry of the same conveyance lies nearer than 1,000 mm (R7 check 4). -/
def State.levelClash (s : State) (i : Nat) (l : Level) : Bool :=
  (tableEntries s.ds.desc.levels).any fun x =>
    x.1 != i && x.2.serves = l.serves && decide ((mag (x.2.depth - l.depth) : Int) < Config.levelGap)

/-- Writes a Level Table place (R7). -/
def State.putLevelAt (i : Nat) (l : Option Level) (s : State) : State :=
  s.editDesc fun d => { d with levels := d.levels.setIfInBounds i l }

/-- PUT_LEVEL (R7). -/
def putLevel (p : List Byte) (s : State) : Answered :=
  let i := octet p 0
  if 48 ≤ i then refuse .badRange s
  else if octet p 1 = 0 then answer .ok (levelBytes i none) (s.putLevelAt i none)
  else
    match levelOf p with
    | none => refuse .badRange s
    | some l =>
      if s.levelClash i l then refuse .duplicateLevel s
      else answer .ok (levelBytes i (some l)) (s.putLevelAt i (some l))

/-- ASK_LEVEL (R5, R6). -/
def askLevel (p : List Byte) (s : State) : Answered :=
  let i := octet p 0
  if 48 ≤ i then refuse .badRange s
  else answer .ok (statusBytes s.ds ++ levelBytes i (s.level i)) s

/-! ### Marks (R8) -/

/-- Another entry uses the same sensor line (R8 check 3). -/
def State.markClash (s : State) (i : Nat) (m : Mark) : Bool :=
  (tableEntries s.ds.desc.marks).any fun x => x.1 != i && x.2.line = m.line

/-- Writes a Mark Table place; the mark becomes ARMED (R8, R45). -/
def State.putMarkAt (i : Nat) (m : Option Mark) (s : State) : State :=
  (s.editDesc fun d => { d with marks := d.marks.setIfInBounds i m }).setPassage i .armed

/-- PUT_MARK (R8). -/
def putMark (p : List Byte) (s : State) : Answered :=
  let i := octet p 0
  if 24 ≤ i then refuse .badRange s
  else if octet p 1 = 0 then answer .ok (markBytes i none) (s.putMarkAt i none)
  else
    match markOf p with
    | none => refuse .badRange s
    | some m =>
      if s.markClash i m then refuse .duplicateLevel s
      else answer .ok (markBytes i (some m)) (s.putMarkAt i (some m))

/-- ASK_MARK (R5, R8). -/
def askMark (p : List Byte) (s : State) : Answered :=
  let i := octet p 0
  if 24 ≤ i then refuse .badRange s
  else answer .ok (statusBytes s.ds ++ markBytes i (s.mark i)) s

/-! ### Drums and conveyances (R10, R12) -/

/-- PUT_DRUM (R10, R13). -/
def putDrum (p : List Byte) (s : State) : Answered :=
  match Conv.ofCode (octet p 0), drumOf p with
  | some c, some d =>
    answer .ok (drumBytes c d)
      ((s.editDesc fun e => { e with drums := e.drums.set c d }).drumChanged c)
  | _, _ => refuse .badRange s

/-- ASK_DRUM (R5, R9). -/
def askDrum (p : List Byte) (s : State) : Answered :=
  match Conv.ofCode (octet p 0) with
  | none => refuse .badRange s
  | some c => answer .ok (statusBytes s.ds ++ drumBytes c (s.ds.desc.drums.get c)) s

/-- PUT_CONVEYANCE (R12, R13). -/
def putConveyance (p : List Byte) (s : State) : Answered :=
  match Conv.ofCode (octet p 0) with
  | none => refuse .badRange s
  | some c =>
    match conveyanceOf c p with
    | none => refuse .badRange s
    | some v =>
      answer .ok (conveyanceBytes c v)
        ((s.editDesc fun e => { e with convs := e.convs.set c v }).scaleChanged c)

/-- ASK_CONVEYANCE (R5, R11). -/
def askConveyance (p : List Byte) (s : State) : Answered :=
  match Conv.ofCode (octet p 0) with
  | none => refuse .badRange s
  | some c => answer .ok (statusBytes s.ds ++ conveyanceBytes c (s.convRec c)) s

/-! ### Limits and severities (R15 to R17) -/

/-- PUT_LIMITS (R15); ATTN is driven in the new mode at once, and a pulse does not outlast a change to
LEVEL (R16). -/
def putLimits (p : List Byte) (s : State) : Answered :=
  match limitsOf p with
  | none => refuse .badRange s
  | some l =>
    answer .ok (limitsBytes l)
      ((s.editDesc fun d => { d with limits := l }).modLink fun k =>
        { k with pulse := if l.attnMode = .level then none else k.pulse })

/-- ASK_LIMITS (R5, R15). -/
def askLimits (_p : List Byte) (s : State) : Answered :=
  answer .ok (statusBytes s.ds ++ limitsBytes s.limits) s

/-- The floor of a kind (R172). -/
def floorOf (k : FaultKind) : Severity := (severityFloors.toList[k.idx]?).getD 0

/-- PUT_SEVERITY (R17). -/
def putSeverity (p : List Byte) (s : State) : Answered :=
  match FaultKind.ofCode (octet p 0) with
  | none => refuse .badRange s
  | some k =>
    if h : octet p 1 < 4 then
      let v : Severity := max ⟨octet p 1, h⟩ (floorOf k)
      answer .ok (le8 k.code ++ le8 v)
        (s.editDesc fun d => { d with severities := d.severities.setIfInBounds k.idx v })
    else refuse .badRange s

/-! ### Validation (R18) -/

/-- A level of a kind serves a conveyance (R18 checks 1 and 2). -/
def Description.has (d : Description) (k : LevelKind) (c : Conv) : Bool :=
  (tableEntries d.levels).any fun x => x.2.kind = k && x.2.serves = c

/-- A depth lies strictly between the overwind limits of a conveyance. -/
def Description.between (d : Description) (c : Conv) (depth : Int) : Bool :=
  (d.convs.get c).top < depth && depth < (d.convs.get c).bottom

/-- The failing check and the item it names, FFh for none; `none` when validation passes (R18). -/
def validate (d : Description) : Option (Nat × Nat) :=
  if !Description.has d .bank .a then some (1, 0xFF)
  else if d.convs.b.kind = .skip ∧ !(Description.has d .pocket .b && Description.has d .tipple .b) then
    some (2, 0xFF)
  else
    match (tableEntries d.levels).find? fun x => !Description.between d x.2.serves x.2.depth with
    | some x => some (3, x.1)
    | none =>
      match (tableEntries d.marks).find? fun x => !Description.between d x.2.conv x.2.depth with
      | some x => some (4, x.1)
      | none =>
        if !layersWellFormed d.drums.a.layers then some (5, Conv.a.code)
        else if !layersWellFormed d.drums.b.layers then some (5, Conv.b.code)
        else if d.convs.b.decks ≠ 1 then some (6, 0xFF)
        else none

/-- A refusal with INVALID_DESCRIPTION and its data (R18, R197). -/
def refuseInvalid (f : Nat × Nat) (s : State) : Answered :=
  answer .invalidDescription (le8 f.1 ++ le8 f.2) s

/-! ### The store (R19 to R21) -/

/-- COMMIT (R19): the write begins with the check value erased (R20 step 1). -/
def commit (_p : List Byte) (s : State) : Answered :=
  match validate s.ds.desc with
  | some f => refuseInvalid f s
  | none =>
    answer .accepted []
      (s.modDs fun d => { d with storeState := .writing, stored := .unchecked })

/-- A store write ends with its read-back (R20). -/
def State.endWrite (r : ReadBack) (s : State) : State :=
  match r with
  | .agrees =>
    (s.modDs fun d =>
      { d with stored := .valid d.desc, uncommitted := false, lastWrite := .written,
               storeState := .idle }).raise .storeWritten 0
        (crc32 (Config.storeImage s.ds.desc)) 0 0 0
  | .differs offset =>
    (s.modDs fun d =>
      { d with stored := .unchecked, lastWrite := .failed, storeState := .idle }).raise
        .storeWriteFailed 0 (uword32 offset) 0 0 0

/-- The description that the power-on load takes (R21). -/
def StoredCopy.description : StoredCopy → Description
  | .valid d => d
  | .blank | .unchecked => emptyDescription

/-- The stored copy fails the load (R21). -/
def StoredCopy.fails : StoredCopy → Bool
  | .valid _ => false
  | .blank | .unchecked => true

/-- The power-on load (R21): it acts as an accepted PUT_DRUM and PUT_CONVEYANCE for each drum and
conveyance. -/
def State.load (s : State) : State :=
  let s1 := s.modDs fun d => { d with desc := StoredCopy.description d.stored, loaded := true }
  let s2 := (((s1.drumChanged .a).drumChanged .b).scaleChanged .a).scaleChanged .b
  if StoredCopy.fails s.ds.stored then s2.report (bare .storeInvalid 0) else s2

/-! ### The requests -/

/-- PUT_LEVEL, kind 10h. -/
def State.reqPutLevel : Byte → List Byte → State → State :=
  State.serve 0x10 .stood formPutLevel (whenStoreIdle putLevel)
/-- ASK_LEVEL, kind 11h. -/
def State.reqAskLevel : Byte → List Byte → State → State :=
  State.serve 0x11 .any (sized 1) askLevel
/-- PUT_MARK, kind 12h. -/
def State.reqPutMark : Byte → List Byte → State → State :=
  State.serve 0x12 .stood formPutMark (whenStoreIdle putMark)
/-- ASK_MARK, kind 13h. -/
def State.reqAskMark : Byte → List Byte → State → State :=
  State.serve 0x13 .any (sized 1) askMark
/-- PUT_DRUM, kind 14h. -/
def State.reqPutDrum : Byte → List Byte → State → State :=
  State.serve 0x14 .stood formPutDrum (whenStoreIdle putDrum)
/-- ASK_DRUM, kind 15h. -/
def State.reqAskDrum : Byte → List Byte → State → State :=
  State.serve 0x15 .any (sized 1) askDrum
/-- PUT_CONVEYANCE, kind 16h. -/
def State.reqPutConveyance : Byte → List Byte → State → State :=
  State.serve 0x16 .stood formPutConveyance (whenStoreIdle putConveyance)
/-- ASK_CONVEYANCE, kind 17h. -/
def State.reqAskConveyance : Byte → List Byte → State → State :=
  State.serve 0x17 .any (sized 1) askConveyance
/-- PUT_LIMITS, kind 18h. -/
def State.reqPutLimits : Byte → List Byte → State → State :=
  State.serve 0x18 .stood (sized 80) (whenStoreIdle putLimits)
/-- ASK_LIMITS, kind 19h. -/
def State.reqAskLimits : Byte → List Byte → State → State :=
  State.serve 0x19 .any (sized 0) askLimits
/-- PUT_SEVERITY, kind 1Ah. -/
def State.reqPutSeverity : Byte → List Byte → State → State :=
  State.serve 0x1A .stood (sized 2) (whenStoreIdle putSeverity)
/-- COMMIT, kind 1Bh. -/
def State.reqCommit : Byte → List Byte → State → State :=
  State.serve 0x1B .stood (sized 0) (whenStoreIdle commit)

end Sys2Proof.Machine
end

