-- ==== Sys2Proof/Machine/Watch.lean ====
section
/-! DEFINITION. The Watch Table at a Sample record and at a landing (R149 to R151, R154 to R156). -/

namespace Sys2Proof.Machine

open Sys2Proof

/-- The entry at a watch id. -/
def State.watch (s : State) (id : Nat) : Option WatchEntry := tableGet s.wt id

/-- Puts an entry, or none, at a watch id. -/
def State.setWatch (id : Nat) (w : Option WatchEntry) (s : State) : State :=
  s.modWt fun t => t.setIfInBounds id w

/-- An entry that has acted: a ONCE entry is removed, another stays with the binding given (R155). -/
def entryActed (w : WatchEntry) : Option WatchEntry :=
  match w.persistence with
  | .once => none
  | .always => some { w with bound := none }

/-- A crossing of a depth between two depths, downward or upward (R149). -/
def crossing (prev last depth : Int) : Option Travel :=
  if prev < depth ∧ depth ≤ last then some .down
  else if depth < prev ∧ last ≤ depth then some .up
  else none

/-- A forced entry is crossed in a direction in which it acts (R149). -/
def State.forcedCrossed (s : State) (w : WatchEntry) : Bool :=
  match crossing (s.conv w.conv).prevDepth (s.conv w.conv).depth w.depth with
  | none => false
  | some t => w.facing.admits t

/-- A firing: the entry acts once or stays, and WATCH_FIRED is raised with its action code (R155,
R156). -/
def State.fire (id : Nat) (w : WatchEntry) (code : Nat) (s : State) : State :=
  (s.setWatch id (entryActed w)).raise .watchFired s.activeId (uword32 id)
    (uword32 code) (word32 (s.conv w.conv).depth)
    (uword32 (if w.persistence = .once then 1 else 0))

/-- A forced SLOW that fires in WINDING (R151). -/
def State.fireSlow (id cap : Nat) (w : WatchEntry) (s : State) : State :=
  let (s1, placed) := s.insertSlow id cap s.guideDepth
  if placed then s1.fire id w 2 else (s1.forcedStop id).fire id w 4

/-- A forced entry that is crossed, in the winder state that the Watch Table found (R150). -/
def State.fireForced (id : Nat) (w : WatchEntry) (found : WinderState) (s : State) : State :=
  match w.action with
  | .notify => s.fire id w 1
  | .slow cap => if found = .winding then s.fireSlow id cap w else s
  | .stop => if found = .winding then (s.forcedStop id).fire id w 3 else s

/-- The guide crosses a bound depth in the plan's direction (R154). -/
def State.boundCrossed (s : State) (bound : Int) : Bool :=
  crossing (s.conv s.rg.guide).prevDepth (s.conv s.rg.guide).depth bound = some s.rg.travel

/-- An entry bound as NOTIFY or SLOW at a Sample record (R154). -/
def State.fireBound (id : Nat) (w : WatchEntry) (s : State) : State :=
  match w.bound with
  | some (.notify, b) => if s.boundCrossed b then s.fire id w 5 else s
  | some (.slow, b) => if s.boundCrossed b then s.fire id w 6 else s
  | some (.stop, _) | none => s

/-- One entry at a Sample record in WINDING or STOPPING (R149, R154). -/
def State.testWatch (found : WinderState) (s : State) (id : Nat) : State :=
  match s.watch id with
  | none => s
  | some w =>
    match w.binding with
    | .forced => if s.forcedCrossed w then s.fireForced id w found else s
    | .tagged => s.fireBound id w

/-- The Watch Table takes a Sample record: its entries in order of watch id (R149, R154). DEDUCED (log 43):
forced and bound entries are tested in one pass of that order. -/
def State.takeWatch (s : State) : State :=
  if s.te.winder.moving then (List.range 16).foldl (State.testWatch s.te.winder) s else s

/-- The entries bound as STOP at the depth of a stop point that was reached (R154, R155). -/
def State.watchReached (depth : Int) (s : State) : State :=
  s.modWt (tableMap fun o => o.bind fun w =>
    if w.bound = some (.stop, depth) then entryActed w else some w)

end Sys2Proof.Machine
end

