-- ==== Sys2Proof/Machine/Sequences.lean ====
section
/-! DEFINITION. The sequences of the Trip Executive: readiness (R124 to R127), the beginning of a leg
(R74, R96), landing and the end of a stop (R130, R131, R140), dwells and later skip legs (R133 to
R136), and the supervised gates (R125, R137). -/

namespace Sys2Proof.Machine

open Sys2Proof

/-! ### Gates -/

/-- Whether a GATE line is asserted, that is, closed. -/
def State.gateClosed (s : State) (g : Fin 16) : Bool := (s.lines.gates.toList[g.val]?).getD false

/-- An in-service level names a gate line (R125, R137). -/
def State.gateSupervised (s : State) (g : Fin 16) : Bool :=
  (tableEntries s.ds.desc.levels).any fun x => x.2.inService && x.2.gate = some g

/-- The lowest supervised gate line that is open (R125). -/
def State.openGate (s : State) : Option (Fin 16) :=
  (List.finRange 16).find? fun g => s.gateSupervised g && !s.gateClosed g

/-- The guide stands at a level at one of its decks (R137). -/
def State.guideStands (s : State) (l : Level) : Bool :=
  let g := s.rg.guide
  let cv := s.convRec g
  l.serves = g && (List.range cv.decks).any fun d =>
    mag (l.depth - ((s.conv g).depth + d * cv.spacing)) ≤ s.limits.landWindow

/-- A level where the guide stands names the gate line (R137). -/
def State.gateAtGuide (s : State) (g : Fin 16) : Bool :=
  (tableEntries s.ds.desc.levels).any fun x => x.2.gate = some g && s.guideStands x.2

/-- An opening of a supervised gate is reported in this state (R137). -/
def State.gateReported (s : State) (g : Fin 16) : Bool :=
  s.gateSupervised g &&
    match s.te.winder with
    | .preparing => s.te.phase != .signal
    | .prepared | .winding | .stopping => true
    | .held | .dwell => !s.gateAtGuide g
    | .checking | .stoodDown | .idle | .tripped | .lockedOut => false

/-! ### The readiness sequence -/

/-- A phase fails: the sequence is abandoned, and then the kind is reported (R127). -/
def State.phaseFail (r : Report) (s : State) : State := (s.abandon .sequence).report r

/-- The overtime deadline of a leg that begins, or is retargeted, now (R74). -/
def State.legDeadline (s : State) : Nat :=
  (s.unitTime + ceilDiv (s.rg.legTime * (100 + s.limits.overtimeSlack)) 100
    + s.limits.overtimeFixed * 1000) % 2 ^ 32

/-- WINDING begins a leg: the overtime deadline, the leg start length, the progress mark and the follow
timer are set (R74, R96). -/
def State.beginLeg (cause : Cause) (s : State) : State :=
  (s.enter .winding cause s.activeId).modEs fun e =>
    { e with deadline := some s.legDeadline, legStart := some (s.drum s.rg.guide).paidOut,
             progress := 0, follow := none }

/-- SETTLE completes (R126). -/
def State.settleEnd (s : State) : State :=
  let s1 := s.modTe fun t => { t with readiness := none }
  if s.te.heldStart ∨ s.te.laterLeg then
    (s1.modTe fun t => { t with laterLeg := false }).beginLeg .sequence
  else s1.enter .prepared .sequence s.activeId

/-- Phase SETTLE (R126); a wait of 0 expires at once. -/
def State.enterSettle (s : State) : State :=
  let s1 := s.modTe fun t =>
    { t with phase := .settle, readiness := some (s.after (100 * s.limits.waitSettle)) }
  if s.limits.waitSettle = 0 then s1.settleEnd else s1

/-- W2 expires (R126). -/
def State.releaseEnd (s : State) : State :=
  if s.lines.brakeReleased then s.enterSettle else s.phaseFail (bare .brakeNotReleased 0)

/-- Phase RELEASE (R126). -/
def State.enterRelease (s : State) : State :=
  let s1 := s.modTe fun t =>
    { t with phase := .release, readiness := some (s.after (100 * s.limits.waitRelease)) }
  if s.limits.waitRelease = 0 then s1.releaseEnd else s1

/-- W1 expires (R126). -/
def State.torqueEnd (s : State) : State :=
  if s.lines.torqueOk then s.enterRelease else s.phaseFail (bare .torqueNotProven 0)

/-- Phase TORQUE (R126). -/
def State.enterTorque (s : State) : State :=
  let s1 := s.modTe fun t =>
    { t with phase := .torque, readiness := some (s.after (100 * s.limits.waitTorque)) }
  if s.limits.waitTorque = 0 then s1.torqueEnd else s1

/-- Enters DWELL of a kind: its timer runs, and the record stands on the dwell's leg (R61, R133, R134). -/
def State.enterDwell (k : DwellKind) (s : State) : State :=
  let wait := match k with
    | .loading => s.limits.loadWait
    | .dumping => s.limits.dumpWait
  let leg := match k with
    | .loading => Leg.loading
    | .dumping => Leg.dumping
  ((s.modTe fun t =>
    { t with dwell := k, readiness := none, dwellTimer := some (s.after (1000 * wait)) }).modHead
      fun r => { r with body := r.body.onLeg leg }).enter .dwell .sequence s.activeId

/-- The dwell a skip record was prepared into (R124). -/
def dwellOf : TripBody → Option DwellKind
  | .skip _ _ _ _ .loading => some .loading
  | .skip _ _ _ _ .dumping => some .dumping
  | .skip _ _ _ _ .toPocket | .skip _ _ _ _ .toTipple | .cage .. => none

/-- The GATES test, and what follows it: the dwell the record was prepared into, or TORQUE (R124,
R125). -/
def State.gatesTest (s : State) : State :=
  match s.openGate with
  | some g => s.phaseFail (bare .gateOpen g)
  | none =>
    match s.activeHead.bind fun r => dwellOf r.body with
    | some k => s.enterDwell k
    | none => s.enterTorque

/-- Phase GATES (R125). -/
def State.enterGates (s : State) : State :=
  (s.modTe fun t => { t with phase := .gates, readiness := none }).gatesTest

/-- Phase SIGNAL (R125). -/
def State.enterSignal (s : State) : State :=
  if s.lines.signalOk then s.enterGates
  else s.modTe fun t => { t with readiness := some (s.after (1000 * s.limits.signalWait)) }

/-- PREPARING begins at a phase, SIGNAL or TORQUE: SHAFT_STOP is tested on entry (R138), and unless its
response ends the sequence the phase follows, TORQUE with the GATES test first (R125). -/
def State.enterPreparing (phase : Phase) (cause : Cause) (s : State) : State :=
  let s1 := (s.modTe fun t => { t with phase := phase }).enter .preparing cause s.activeId
  let s2 := if s1.lines.shaftStop then s1.report (bare .shaftStopSignal 0) else s1
  if s2.te.winder = .preparing then
    if phase = .signal then s2.enterSignal else s2.gatesTest
  else s2

/-! ### Later skip legs -/

/-- A skip leg after the first begins from DWELL (R136). -/
def State.laterLeg (s : State) : State :=
  match s.activeHead with
  | none => s
  | some r =>
    let b := s.build r
    if s.passiveFits r.body ∧ b.fits then
      ((s.adopt b).modTe fun t => { t with laterLeg := true }).enterPreparing .torque .sequence
    else s.toIdle .sequence

/-- SKIP_LOADED in DWELL, LOADING (R133). -/
def State.skipLoaded (s : State) : State :=
  (((s.modTe fun t => { t with dwellTimer := none }).setLoadClass .b .rock).modHead
    fun r => { r with body := r.body.onLeg .toTipple }).laterLeg

/-- A skip record after one more cycle (R134). -/
def cycledOnce : TripBody → TripBody
  | .cage m t d => .cage m t d
  | .skip p t c r leg => .skip p t c (r - 1) leg

/-- The cycles completed, as CYCLE_DONE counts them (R134). -/
def cyclesDone : TripBody → Nat
  | .cage .. => 0
  | .skip _ _ c r _ => c - r

/-- SKIP_DUMPED in DWELL, DUMPING (R134). -/
def State.skipDumped (s : State) : State :=
  let s1 := ((s.modTe fun t => { t with dwellTimer := none }).setLoadClass .b .empty).modHead
    fun r => { r with body := cycledOnce r.body }
  match s1.activeHead with
  | none => s1
  | some r =>
    let s2 := s1.raise .cycleDone r.id (uword32 r.body.remaining) (uword32 (cyclesDone r.body))
      (word32 (s1.conv .b).depth) 0
    if r.body.remaining = 0 then s2.complete.enter .idle .sequence r.id
    else (s2.modHead fun h => { h with body := h.body.onLeg .toPocket }).laterLeg

/-! ### The landing and the end of a stop -/

/-- TRIP_HELD (R131, R140). -/
def State.raiseHeld (watch : Option Nat) (s : State) : State :=
  s.raise .tripHeld s.activeId (uword32 (watch.getD 0)) (word32 s.guideDepth)
    (word32 s.distanceToGo) 0

/-- What a deferred stop does after a landing that ended in HELD or DWELL (R131). -/
def State.actDeferred (deferred : DeferredStop) (s : State) : State :=
  if deferred = .none then s else s.toIdle .sequence

/-- The landing ends by the leg's stop point (R131). -/
def State.landingEnd (s : State) : State :=
  let deferred := s.te.deferred
  let s0 := s.modTe fun t => { t with brake := none, rest := .none }
  let s1 := if deferred = .none then s0 else s0.setStopOrder false
  match s.rg.stop with
  | none => s1
  | some p =>
    match p.origin with
    | .target =>
      ((s1.raise .tripLanded s.activeId (word32 p.depth) (word32 s.guideDepth)
        (word32 s.distanceToGo) 0).complete).enter .idle .sequence s.activeId
    | .pocket => (s1.enterDwell .loading).actDeferred deferred
    | .tipple => (s1.enterDwell .dumping).actDeferred deferred
    | .tagged | .forced =>
      ((((s1.enter .held .sequence s.activeId).raiseHeld p.watchId).watchReached p.depth)).actDeferred
        deferred

/-- The stop ends by its reason (R140). DEDUCED (log 25): the interruption is ordered here, so value 1 of
TRIP_INTERRUPTED is STOPPING (R65), also where a controlled stop ordered in WINDING comes to its end. -/
def State.stopEnd (s : State) : State :=
  let s1 := (s.modTe fun t => { t with brake := none, rest := .none }).setStopOrder false
  match s.te.stopReason with
  | .watch =>
    (((s1.modRg fun r => { r with refPrev := 0 }).enter .held .sequence s.activeId).raiseHeld
      s.te.stopWatch)
  | .none | .request | .fault => s1.toIdle .sequence

/-- The brakes are confirmed in BRAKE_CONFIRM (R130, R140). -/
def State.brakesConfirmed (s : State) : State :=
  match s.te.winder with
  | .winding => s.landingEnd
  | .stopping => s.stopEnd
  | .checking | .stoodDown | .idle | .preparing | .prepared | .held | .dwell | .tripped
  | .lockedOut => s

/-- The expiry of a brake timer that starts now (R130). -/
def State.brakeExpiry (s : State) : Nat := s.after s.limits.brakeConfirm

/-- BRAKE_CONFIRM begins: confirmation is immediate where BRAKE_APPLIED is asserted (R130). -/
def State.beginBrakeConfirm (s : State) : State :=
  let s1 := s.modTe fun t => { t with rest := .brakeConfirm, brake := some s.brakeExpiry }
  if s1.lines.brakeApplied then s1.brakesConfirmed else s1

/-- A drum's run is LOST. -/
def State.anyLost (s : State) : Bool := (s.drum .a).run = .lost || (s.drum .b).run = .lost

/-- The standstill test of a landing or a stop, with the brake timer of a LOST run (R130, R140). -/
def State.restTest (s : State) : State :=
  if s.atStandstill then s.beginBrakeConfirm
  else
    s.modTe fun t =>
      { t with brake := if s.anyLost then some (t.brake.getD s.brakeExpiry) else none }

/-- The Trip Executive takes a Sample record; `found` is the rest step at its start, since the landing
is tested at the records after the one that sets the latch (R130, R140). -/
def State.takeExecutive (found : RestStep) (s : State) : State :=
  if s.te.brakeExpired then s
  else if s.te.winder = .winding ∧ found = .toRest ∧ s.te.rest = .toRest then s.restTest
  else if s.te.winder = .stopping ∧ s.te.rest = .none then s.restTest
  else s

end Sys2Proof.Machine
end

