-- ==== Sys2Proof/Machine/TripRequests.lean ====
section
/-! DEFINITION. The requests of the Position Model, the Trip Queue, the Trip Executive and the Reference
Generator: SET_DATUM (R33), service and mode (R120 to R122), the queue (R53 to R58), PREPARE (R123,
R124), START (R128), STOP (R129), RETARGET (R84 to R86) and the recoveries (R143 to R145). -/

namespace Sys2Proof.Machine

open Sys2Proof

/-! ### SET_DATUM (R33) -/

/-- Sets the datum of a conveyance (R33). -/
def State.setDatum (c : Conv) (depth : Int) (s : State) : State :=
  let count := (s.front c).primary.count
  let s1 := (s.modConv c fun m =>
    { m with datumCount := count, datumDepth := depth, sDatum := s.datumStretch c depth,
             correction := 0, degraded := 0, depth := depth }).modDrum c fun d =>
      { d with paidOut := paidOut (s.layers c) count, run := .none, markInRun := false }
  let rearm (i : Nat) (x : Passage) : Passage :=
    if (s.mark i).map Mark.conv = some c then .armed else x
  let s2 := s1.modPm fun p => { p with passage := tableMapIdx rearm p.passage }
  s2.setCertainty c .certain .datum

/-- The datum depth of a request, or its refusal (R33 checks 5 and 6). -/
def State.datumDepthOf (s : State) (c : Conv) (p : List Byte) : Except ResultCode Int :=
  if octet p 1 = 1 then .ok (fieldInt p 2)
  else
    match s.level (fieldNat p 2 4) with
    | none => .error .noSuchLevel
    | some l => if l.serves = c then .ok l.depth else .error .wrongLevelKind

/-- SET_DATUM (R33). -/
def datumRequest (p : List Byte) (s : State) : Answered :=
  match Conv.ofCode (octet p 0) with
  | none => refuse .badRange s
  | some c =>
    match firstRefusal
        [(octet p 1 = 0 || depthInRange (fieldInt p 2), .badRange),
         (s.te.winder = .stoodDown || s.te.winder = .idle, .wrongState),
         (s.convAtRest c, .notStandstill),
         ((s.front c).primary.valid, .positionUncertain)] with
    | some r => refuse r s
    | none =>
      match s.datumDepthOf c p with
      | .error r => refuse r s
      | .ok depth =>
        answer .ok (le8 c.code ++ leInt depth ++ le8 Certainty.certain.code) (s.setDatum c depth)

/-! ### Service and mode (R120 to R122) -/

/-- A kind of stored severity 2 or 3 is pending (R120, R143). -/
def State.gravePending (s : State) : Bool := s.pendingKinds.any fun k => 2 ≤ (s.severity k).val

/-- SET_SERVICE ON in STOOD_DOWN, from its check 2 (R120). -/
def serviceOnChecks (s : State) : Answered :=
  match firstRefusal
      [(s.ds.storeState = .idle, .busy), (!s.ds.uncommitted, .uncommitted)] with
  | some r => refuse r s
  | none =>
    match validate s.ds.desc with
    | some f => refuseInvalid f s
    | none =>
      match firstRefusal
          [(!s.gravePending, .faultsPending), (s.lines.brakeApplied, .wrongState)] with
      | some r => refuse r s
      | none => answer .ok [] (s.enter .idle (.request 0x20) 0)

/-- SET_SERVICE ON (R120). -/
def serviceOn (s : State) : Answered :=
  match s.te.winder with
  | .idle => answer .ok [] s
  | .stoodDown => serviceOnChecks s
  | .checking | .preparing | .prepared | .winding | .stopping | .held | .dwell | .tripped
  | .lockedOut => refuse .wrongState s

/-- SET_SERVICE OFF (R121). -/
def serviceOff (s : State) : Answered :=
  match s.te.winder with
  | .stoodDown => answer .ok [] s
  | .idle => answer .ok [] (s.discardQueue.enter .stoodDown (.request 0x20) 0)
  | .checking | .preparing | .prepared | .winding | .stopping | .held | .dwell | .tripped
  | .lockedOut => refuse .wrongState s

/-- SET_SERVICE (R120, R121). -/
def setService (p : List Byte) (s : State) : Answered :=
  if octet p 0 = 1 then serviceOn s else serviceOff s

/-- SET_MODE (R122). -/
def setMode (p : List Byte) (s : State) : Answered :=
  if s.te.winder = .idle then
    answer .ok []
      (s.modTe fun t => { t with unitMode := if octet p 0 = 1 then .inspection else .normal })
  else refuse .wrongState s

/-! ### Admission (R52 to R57) -/

/-- The target depth of a cage trip (R52). -/
def State.targetDepth (s : State) : Target → Int
  | .station l d => s.levelDepth l - ((d : Int) - 1) * (s.convRec .a).spacing
  | .depth d => d

/-- A depth lies strictly between the overwind limits of a conveyance. -/
def State.betweenLimits (s : State) (c : Conv) (d : Int) : Bool :=
  (s.convRec c).top < d && d < (s.convRec c).bottom

/-- Checks 5 to 10 and 13 of a cage trip's target (R54). -/
def State.targetRefusal (s : State) (m : Mode) (t : Target) : Option ResultCode :=
  match t with
  | .station i d =>
    match s.level i with
    | none => some .noSuchLevel
    | some l =>
      firstRefusal
        [(l.inService, .levelClosed), (within 1 (s.convRec .a).decks d, .noSuchDeck),
         (l.modes.permits m, .modeForbidden), (s.betweenLimits .a (s.targetDepth t), .badRange),
         (l.serves = .a, .wrongLevelKind)]
  | .depth x =>
    firstRefusal
      [(m = .material || m = .inspection, .addressForbidden), (s.betweenLimits .a x, .badRange)]

/-- Checks 5 to 12 of skip cycles, each made on the pocket first (R55). -/
def State.skipRefusal (s : State) (pocket tipple : Nat) : Option ResultCode :=
  match s.level pocket, s.level tipple with
  | some q, some t =>
    firstRefusal
      [(q.inService && t.inService, .levelClosed),
       (q.modes.rock && t.modes.rock, .modeForbidden),
       (s.betweenLimits .b q.depth && s.betweenLimits .b t.depth, .badRange),
       ((s.convRec .b).kind = .skip, .noSkip),
       (q.kind = .pocket && q.serves = .b && t.kind = .tipple && t.serves = .b, .wrongLevelKind)]
  | _, _ => some .noSuchLevel

/-- Checks 3 and 4 (R54, R55). -/
def State.queueRefusal (s : State) (id : Nat) : Option ResultCode :=
  firstRefusal
    [(s.tq.all fun r => r.id != id, .duplicateId),
     (decide (s.tq.length < Config.queueCapacity), .queueFull)]

/-- The place at which a record is placed: behind all, or ahead of every PENDING record (R57). -/
def State.placeOf (s : State) (front : Bool) : Nat :=
  if front then (if s.activeHead.isSome then 1 else 0) else s.tq.length

/-- Value 4 of TRIP_QUEUED: the target depth, or the cycle count (R65). -/
def queuedValue : TripBody → Word32
  | .cage _ _ d => word32 d
  | .skip _ _ c _ _ => uword32 c

/-- Admits a record at a place (R57). -/
def State.admitRecord (r : TripRecord) (place : Nat) (s : State) : State :=
  (s.modTq fun q => q.take place ++ r :: q.drop place).raise .tripQueued r.id (uword32 place)
    (uword32 r.body.typeCode) (uword32 r.body.mode.code) (queuedValue r.body)

/-- The stored override: the lesser of the value given and the mode limit (R56). -/
def storedOverride (l : Limits) (m : Mode) (o : Option Nat) : Option Nat :=
  o.map fun v => min v (l.ofMode m)

/-- The record of an admitted request (R57). -/
def State.newRecord (s : State) (p : List Byte) (b : TripBody) : TripRecord :=
  { id := fieldNat p 0 2, body := b,
    override := storedOverride s.limits b.mode (overrideOf p), active := false,
    interrupted := false }

/-- Admits the record of a request and forms the reply: the position, the stored override and a last
field (R57). -/
def admitAnswer (p : List Byte) (b : TripBody) (last : List Byte) (s : State) : Answered :=
  let r := s.newRecord p b
  let place := s.placeOf (octet p 2 = 1)
  answer .ok (le8 place ++ le16 (overrideCode r) ++ last) (s.admitRecord r place)

/-- QUEUE_TRIP (R54, R57). -/
def queueTrip (p : List Byte) (s : State) : Answered :=
  let m := (Mode.ofCode (octet p 5)).getD .man
  let t := targetOf p 6
  match s.queueRefusal (fieldNat p 0 2), s.targetRefusal m t with
  | some r, _ => refuse r s
  | none, some r => refuse r s
  | none, none =>
    admitAnswer p (.cage m t (s.targetDepth t)) (leInt (s.targetDepth t)) s

/-- The cycle count of a request: 0 stands for 256 (R51). -/
def cycleCount (n : Nat) : Nat := if n = 0 then 256 else n

/-- QUEUE_SKIP_CYCLES (R55, R57). -/
def queueSkip (p : List Byte) (s : State) : Answered :=
  let n := cycleCount (octet p 7)
  match s.queueRefusal (fieldNat p 0 2), s.skipRefusal (octet p 5) (octet p 6) with
  | some r, _ => refuse r s
  | none, some r => refuse r s
  | none, none => admitAnswer p (.skip (octet p 5) (octet p 6) n n .toPocket) (le16 n) s

/-- WITHDRAW (R58). -/
def withdraw (p : List Byte) (s : State) : Answered :=
  match s.tq.find? fun r => r.id = fieldNat p 0 2 with
  | none => refuse .noSuchTrip s
  | some r =>
    if r.active then refuse .isActive s
    else
      answer .ok []
        ((s.modTq fun q => q.eraseP fun x => x.id = r.id).raiseEnded 2 r r.body.remaining)

/-! ### PREPARE (R123, R124) -/

/-- A MAN trip (R123 checks 5 and 6). -/
def isMan (r : TripRecord) : Bool := r.body.mode = .man

/-- The clutch state admits a record (R123 check 4). -/
def State.clutchAdmits (s : State) (r : TripRecord) : Bool :=
  match s.cc.state with
  | .engaged => true
  | .releasing | .engaging => false
  | .released =>
    match r.body with
    | .cage m _ _ => m = .material || m = .inspection
    | .skip .. => false

/-- Check 5 of PREPARE: a MAN trip needs certain positions. -/
def State.manCertain (s : State) : Bool :=
  (s.conv .a).certainty != .uncertain
    && (s.cc.state != .engaged || (s.conv .b).certainty != .uncertain)

/-- Check 6 of PREPARE: conveyance B is not a SKIP holding ROCK. -/
def State.skipLight (s : State) : Bool :=
  (s.convRec .b).kind != .skip || (s.conv .b).loadClass != .rock

/-- The leg that a skip record takes at activation: the dwell's where B stands within the land window of
its end point, the winding leg otherwise (R124). -/
def State.activatedBody (s : State) (b : TripBody) : TripBody :=
  let near := mag ((s.conv .b).depth - s.finalDepth b) ≤ s.limits.landWindow
  match b with
  | .cage m t d => .cage m t d
  | .skip p t c r .toPocket => .skip p t c r (if near then .loading else .toPocket)
  | .skip p t c r .loading => .skip p t c r (if near then .loading else .toPocket)
  | .skip p t c r .toTipple => .skip p t c r (if near then .dumping else .toTipple)
  | .skip p t c r .dumping => .skip p t c r (if near then .dumping else .toTipple)

/-- The load class that a cage trip's mode sets (R50). -/
def classOf : Mode → LoadClass
  | .man => .persons
  | .material | .inspection => .material
  | .rock => .empty

/-- Sets the load class of the cage at activation; a skip's stands (R124). -/
def State.loadFor (b : TripBody) (s : State) : State :=
  match b with
  | .cage m _ _ => s.setLoadClass .a (classOf m)
  | .skip .. => s

/-- An accepted PREPARE (R124). -/
def State.activate (r : TripRecord) (b : Built) (s : State) : State :=
  let s1 := (s.modHead fun h =>
    { h with active := true, interrupted := false, body := s.activatedBody h.body }).adopt b
  ((s1.loadFor r.body).modTe fun t => { t with heldStart := false, laterLeg := false }).enterPreparing
    .signal (.request 0x25)

/-- PREPARE (R123, R124). -/
def prepare (p : List Byte) (s : State) : Answered :=
  if s.te.winder ≠ .idle then refuse .wrongState s
  else
    match s.tq with
    | [] => refuse .noSuchTrip s
    | r :: _ =>
      match firstRefusal
          [(r.id = fieldNat p 0 2, .notHead), (s.clutchAdmits r, .clutchState),
           (!isMan r || s.manCertain, .positionUncertain), (!isMan r || s.skipLight, .balance),
           (s.passiveFits r.body, .passiveLimit)] with
      | some c => refuse c s
      | none =>
        let b := s.build r
        if b.fits then
          answer .accepted (le16 b.limit ++ le8 b.points.length ++ leNat32 b.legTime)
            (s.activate r b)
        else answer .planFull (le8 b.points.length) s

/-! ### START and STOP (R128, R129) -/

/-- The id is the ACTIVE head's. -/
def State.isActiveId (s : State) (id : Nat) : Bool :=
  match s.activeHead with
  | none => false
  | some r => r.id = id

/-- START in HELD (R128). -/
def startHeld (s : State) : Answered :=
  match s.activeHead with
  | none => refuse .notHead s
  | some r =>
    let b := s.build r
    if b.fits then
      answer .accepted []
        (((s.adopt b).modTe fun t => { t with heldStart := true }).enterPreparing .torque
          (.request 0x26))
    else answer .planFull (le8 b.points.length) s

/-- START (R128). -/
def start (p : List Byte) (s : State) : Answered :=
  let mine := s.isActiveId (fieldNat p 0 2)
  match s.te.winder with
  | .stopping => refuse .stopping s
  | .idle | .tripped => refuse .notPrepared s
  | .winding | .dwell => refuse .wrongState s
  | .preparing =>
    if mine then answer .accepted [] (s.modTe fun t => { t with heldStart := true })
    else refuse .notHead s
  | .prepared =>
    if mine then answer .accepted [] (s.beginLeg (.request 0x26)) else refuse .notHead s
  | .held => if mine then startHeld s else refuse .notHead s
  | .checking | .stoodDown | .lockedOut => refuse .wrongState s

/-- STOP in a state of an active trip, with the ACTIVE head's id (R129). -/
def stopActive (s : State) : Answered :=
  match s.te.winder with
  | .preparing | .prepared => answer .ok [] (s.abandon (.request 0x27))
  | .winding =>
    if s.te.rest = .none then
      answer .accepted [] (s.beginStopping .request none (.request 0x27))
    else answer .accepted [] (s.modTe fun t => { t with deferred := .request })
  | .stopping => answer .ok [] s
  | .held | .dwell => answer .ok [] (s.toIdle (.request 0x27))
  | .idle | .tripped | .checking | .stoodDown | .lockedOut => refuse .notPrepared s

/-- STOP (R129). -/
def stop (p : List Byte) (s : State) : Answered :=
  if s.te.winder.tripActive then
    if s.isActiveId (fieldNat p 0 2) then stopActive s else refuse .notHead s
  else refuse .notPrepared s

/-! ### RETARGET (R84 to R86) -/

/-- A refusal with TOO_LATE: s_req and the new distance (R85, R197). -/
def refuseLate (s : State) (distance : Int) : Answered :=
  answer .tooLate (leNat32 (requiredDistance s.limits s.rg.refPrev) ++ leInt distance) s

/-- An accepted RETARGET (R86). -/
def State.retargeted (r : TripRecord) (b : Built) (depth distance : Int) (s : State) : State :=
  let s1 := (s.adopt b).modHead fun _ => r
  (s1.modEs fun e => { e with deadline := some s1.legDeadline }).raise .tripRetargeted r.id
    (word32 depth) (word32 distance) (uword32 b.limit) (uword32 b.legTime)

/-- RETARGET of the active cage trip, from check 4 (R84). -/
def retargetChecked (r : TripRecord) (t : Target) (s : State) : Answered :=
  match s.targetRefusal r.body.mode t with
  | some c => refuse c s
  | none =>
    let depth := s.targetDepth t
    let distance := s.rg.travel.distance (s.conv .a).depth depth
    let r' : TripRecord := { r with body := .cage r.body.mode t depth }
    let b := s.build r'
    if s.rg.latch then refuseLate s distance
    else if distance ≤ 0 then refuse .wrongDirection s
    else if distance < requiredDistance s.limits s.rg.refPrev ∨ b.limit < s.rg.refPrev then
      refuseLate s distance
    else if b.fits then answer .ok [] (s.retargeted r' b depth distance)
    else answer .planFull (le8 b.points.length) s

/-- RETARGET (R84). -/
def retarget (p : List Byte) (s : State) : Answered :=
  if s.te.winder = .stopping ∨ s.te.deferred ≠ .none then refuse .stopping s
  else if s.te.winder ≠ .winding then refuse .wrongState s
  else
    match s.activeHead with
    | none => refuse .wrongState s
    | some r =>
      match r.body with
      | .skip .. => refuse .wrongState s
      | .cage .. =>
        if r.id = fieldNat p 0 2 then retargetChecked r (targetOf p 2) s else refuse .notHead s

/-! ### Recovery (R143 to R145) -/

/-- RESET_TRIP accepted (R143). -/
def State.resetTrip (s : State) : State :=
  match s.te.serviceReturn with
  | .idle => s.enter .idle (.request 0x2D) 0
  | .stoodDown => s.discardQueue.enter .stoodDown (.request 0x2D) 0

/-- RESET_TRIP (R143). -/
def resetRequest (_p : List Byte) (s : State) : Answered :=
  match firstRefusal
      [(s.te.winder = .tripped, .wrongState), (s.atStandstill, .notStandstill),
       (s.lines.emergencyIn, .wrongState), (!s.gravePending, .faultsPending)] with
  | some c => refuse c s
  | none => answer .ok [] s.resetTrip

/-- CLEAR_LOCKOUT (R144). -/
def clearLockout (_p : List Byte) (s : State) : Answered :=
  match firstRefusal
      [(s.te.winder = .lockedOut, .wrongState), (s.lines.keyOk, .keyAbsent),
       (s.atStandstill, .notStandstill)] with
  | some c => refuse c s
  | none =>
    answer .ok []
      (((s.clearPending fun k => s.severity k = 3).discardQueue).enter .stoodDown (.request 0x2E) 0)

/-- A drum's check offset becomes PENDING (R26). -/
def DrumFront.unpair (f : DrumFront) : DrumFront := { f with offset := none, disagree := false }

/-- The blocks take their RESTART values (R26, R48, R66, R90, R115, R116, R145, R157, R169, R190,
R204). -/
def State.restartBlocks (s : State) : State :=
  { s with
    efe := { s.efe with drums := ⟨s.efe.drums.a.unpair, s.efe.drums.b.unpair⟩ }
    tq := []
    te := { s.te.clearTrip with unitMode := .normal }
    rg := { s.rg with refPrev := 0, label := .none }
    es := { s.es with env := 0, margin := 0, tier1 := 0, tier2 := 0, deadline := none,
                      follow := none, legStart := none, progress := 0 }
    wt := Vector.replicate 16 none
    cc := { s.cc with discrepancy := none }
    fm := { s.fm with pending := Vector.replicate 31 false, inForce := none, stopOrder := false }
    link := { s.link with events := [], overrun := false } }

/-- RESTART (R145). -/
def restart (_p : List Byte) (s : State) : Answered :=
  match s.te.winder with
  | .stoodDown => answer .ok [] s.restartBlocks
  | .idle | .tripped => answer .ok [] (s.restartBlocks.enter .stoodDown (.request 0x2F) 0)
  | .checking | .preparing | .prepared | .winding | .stopping | .held | .dwell | .lockedOut =>
    refuse .wrongState s

/-! ### The requests -/

/-- SET_DATUM, kind 1Ch. -/
def State.reqSetDatum : Byte → List Byte → State → State :=
  State.serve 0x1C .special formSetDatum datumRequest
/-- SET_SERVICE, kind 20h. -/
def State.reqSetService : Byte → List Byte → State → State :=
  State.serve 0x20 .special formSwitch setService
/-- SET_MODE, kind 21h. -/
def State.reqSetMode : Byte → List Byte → State → State :=
  State.serve 0x21 .service formSwitch setMode
/-- QUEUE_TRIP, kind 22h. -/
def State.reqQueueTrip : Byte → List Byte → State → State :=
  State.serve 0x22 .service formQueueTrip queueTrip
/-- QUEUE_SKIP_CYCLES, kind 23h. -/
def State.reqQueueSkip : Byte → List Byte → State → State :=
  State.serve 0x23 .service formQueueSkip queueSkip
/-- WITHDRAW, kind 24h. -/
def State.reqWithdraw : Byte → List Byte → State → State :=
  State.serve 0x24 .service (sized 2) withdraw
/-- PREPARE, kind 25h. -/
def State.reqPrepare : Byte → List Byte → State → State :=
  State.serve 0x25 .service (sized 2) prepare
/-- START, kind 26h. -/
def State.reqStart : Byte → List Byte → State → State :=
  State.serve 0x26 .service (sized 2) start
/-- STOP, kind 27h. -/
def State.reqStop : Byte → List Byte → State → State :=
  State.serve 0x27 .service (sized 2) stop
/-- RETARGET, kind 28h. -/
def State.reqRetarget : Byte → List Byte → State → State :=
  State.serve 0x28 .service formRetarget retarget
/-- RESET_TRIP, kind 2Dh. -/
def State.reqResetTrip : Byte → List Byte → State → State :=
  State.serve 0x2D .service (sized 0) resetRequest
/-- CLEAR_LOCKOUT, kind 2Eh. -/
def State.reqClearLockout : Byte → List Byte → State → State :=
  State.serve 0x2E .special (sized 0) clearLockout
/-- RESTART, kind 2Fh. -/
def State.reqRestart : Byte → List Byte → State → State :=
  State.serve 0x2F .special (sized 0) restart

end Sys2Proof.Machine
end

