-- ==== Sys2Proof/Machine/LinkRequests.lean ====
section
/-! DEFINITION. The requests of the Control Link Port, the Fault Manager, the Watch Table and the Clutch
Controller (R147, R148, R160, R163, R186 to R189, R202, R205, R206), the dispatch of a request by its
kind (R195) and the frame receiver (R192, R193). -/

namespace Sys2Proof.Machine

open Sys2Proof

/-! ### Questions -/

/-- ASK_IDENTITY (R205). -/
def askIdentity (_p : List Byte) (s : State) : Answered := answer .ok (identityBytes s.link) s

/-- ASK_STATUS (R206, R209). -/
def askStatus (_p : List Byte) (s : State) : Answered :=
  answer .ok (statusSummary s s.distanceToGo) s

/-- ASK_POSITION (R47). -/
def askPosition (_p : List Byte) (s : State) : Answered := answer .ok (positionBytes s) s

/-- ASK_QUEUE (R59). -/
def askQueue (_p : List Byte) (s : State) : Answered :=
  answer .ok (le8 s.tq.length ++ s.tq.flatMap tripBytes) s

/-- ASK_FAULTS (R187). -/
def askFaults (_p : List Byte) (s : State) : Answered := answer .ok (faultsBytes s) s

/-- READ_FAULT_LOG (R189). -/
def readFaultLog (p : List Byte) (s : State) : Answered :=
  if 15 < octet p 0 then refuse .badRange s else answer .ok (logBytes s.fm (octet p 0)) s

/-- ASK_WATCH (R148). -/
def askWatch (_p : List Byte) (s : State) : Answered :=
  let es := tableEntries s.wt
  answer .ok (le8 es.length ++ es.flatMap fun x => watchBytes x.1 x.2) s

/-! ### Events (R202) -/

/-- Removes the oldest records of the Event Queue (R202). -/
def State.dropEvents (k : Nat) (s : State) : State :=
  s.modLink fun l => { l with events := l.events.drop k, overrun := l.overrun && k = 0 }

/-- TAKE_EVENTS (R202). -/
def takeEvents (p : List Byte) (s : State) : Answered :=
  let n := octet p 0
  if within 1 8 n then
    let es := s.link.events.take n
    answer .ok (le8 es.length ++ eventsBytes s.link.overrun es) (s.dropEvents es.length)
  else refuse .badRange s

/-! ### Faults (R186, R188) -/

/-- The kinds an ACK_FAULT byte names; `none` is outside its range (R186). -/
def ackPick (n : Nat) : Option (FaultKind → Bool) :=
  if n = 0xFF then some fun _ => true
  else (FaultKind.ofCode n).map fun k => fun x => x = k

/-- ACK_FAULT (R186). -/
def ackFault (p : List Byte) (s : State) : Answered :=
  match ackPick (octet p 0) with
  | none => refuse .badRange s
  | some pick => answer .ok (le8 (s.pendingKinds.filter pick).length) (s.clearPending pick)

/-- CLEAR_FAULT_LOG (R188). -/
def clearFaultLog (_p : List Byte) (s : State) : Answered :=
  if s.pendingKinds.isEmpty then
    answer .ok [] (s.modFm fun f => { f with first := none, later := [] })
  else refuse .faultsPending s

/-! ### Watch points (R147, R148) -/

/-- SET_WATCH (R147). -/
def setWatchPoint (p : List Byte) (s : State) : Answered :=
  let id := octet p 0
  if 15 < id then refuse .badRange s
  else
    match watchOf p with
    | none => refuse .badRange s
    | some w =>
      answer .ok
        (watchEntryBytes id w ++ le8 (lineWeight (w.binding = .tagged && s.activeHead.isSome) 1))
        (s.setWatch id (some w))

/-- CLEAR_WATCH (R148). -/
def clearWatch (p : List Byte) (s : State) : Answered :=
  let id := octet p 0
  if id = 0xFF then
    answer .ok (le8 (tableEntries s.wt).length) (s.modWt fun _ => Vector.replicate 16 none)
  else if 15 < id then refuse .badRange s
  else answer .ok (le8 (lineWeight (s.watch id).isSome 1)) (s.setWatch id none)

/-! ### The clutch (R160, R163) -/

/-- The checks common to CLUTCH_OUT and CLUTCH_IN (R160, R163 checks 1 to 5). -/
def State.clutchChecks (s : State) (from_ : ClutchState) : List (Bool × ResultCode) :=
  [(s.te.winder = .idle, .wrongState),
   (s.cc.state != .releasing && s.cc.state != .engaging, .busy), (s.atStandstill, .notStandstill),
   (s.lines.brakeApplied, .wrongState), (s.cc.state = from_, .clutchState)]

/-- CLUTCH_OUT (R160): the reply carries RELEASING, whatever the sequence does at once. -/
def clutchOut (_p : List Byte) (s : State) : Answered :=
  match firstRefusal (s.clutchChecks .engaged ++ [(s.skipLight, .balance)]) with
  | some c => refuse c s
  | none => answer .accepted (le8 ClutchState.releasing.code) s.beginRelease

/-- The remainder r of the alignment test (R163). -/
def State.alignment (s : State) : Int :=
  ((s.front .a).primary.count + (s.front .b).primary.count) % s.limits.toothPitch

/-- The alignment test passes (R163). -/
def State.aligned (s : State) : Bool :=
  s.alignment ≤ s.limits.alignTolerance
    || (s.limits.toothPitch : Int) - s.limits.alignTolerance ≤ s.alignment

/-- CLUTCH_IN (R163). -/
def clutchIn (_p : List Byte) (s : State) : Answered :=
  match firstRefusal (s.clutchChecks .released ++
      [((s.front .a).primary.valid && (s.front .b).primary.valid, .positionUncertain)]) with
  | some c => refuse c s
  | none =>
    let r := s.alignment
    if s.aligned then
      answer .accepted (le8 ClutchState.engaging.code ++ leInt r) s.beginClosing
    else
      answer .notAligned
        (leInt r ++ leInt (s.limits.toothPitch - s.limits.alignTolerance - r)
          ++ leInt (r - s.limits.alignTolerance)) s

/-! ### The requests -/

/-- ASK_IDENTITY, kind 01h. -/
def State.reqAskIdentity : Byte → List Byte → State → State :=
  State.serve 0x01 .any (sized 0) askIdentity
/-- ASK_STATUS, kind 02h. -/
def State.reqAskStatus : Byte → List Byte → State → State :=
  State.serve 0x02 .any (sized 0) askStatus
/-- ASK_POSITION, kind 03h. -/
def State.reqAskPosition : Byte → List Byte → State → State :=
  State.serve 0x03 .any (sized 0) askPosition
/-- ASK_QUEUE, kind 04h. -/
def State.reqAskQueue : Byte → List Byte → State → State :=
  State.serve 0x04 .any (sized 0) askQueue
/-- TAKE_EVENTS, kind 05h. -/
def State.reqTakeEvents : Byte → List Byte → State → State :=
  State.serve 0x05 .any (sized 1) takeEvents
/-- ASK_FAULTS, kind 06h. -/
def State.reqAskFaults : Byte → List Byte → State → State :=
  State.serve 0x06 .any (sized 0) askFaults
/-- READ_FAULT_LOG, kind 07h. -/
def State.reqReadFaultLog : Byte → List Byte → State → State :=
  State.serve 0x07 .any (sized 1) readFaultLog
/-- ACK_FAULT, kind 08h. -/
def State.reqAckFault : Byte → List Byte → State → State :=
  State.serve 0x08 .any (sized 1) ackFault
/-- CLEAR_FAULT_LOG, kind 09h. -/
def State.reqClearFaultLog : Byte → List Byte → State → State :=
  State.serve 0x09 .any (sized 0) clearFaultLog
/-- ASK_WATCH, kind 0Ah. -/
def State.reqAskWatch : Byte → List Byte → State → State :=
  State.serve 0x0A .any (sized 0) askWatch
/-- SET_WATCH, kind 29h. -/
def State.reqSetWatch : Byte → List Byte → State → State :=
  State.serve 0x29 .service (sized 14) setWatchPoint
/-- CLEAR_WATCH, kind 2Ah. -/
def State.reqClearWatch : Byte → List Byte → State → State :=
  State.serve 0x2A .service (sized 1) clearWatch
/-- CLUTCH_OUT, kind 2Bh. -/
def State.reqClutchOut : Byte → List Byte → State → State :=
  State.serve 0x2B .service (sized 0) clutchOut
/-- CLUTCH_IN, kind 2Ch. -/
def State.reqClutchIn : Byte → List Byte → State → State :=
  State.serve 0x2C .service (sized 0) clutchIn

/-- The reply kind of an unlisted kind (R195). -/
def unknownReplyKind (kind : Byte) : Byte := if kind < 0x80 then kind + 0x80 else 0xFF

/-- A request of an unlisted kind (R195 check 1). -/
def State.reqUnknown (kind tag : Byte) (s : State) : State :=
  if s.takesFrame then State.reply tag (unknownReplyKind kind) (refuse .unknownKind s.hunt)
  else s.hunt

/-- The request of a frame, by its kind (R195, R198). -/
def State.request (kind tag : Byte) (p : List Byte) (s : State) : State :=
  match kind.toNat with
  | 0x01 => s.reqAskIdentity tag p
  | 0x02 => s.reqAskStatus tag p
  | 0x03 => s.reqAskPosition tag p
  | 0x04 => s.reqAskQueue tag p
  | 0x05 => s.reqTakeEvents tag p
  | 0x06 => s.reqAskFaults tag p
  | 0x07 => s.reqReadFaultLog tag p
  | 0x08 => s.reqAckFault tag p
  | 0x09 => s.reqClearFaultLog tag p
  | 0x0A => s.reqAskWatch tag p
  | 0x10 => s.reqPutLevel tag p
  | 0x11 => s.reqAskLevel tag p
  | 0x12 => s.reqPutMark tag p
  | 0x13 => s.reqAskMark tag p
  | 0x14 => s.reqPutDrum tag p
  | 0x15 => s.reqAskDrum tag p
  | 0x16 => s.reqPutConveyance tag p
  | 0x17 => s.reqAskConveyance tag p
  | 0x18 => s.reqPutLimits tag p
  | 0x19 => s.reqAskLimits tag p
  | 0x1A => s.reqPutSeverity tag p
  | 0x1B => s.reqCommit tag p
  | 0x1C => s.reqSetDatum tag p
  | 0x20 => s.reqSetService tag p
  | 0x21 => s.reqSetMode tag p
  | 0x22 => s.reqQueueTrip tag p
  | 0x23 => s.reqQueueSkip tag p
  | 0x24 => s.reqWithdraw tag p
  | 0x25 => s.reqPrepare tag p
  | 0x26 => s.reqStart tag p
  | 0x27 => s.reqStop tag p
  | 0x28 => s.reqRetarget tag p
  | 0x29 => s.reqSetWatch tag p
  | 0x2A => s.reqClearWatch tag p
  | 0x2B => s.reqClutchOut tag p
  | 0x2C => s.reqClutchIn tag p
  | 0x2D => s.reqResetTrip tag p
  | 0x2E => s.reqClearLockout tag p
  | 0x2F => s.reqRestart tag p
  | _ => s.reqUnknown kind tag

/-! ### The receiver (R192, R193) -/

/-- The length byte N of the frame being gathered. -/
def frameLength (b : List Byte) : Nat := octet b 2

/-- The CRC bytes of a complete frame agree with its contents (R193 test 1, R207). -/
def crcAgrees (b : List Byte) : Bool :=
  (crc16 ((b.drop 1).take (frameLength b + 2))).toNat = fieldNat b (frameLength b + 3) 2

/-- The kind byte of a frame. -/
def frameKind (b : List Byte) : Byte := (b[4]?).getD 0

/-- The tag byte of a frame. -/
def frameTag (b : List Byte) : Byte := (b[3]?).getD 0

/-- The payload of a frame. -/
def framePayload (b : List Byte) : List Byte := (b.drop 5).take (frameLength b - 2)

/-- A complete frame is tested and taken, or dropped (R193). -/
def State.frame (b : List Byte) (s : State) : State :=
  if crcAgrees b ∧ octet b 1 = s.link.address then
    s.request (frameKind b) (frameTag b) (framePayload b)
  else s.hunt

/-- A byte of a frame being gathered (R192). -/
def State.gather (b : Byte) (s : State) : State :=
  let bytes := s.link.buffer ++ [b]
  if bytes.length = 3 ∧ !within 2 202 (frameLength bytes) then s.hunt
  else if 3 ≤ bytes.length ∧ bytes.length = frameLength bytes + 5 then s.hunt.frame bytes
  else s.modLink fun l => { l with buffer := bytes }

/-- A byte arrives on the line (R191, R192, R194). -/
def State.receiveByte (b : Byte) (s : State) : State :=
  if s.te.winder = .checking ∨ s.link.replyState = .sending then s
  else
    match s.link.receive with
    | .receiving => s.gather b
    | .hunting =>
      if b = 0xA5 then s.modLink fun l => { l with receive := .receiving, buffer := [b] } else s

end Sys2Proof.Machine
end

