-- ==== Sys2Proof/Machine/DescriptionCommands.lean ====
section
/-! DEFINITION. The requests of the description and the datum (R198, kinds 10h to 1Ch). -/

namespace Sys2Proof.Machine

open Sys2Proof

/-- PUT_LEVEL (R7). -/
def execPutLevel (e : Elapse) (tag : Byte) (payload : List Byte) (s : State) : Answer :=
  .next ((s.elapse e).reqPutLevel tag payload)

/-- ASK_LEVEL (R5, R6). -/
def execAskLevel (e : Elapse) (tag : Byte) (payload : List Byte) (s : State) : Answer :=
  .next ((s.elapse e).reqAskLevel tag payload)

/-- PUT_MARK (R8). -/
def execPutMark (e : Elapse) (tag : Byte) (payload : List Byte) (s : State) : Answer :=
  .next ((s.elapse e).reqPutMark tag payload)

/-- ASK_MARK (R5, R8). -/
def execAskMark (e : Elapse) (tag : Byte) (payload : List Byte) (s : State) : Answer :=
  .next ((s.elapse e).reqAskMark tag payload)

/-- PUT_DRUM (R10). -/
def execPutDrum (e : Elapse) (tag : Byte) (payload : List Byte) (s : State) : Answer :=
  .next ((s.elapse e).reqPutDrum tag payload)

/-- ASK_DRUM (R5, R9). -/
def execAskDrum (e : Elapse) (tag : Byte) (payload : List Byte) (s : State) : Answer :=
  .next ((s.elapse e).reqAskDrum tag payload)

/-- PUT_CONVEYANCE (R12). -/
def execPutConveyance (e : Elapse) (tag : Byte) (payload : List Byte) (s : State) : Answer :=
  .next ((s.elapse e).reqPutConveyance tag payload)

/-- ASK_CONVEYANCE (R5, R11). -/
def execAskConveyance (e : Elapse) (tag : Byte) (payload : List Byte) (s : State) : Answer :=
  .next ((s.elapse e).reqAskConveyance tag payload)

/-- PUT_LIMITS (R15). -/
def execPutLimits (e : Elapse) (tag : Byte) (payload : List Byte) (s : State) : Answer :=
  .next ((s.elapse e).reqPutLimits tag payload)

/-- ASK_LIMITS (R5, R15). -/
def execAskLimits (e : Elapse) (tag : Byte) (payload : List Byte) (s : State) : Answer :=
  .next ((s.elapse e).reqAskLimits tag payload)

/-- PUT_SEVERITY (R17). -/
def execPutSeverity (e : Elapse) (tag : Byte) (payload : List Byte) (s : State) : Answer :=
  .next ((s.elapse e).reqPutSeverity tag payload)

/-- COMMIT (R19). -/
def execCommit (e : Elapse) (tag : Byte) (payload : List Byte) (s : State) : Answer :=
  .next ((s.elapse e).reqCommit tag payload)

/-- SET_DATUM (R33). -/
def execSetDatum (e : Elapse) (tag : Byte) (payload : List Byte) (s : State) : Answer :=
  .next ((s.elapse e).reqSetDatum tag payload)

end Sys2Proof.Machine
end

