-- ==== Sys2Proof/Machine/LineCommands.lean ====
section
/-! DEFINITION. The commands of the line path: the debounced changes of the field lines on which a rule
acts when they come (R1, R125, R130, R133 to R138, R161, R166, R178). -/

namespace Sys2Proof.Machine

open Sys2Proof

/-- A change of the input lines, and what is done on it; what leaves the lines as they are is no change,
and nothing acts on it (R1, R135, R137, R138, R178, log 40). -/
def State.onChange (change : InputLines → InputLines) (act : State → State) (s : State) : State :=
  if change s.lines = s.lines then s else act (s.modLines change)

/-- SIGNAL_OK_ASSERTED (R125). -/
def execSignalOkAsserted (e : Elapse) (s : State) : Answer :=
  .next ((s.elapse e).onChange (fun l => { l with signalOk := true }) fun t =>
    if t.te.winder = .preparing ∧ t.te.phase = .signal then t.enterGates else t)

/-- SHAFT_STOP is reported in these states (R138). -/
def shaftStopReported : WinderState → Bool
  | .preparing | .prepared | .winding => true
  | .checking | .stoodDown | .idle | .stopping | .held | .dwell | .tripped | .lockedOut => false

/-- SHAFT_STOP_ASSERTED (R138): one report for each assertion. -/
def execShaftStopAsserted (e : Elapse) (s : State) : Answer :=
  .next ((s.elapse e).onChange (fun l => { l with shaftStop := true }) fun t =>
    if shaftStopReported t.te.winder then t.report (bare .shaftStopSignal 0) else t)

/-- EMERGENCY_IN_OPEN (R178): one report for each opening. -/
def execEmergencyInOpen (e : Elapse) (s : State) : Answer :=
  .next ((s.elapse e).onChange (fun l => { l with emergencyIn := false }) fun t =>
    t.report (bare .emergencyInput 0))

/-- GATE_OPENS (R137): a gate opens when its line goes from asserted to withdrawn. -/
def execGateOpens (e : Elapse) (line : Fin 16) (s : State) : Answer :=
  .next ((s.elapse e).onChange (fun l => { l with gates := l.gates.setIfInBounds line false }) fun t =>
    if t.gateReported line then t.report (bare .gateOpen line) else t)

/-- BRAKE_APPLIED_ASSERTED (R130): it confirms while the brake timer runs. -/
def execBrakeAppliedAsserted (e : Elapse) (s : State) : Answer :=
  .next ((s.elapse e).onChange (fun l => { l with brakeApplied := true }) fun t =>
    if t.te.rest = .brakeConfirm ∧ t.te.brake.isSome then t.brakesConfirmed else t)

/-- B_BRAKE_APPLIED_ASSERTED (R161). -/
def execBBrakeAppliedAsserted (e : Elapse) (s : State) : Answer :=
  .next ((s.elapse e).onChange (fun l => { l with bBrakeApplied := true }) fun t =>
    if t.cc.state = .releasing ∧ t.cc.step = .holding then t.beginOpening else t)

/-- CLUTCH_SWITCH_CHANGE (R161, R164, R166): before the reading of R159 nothing acts on it (log 30). -/
def execClutchSwitchChange (e : Elapse) (opened closed : Bool) (s : State) : Answer :=
  .next ((s.elapse e).onChange (fun l => { l with clutchOpen := opened, clutchClosed := closed }) fun t =>
    if t.cc.read then t.switchChange else t)

/-- SKIP_LOADED_ASSERTED (R133, R135). -/
def execSkipLoadedAsserted (e : Elapse) (s : State) : Answer :=
  .next ((s.elapse e).onChange (fun l => { l with skipLoaded := true }) fun t =>
    if t.te.winder = .dwell ∧ t.te.dwell = .loading then t.skipLoaded
    else t.report (bare .unexpectedSignal 1))

/-- SKIP_DUMPED_ASSERTED (R134, R135). -/
def execSkipDumpedAsserted (e : Elapse) (s : State) : Answer :=
  .next ((s.elapse e).onChange (fun l => { l with skipDumped := true }) fun t =>
    if t.te.winder = .dwell ∧ t.te.dwell = .dumping then t.skipDumped
    else t.report (bare .unexpectedSignal 2))

end Sys2Proof.Machine
end

