-- ==== Sys2Proof/Machine/LinkCommands.lean ====
section
/-! DEFINITION. The commands of the frame receiver and of the reply (R192 to R195). -/

namespace Sys2Proof.Machine

open Sys2Proof

/-- FRAME_GAP_TIMEOUT (R192): a frame being gathered is abandoned. -/
def execFrameGapTimeout (e : Elapse) (s : State) : Answer :=
  let s0 := s.elapse e
  if s0.link.receive = .receiving then .next s0.hunt else .next s0

/-- FRAME_DISCARD (R193): a complete frame is dropped, whichever test it fails. -/
def execFrameDiscard (e : Elapse) (_why : DiscardReason) (s : State) : Answer :=
  .next (s.elapse e).hunt

/-- REPLY_BEGIN (R194): a frame being gathered is abandoned. -/
def execReplyBegin (e : Elapse) (s : State) : Answer :=
  let s0 := s.elapse e
  if s0.link.replyState = .pending then
    .next (s0.hunt.modLink fun l => { l with replyState := .sending })
  else .next s0

/-- REPLY_END (R194). -/
def execReplyEnd (e : Elapse) (s : State) : Answer :=
  let s0 := s.elapse e
  if s0.link.replyState = .sending then
    .next (s0.modLink fun l => { l with replyState := .idle, reply := [] })
  else .next s0

/-- BYTE_RECEIVED (R192). -/
def execByteReceived (e : Elapse) (byte : Byte) (s : State) : Answer :=
  .next ((s.elapse e).receiveByte byte)

/-- UNKNOWN_KIND (R195): the kind of the frame decides, so a listed kind is taken as its own request. -/
def execUnknownKind (e : Elapse) (tag kind : Byte) (payload : List Byte) (s : State) : Answer :=
  .next ((s.elapse e).request kind tag payload)

end Sys2Proof.Machine
end

