-- ==== Sys2Proof/Machine/PowerCommands.lean ====
section
/-! DEFINITION. The commands of power-on and CHECKING (R119, R159, R183). -/

namespace Sys2Proof.Machine

open Sys2Proof

/-- The device as power finds it: the stored copy survives, and the commands that wait (R21, R48, R66,
R90, R115, R116, R157, R159, R190, R191, R204; logs 8, 10). -/
def State.poweredUp (up : PowerUp) (s : State) : State :=
  { State.reset with
    lines := up.lines
    ds := { State.reset.ds with stored := s.ds.stored }
    link := { State.reset.link with
      address := if up.addrStrap.val = 0 then 1 else up.addrStrap.val, fast := up.baudStrap }
    pending := s.pending }

/-- POWER_ON (R119), with the self check, the load where it is made now, and the first state of
EMERGENCY_IN (R21, R178, log 8). -/
def execPowerOn (up : PowerUp) (s : State) : Answer :=
  let s0 := s.poweredUp up
  let s1 := match up.selfCheck with
    | none => s0
    | some n => s0.report { kind := .selfCheck, subject := 0, item1 := n, item2 := 0, item3 := 0 }
  let s2 := if up.loadNow then s1.load else s1
  .next (if up.lines.emergencyIn then s2 else s2.report (bare .emergencyInput 0))

/-- The kinds pending of a stored severity. -/
def State.pendingOf (s : State) (v : Severity) : List FaultKind :=
  s.pendingKinds.filter fun k => s.severity k = v

/-- Enters the state that the highest pending severity calls for, at the end of CHECKING (R119, R183):
the cause is the lowest-numbered pending kind of that severity. -/
def State.leaveChecking (s : State) : State :=
  match s.pendingOf 3, s.pendingOf 2 with
  | k :: _, _ => (s.modFm fun f => { f with inForce := some 3 }).lock k
  | [], k :: _ => (s.modFm fun f => { f with inForce := some 2 }).trip .stoodDown k
  | [], [] => s.enter .stoodDown .sequence 0

/-- CHECKING_END (R119, R183); in PULSE mode ATTN gives one pulse if the queue holds a record (R204). -/
def execCheckingEnd (e : Elapse) (s : State) : Answer :=
  let s0 := s.elapse e
  if s0.te.winder = .checking then
    let s1 := if s0.ds.loaded then s0 else s0.load
    let s2 := if s1.cc.read then s1 else s1.readClutch
    .next s2.leaveChecking
  else .next s0

/-- CLUTCH_POWER_ON_READ (R159): once, in CHECKING. -/
def execClutchPowerOnRead (e : Elapse) (s : State) : Answer :=
  let s0 := s.elapse e
  if s0.te.winder = .checking ∧ !s0.cc.read then .next s0.readClutch else .next s0

end Sys2Proof.Machine
end

