-- ==== Sys2Proof/Machine/QuestionCommands.lean ====
section
/-! DEFINITION. The questions of the host and the requests of the Event Queue and the fault log (R198, kinds
01h to 0Ah). -/

namespace Sys2Proof.Machine

open Sys2Proof

/-- ASK_IDENTITY (R205). -/
def execAskIdentity (e : Elapse) (tag : Byte) (payload : List Byte) (s : State) : Answer :=
  .next ((s.elapse e).reqAskIdentity tag payload)

/-- ASK_STATUS (R206). -/
def execAskStatus (e : Elapse) (tag : Byte) (payload : List Byte) (s : State) : Answer :=
  .next ((s.elapse e).reqAskStatus tag payload)

/-- ASK_POSITION (R47). -/
def execAskPosition (e : Elapse) (tag : Byte) (payload : List Byte) (s : State) : Answer :=
  .next ((s.elapse e).reqAskPosition tag payload)

/-- ASK_QUEUE (R59). -/
def execAskQueue (e : Elapse) (tag : Byte) (payload : List Byte) (s : State) : Answer :=
  .next ((s.elapse e).reqAskQueue tag payload)

/-- TAKE_EVENTS (R202). -/
def execTakeEvents (e : Elapse) (tag : Byte) (payload : List Byte) (s : State) : Answer :=
  .next ((s.elapse e).reqTakeEvents tag payload)

/-- ASK_FAULTS (R187). -/
def execAskFaults (e : Elapse) (tag : Byte) (payload : List Byte) (s : State) : Answer :=
  .next ((s.elapse e).reqAskFaults tag payload)

/-- READ_FAULT_LOG (R189). -/
def execReadFaultLog (e : Elapse) (tag : Byte) (payload : List Byte) (s : State) : Answer :=
  .next ((s.elapse e).reqReadFaultLog tag payload)

/-- ACK_FAULT (R186). -/
def execAckFault (e : Elapse) (tag : Byte) (payload : List Byte) (s : State) : Answer :=
  .next ((s.elapse e).reqAckFault tag payload)

/-- CLEAR_FAULT_LOG (R188). -/
def execClearFaultLog (e : Elapse) (tag : Byte) (payload : List Byte) (s : State) : Answer :=
  .next ((s.elapse e).reqClearFaultLog tag payload)

/-- ASK_WATCH (R148). -/
def execAskWatch (e : Elapse) (tag : Byte) (payload : List Byte) (s : State) : Answer :=
  .next ((s.elapse e).reqAskWatch tag payload)

end Sys2Proof.Machine
end

