-- ==== Sys2Proof/Machine/Envelope.lean ====
section
/-! DEFINITION. The Envelope Supervisor at a Sample record (R91 to R109). It finds its conditions from the
state it is given, and its reports follow in the order of R104. -/

namespace Sys2Proof.Machine

open Sys2Proof

/-! ### The envelope (R92 to R94) -/

/-- The envelope curves of the leg (R92). -/
def State.envelopeCurves (s : State) : List Nat :=
  s.rg.leg.map fun p => curveAt s.limits s.limits.aRet p (s.pointDistance p)

/-- env: the least of the trip speed limit and the envelope curves (R92). -/
def State.envNow (s : State) : Nat := leastOf s.rg.limit s.envelopeCurves

/-- The margin over an envelope value (R94). -/
def marginOf (l : Limits) (env : Nat) : Nat := max l.marginAbs (env * l.marginPct / 100)

/-! ### The conditions -/

/-- The travel of the guide's drum since the leg began to wind (R98). -/
def State.legTravel (s : State) : Int :=
  s.rg.travel.signed ((s.drum s.rg.guide).paidOut - s.es.legStart.getD 0)

/-- The progress mark after this Sample record (R98). -/
def State.progressNow (s : State) : Int := max s.es.progress s.legTravel

/-- The following error is present (R99). -/
def State.followError (s : State) : Bool :=
  s.limits.followLimit < mag (s.guideSpeed - s.es.refInForce)

/-- The following error has lasted the follow time (R99). -/
def State.followLasted (s : State) : Bool :=
  match s.es.follow with
  | none => false
  | some t => s.limits.followTime * 1000 ≤ unsignedElapsed s.efe.sampleTime t

/-- The overtime deadline has passed (R101). -/
def State.overdue (s : State) : Bool :=
  match s.es.deadline with
  | none => false
  | some t => 1 ≤ unsignedElapsed s.unitTime t && unsignedElapsed s.unitTime t < 2 ^ 31

/-- The overwind limit toward which a conveyance moves, and its distance d_ow; none at standstill
(R102). -/
def State.overwind (s : State) (c : Conv) : Option (Int × Int) :=
  let m := s.conv c
  if s.convAtRest c then none
  else if 0 < m.speed then some ((s.convRec c).bottom, (s.convRec c).bottom - m.depth)
  else some ((s.convRec c).top, m.depth - (s.convRec c).top)

/-- The speed from which the emergency braking stops a conveyance within a distance (R102). -/
def approachSpeed (l : Limits) (d : Int) : Nat := isqrt (2 * l.aEmg * d.toNat)

/-- The states in which motion baselines are tested (R107). -/
def motionTested : WinderState → Bool
  | .idle | .held | .dwell | .stoodDown | .tripped | .lockedOut | .preparing | .prepared => true
  | .checking | .winding | .stopping => false

/-- The drums under the unexpected-motion check (R107). -/
def State.supervised (s : State) (c : Conv) : Bool := c = .a || s.cc.state = .engaged

/-- The movement of a drum from its motion baseline, mm (R109). -/
def State.movement (s : State) (c : Conv) : Option Nat :=
  (s.es.motion.get c).map fun b => mag ((s.drum c).paidOut - b) / 1000000

/-- A drum has moved from its baseline beyond the drift limit (R109). -/
def State.movedAway (s : State) (c : Conv) : Bool :=
  motionTested s.te.winder && s.supervised c &&
    match s.movement c with
    | none => false
    | some d => s.limits.driftLimit < d

/-- The baseline that a drum without one takes from this Sample record, if it takes one (R108). -/
def State.baselineTaken (s : State) (c : Conv) : Option Int :=
  if s.te.winder.resting ∧ s.supervised c ∧ s.convAtRest c ∧ s.lines.brakeApplied then
    some (s.drum c).paidOut
  else none

/-- The motion baseline of a drum after this Sample record: one that UNEXPECTED_MOTION sets to NONE is
taken anew at once where this record allows it (R108, R109). DEDUCED (log 23): the retake is judged in the
winder state that the record found, before the response to the report. -/
def State.baselineNow (s : State) (c : Conv) : Option Int :=
  match s.es.motion.get c with
  | none => s.baselineTaken c
  | some b => if s.movedAway c then s.baselineTaken c else some b

/-! ### The reports, with their contexts (R104) -/

/-- OVERWIND of a conveyance (R103). -/
def State.overwindReports (s : State) (c : Conv) : List Report :=
  match s.overwind c with
  | none => []
  | some (limit, d) =>
    if d ≤ 0 then
      [{ kind := .overwind, subject := c.code, item1 := (s.conv c).depth, item2 := limit,
         item3 := 0 }]
    else []

/-- OVERWIND_APPROACH of a conveyance (R102). -/
def State.approachReports (s : State) (c : Conv) : List Report :=
  match s.overwind c with
  | none => []
  | some (_, d) =>
    if 0 < d ∧ approachSpeed s.limits d < mag (s.conv c).speed then
      [{ kind := .overwindApproach, subject := c.code, item1 := mag (s.conv c).speed,
         item2 := approachSpeed s.limits d, item3 := d }]
    else []

/-- A report about the guide. -/
def State.guideReport (s : State) (k : FaultKind) (x y : Int) : Report :=
  { kind := k, subject := s.rg.guide.code, item1 := x, item2 := y, item3 := 0 }

/-- OVERSPEED, then ENVELOPE_EXCEEDED (R95). -/
def State.speedReports (s : State) : List Report :=
  let m := marginOf s.limits s.envNow
  let t1 : Int := s.envNow + m
  let t2 : Int := s.envNow + 2 * m
  (if t2 < s.guideSpeed then [s.guideReport .overspeed s.guideSpeed t2] else [])
    ++ if t1 < s.guideSpeed then [s.guideReport .envelopeExceeded s.guideSpeed t1] else []

/-- OVERTRAVEL (R97). -/
def State.overtravelReports (s : State) : List Report :=
  if s.distanceToGo < -(s.limits.overtravelLimit : Int) then
    [s.guideReport .overtravel (-s.distanceToGo) s.limits.overtravelLimit]
  else []

/-- DIRECTION_WRONG (R98). -/
def State.directionReports (s : State) : List Report :=
  if Config.rollbackLimit < s.progressNow - s.legTravel then
    [s.guideReport .directionWrong (truncMm (s.progressNow - s.legTravel)) 100]
  else []

/-- DRIVE_NOT_FOLLOWING, which WINDING alone tests (R99). -/
def State.followReports (s : State) : List Report :=
  if s.te.winder = .winding ∧ s.followError ∧ s.followLasted then
    [s.guideReport .driveNotFollowing s.guideSpeed s.es.refInForce]
  else []

/-- TRIP_OVERTIME (R101). -/
def State.overtimeReports (s : State) : List Report :=
  if s.te.winder.moving ∧ s.overdue then
    [s.guideReport .tripOvertime s.unitTime (s.es.deadline.getD 0)]
  else []

/-- UNEXPECTED_MOTION of a drum (R109). -/
def State.motionReports (s : State) (c : Conv) : List Report :=
  if s.movedAway c then
    [{ kind := .unexpectedMotion, subject := c.code, item1 := (s.movement c).getD 0,
       item2 := s.limits.driftLimit, item3 := 0 }]
  else []

/-- The reports of a Sample record, in the order of the table of R91, with conveyance A before conveyance B
within each overwind check (R104). DESIGN CHOICE (log 48): where both drums have moved from their baselines,
UNEXPECTED_MOTION of drum A comes before that of drum B. -/
def State.envelopeReports (s : State) : List Report :=
  s.overwindReports .a ++ s.overwindReports .b ++ s.approachReports .a ++ s.approachReports .b
    ++ (if s.te.winder.moving then
          s.speedReports ++ s.overtravelReports ++ s.directionReports ++ s.followReports
            ++ s.overtimeReports
        else [])
    ++ s.motionReports .a ++ s.motionReports .b

/-- The follow timer after this Sample record (R99). -/
def State.followNow (s : State) : Option Nat :=
  if s.te.winder = .winding ∧ s.followError then
    match s.es.follow with
    | none => some s.efe.sampleTime
    | some t => some t
  else none

/-- What the Envelope Supervisor holds after this Sample record (R93, R94, R98, R99, R108, R109). -/
def State.superviseNow (s : State) : EnvelopeSupervisor :=
  let motion : Both (Option Int) := ⟨s.baselineNow .a, s.baselineNow .b⟩
  if s.te.winder.moving then
    let m := marginOf s.limits s.envNow
    { s.es with env := s.envNow, margin := m, tier1 := s.envNow + m, tier2 := s.envNow + 2 * m,
                progress := s.progressNow, follow := s.followNow, motion := motion }
  else { s.es with motion := motion }

/-- Hands reports to the Fault Manager, one at a time (R177). -/
def State.reportAll (rs : List Report) (s : State) : State := rs.foldl (fun s r => s.report r) s

/-- The reference of this Sample record, or a bound of it where a stop came between: the one held, or that
which the Reference Generator as the record found it gives (R75 to R80, R82). -/
def State.recordReference (prev : Nat) (found : ReferenceGenerator) (s : State) : Nat :=
  max s.rg.refPrev
    ((s.modRg fun _ => found).referenceNow (unsignedElapsed s.efe.sampleTime prev))

/-- The plan that the Envelope Supervisor reads at a Sample record: the one held (R91, R113). DEDUCED
(log 20): where a slow point placed at this record would put env below the reference of the record, the law
of R79 governs, and the plan read is the one that the record found, from which that reference comes, since
the point is one of the leg from the next record on (R82, R92). -/
def State.supervisedPlan (prev : Nat) (found : ReferenceGenerator) (s : State) :
    Option (List PlanPoint) :=
  if s.envNow < s.recordReference prev found ∧ s.envNow < (s.onPlan found.plan).envNow then found.plan
  else s.rg.plan

/-- The Envelope Supervisor takes a Sample record; `prev` is the time of the record before and `found` the
Reference Generator as this record found it (R91 to R109, R113). -/
def State.takeEnvelope (prev : Nat) (found : ReferenceGenerator) (s : State) : State :=
  let seen := s.onPlan (s.supervisedPlan prev found)
  (s.modEs fun _ => seen.superviseNow).reportAll seen.envelopeReports

end Sys2Proof.Machine
end

