-- ==== Sys2Proof/Machine/SampleCommands.lean ====
section
/-! DEFINITION. The commands of the sample path (section 2): the Sample record (R24 to R48), the edges of
the mark lines (R41), and the conditions that a Sample record leaves standing (R39, R99, R101). -/

namespace Sys2Proof.Machine

open Sys2Proof

/-- The five blocks that take the record, in the order they were named first, then those not named
(log 7). -/
def blockOrder (named : List SampleBlock) : List SampleBlock :=
  let all : List SampleBlock := [.reference, .envelope, .watch, .clutch, .executive]
  (named ++ all).foldl (fun seen b => if seen.contains b then seen else seen ++ [b]) []

/-- One block takes the Sample record; `prev` is the time of the record before, `rest` the rest step and
`found` the Reference Generator that the record found, whose plan the reference is computed from (R82). -/
def State.takeBlock (prev : Nat) (rest : RestStep) (found : ReferenceGenerator) (s : State) :
    SampleBlock → State
  | .reference => s.takeReference prev found.plan
  | .envelope => s.takeEnvelope prev found
  | .watch => s.takeWatch
  | .clutch => s.takeClutch
  | .executive => s.takeExecutive rest

/-- The Encoder Front End and the Position Model form and take a Sample record (R24 to R45). Whether a run
that begins at it is strict is settled as it is formed, for both drums alike, before any report of the
record is answered (R38). -/
def State.takeRecord (h : Heads) (s : State) : State :=
  let prev := s.efe.sampleTime
  let old : Both Int := ⟨(s.conv .a).speed, (s.conv .b).speed⟩
  let placed := (((s.takeHeads h).crossCheck .a).crossCheck .b).position .a prev s.strict
  (placed.position .b prev s.strict).passMarks old

/-- SAMPLE (R24, R47). DEDUCED (log 49): the record is taken whole, by every block, so that a request that R91
and R113 allow between two blocks' handling of it comes before or after the whole record. -/
def execSample (e : Elapse) (heads : Heads) (order : List SampleBlock) (s : State) : Answer :=
  let s0 := s.elapse e
  let prev := s0.efe.sampleTime
  let s1 := s0.takeRecord heads
  .next ((blockOrder order).foldl (State.takeBlock prev s1.te.rest s1.rg) s1)

/-- RUN_LOST (R39): where the degraded count of a run exceeds the allowance that now stands. -/
def execRunLost (e : Elapse) (drum : Conv) (s : State) : Answer :=
  let s0 := s.elapse e
  if (s0.drum drum).run = .run ∧ s0.limits.nDeg < (s0.conv drum).degraded then
    .next (s0.loseRun drum)
  else .next s0

/-- MARK_EDGE (R41): the edge was stamped `age` microseconds before it is taken (R25). -/
def execMarkEdge (e : Elapse) (line : Fin 24) (age : Nat) (s : State) : Answer :=
  let s0 := s.elapse e
  .next (s0.takeEdge line (((s0.sampleClock : Int) - age) % 2 ^ 32).toNat)

/-- DRIVE_NOT_FOLLOWING (R99): the condition of the latest Sample record, if it holds. -/
def execDriveNotFollowing (e : Elapse) (s : State) : Answer :=
  let s0 := s.elapse e
  .next (s0.reportAll s0.followReports)

/-- TRIP_OVERTIME (R101): the deadline, if it has passed. -/
def execTripOvertime (e : Elapse) (s : State) : Answer :=
  let s0 := s.elapse e
  .next (s0.reportAll s0.overtimeReports)

end Sys2Proof.Machine
end

