-- ==== Sys2Proof/Machine/TimerCommands.lean ====
section
/-! DEFINITION. The commands of the timers, each acting where its timer runs (R116), and the end of a
store write (R20). -/

namespace Sys2Proof.Machine

open Sys2Proof

/-- The expiry of the readiness timer while it runs in a phase. -/
def State.readinessExpiry (s : State) (phase : Phase) : Option Nat :=
  if s.te.winder = .preparing ∧ s.te.phase = phase then s.te.readiness else none

/-- The readiness timer has expired, and is stopped. -/
def State.expireReadiness (t : Nat) (s : State) : State :=
  (s.reach t).modTe fun x => { x with readiness := none }

/-- SIGNAL_WAIT_EXPIRY (R125). -/
def execSignalWaitExpiry (e : Elapse) (s : State) : Answer :=
  let s0 := s.elapse e
  match s0.readinessExpiry .signal with
  | none => .next s0
  | some t => .next ((s0.expireReadiness t).phaseFail (bare .signalTimeout 0))

/-- TORQUE_WAIT_EXPIRY (R126). -/
def execTorqueWaitExpiry (e : Elapse) (s : State) : Answer :=
  let s0 := s.elapse e
  match s0.readinessExpiry .torque with
  | none => .next s0
  | some t => .next (s0.expireReadiness t).torqueEnd

/-- RELEASE_WAIT_EXPIRY (R126). -/
def execReleaseWaitExpiry (e : Elapse) (s : State) : Answer :=
  let s0 := s.elapse e
  match s0.readinessExpiry .release with
  | none => .next s0
  | some t => .next (s0.expireReadiness t).releaseEnd

/-- SETTLE_WAIT_EXPIRY (R126). -/
def execSettleWaitExpiry (e : Elapse) (s : State) : Answer :=
  let s0 := s.elapse e
  match s0.readinessExpiry .settle with
  | none => .next s0
  | some t => .next (s0.expireReadiness t).settleEnd

/-- BRAKE_TIMER_EXPIRY (R130, R140). -/
def execBrakeTimerExpiry (e : Elapse) (s : State) : Answer :=
  let s0 := s.elapse e
  match s0.te.brake with
  | none => .next s0
  | some t =>
    .next (((s0.reach t).modTe fun x => { x with brake := none, brakeExpired := true }).report
      (bare .brakeNotApplied 0))

/-- The expiry of the dwell timer while it runs in a dwell. -/
def State.dwellExpiry (s : State) (k : DwellKind) : Option Nat :=
  if s.te.winder = .dwell ∧ s.te.dwell = k then s.te.dwellTimer else none

/-- The dwell timer has expired, and is stopped (R135). -/
def State.expireDwell (t : Nat) (s : State) : State :=
  (s.reach t).modTe fun x => { x with dwellTimer := none }

/-- LOAD_WAIT_EXPIRY (R135). -/
def execLoadWaitExpiry (e : Elapse) (s : State) : Answer :=
  let s0 := s.elapse e
  match s0.dwellExpiry .loading with
  | none => .next s0
  | some t => .next ((s0.expireDwell t).report (bare .loadTimeout 0))

/-- DUMP_WAIT_EXPIRY (R135). -/
def execDumpWaitExpiry (e : Elapse) (s : State) : Answer :=
  let s0 := s.elapse e
  match s0.dwellExpiry .dumping with
  | none => .next s0
  | some t => .next ((s0.expireDwell t).report (bare .dumpTimeout 0))

/-- The expiry of the clutch timer while it runs in a clutch state. -/
def State.clutchTimerIn (s : State) (c : ClutchState) : Option Nat :=
  if s.cc.state = c then s.cc.timer else none

/-- CLUTCH_RELEASE_TIMEOUT (R162). -/
def execClutchReleaseTimeout (e : Elapse) (s : State) : Answer :=
  let s0 := s.elapse e
  match s0.clutchTimerIn .releasing with
  | none => .next s0
  | some t => .next (s0.reach t).releaseFail

/-- CLUTCH_ENGAGE_TIMEOUT (R164). -/
def execClutchEngageTimeout (e : Elapse) (s : State) : Answer :=
  let s0 := s.elapse e
  match s0.clutchTimerIn .engaging with
  | none => .next s0
  | some t => .next (s0.reach t).engageFail

/-- STORE_WRITE_END (R20). -/
def execStoreWriteEnd (e : Elapse) (readBack : ReadBack) (s : State) : Answer :=
  let s0 := s.elapse e
  if s0.ds.storeState = .writing then .next (s0.endWrite readBack) else .next s0

/-- ATTN_PULSE_END (R203). -/
def execAttnPulseEnd (e : Elapse) (s : State) : Answer :=
  let s0 := s.elapse e
  match s0.link.pulse with
  | none => .next s0
  | some t => .next ((s0.reach t).modLink fun l => { l with pulse := none })

end Sys2Proof.Machine
end

