-- ==== Sys2Proof/Machine/TripCommands.lean ====
section
/-! DEFINITION. The requests of the trips, the watch points, the clutch and the recoveries (R198, kinds 20h to
2Fh). -/

namespace Sys2Proof.Machine

open Sys2Proof

/-- SET_SERVICE ON (R120). -/
def execSetServiceOn (e : Elapse) (tag : Byte) (s : State) : Answer :=
  .next ((s.elapse e).reqSetService tag [1])

/-- SET_SERVICE OFF (R121). -/
def execSetServiceOff (e : Elapse) (tag : Byte) (s : State) : Answer :=
  .next ((s.elapse e).reqSetService tag [0])

/-- SET_MODE (R122). -/
def execSetMode (e : Elapse) (tag : Byte) (payload : List Byte) (s : State) : Answer :=
  .next ((s.elapse e).reqSetMode tag payload)

/-- QUEUE_TRIP (R54). -/
def execQueueTrip (e : Elapse) (tag : Byte) (payload : List Byte) (s : State) : Answer :=
  .next ((s.elapse e).reqQueueTrip tag payload)

/-- QUEUE_SKIP_CYCLES (R55). -/
def execQueueSkipCycles (e : Elapse) (tag : Byte) (payload : List Byte) (s : State) : Answer :=
  .next ((s.elapse e).reqQueueSkip tag payload)

/-- WITHDRAW (R58). -/
def execWithdraw (e : Elapse) (tag : Byte) (payload : List Byte) (s : State) : Answer :=
  .next ((s.elapse e).reqWithdraw tag payload)

/-- PREPARE (R123). -/
def execPrepare (e : Elapse) (tag : Byte) (payload : List Byte) (s : State) : Answer :=
  .next ((s.elapse e).reqPrepare tag payload)

/-- START (R128). -/
def execStart (e : Elapse) (tag : Byte) (payload : List Byte) (s : State) : Answer :=
  .next ((s.elapse e).reqStart tag payload)

/-- STOP (R129). -/
def execStop (e : Elapse) (tag : Byte) (payload : List Byte) (s : State) : Answer :=
  .next ((s.elapse e).reqStop tag payload)

/-- RETARGET (R84). -/
def execRetarget (e : Elapse) (tag : Byte) (payload : List Byte) (s : State) : Answer :=
  .next ((s.elapse e).reqRetarget tag payload)

/-- SET_WATCH (R147). -/
def execSetWatch (e : Elapse) (tag : Byte) (payload : List Byte) (s : State) : Answer :=
  .next ((s.elapse e).reqSetWatch tag payload)

/-- CLEAR_WATCH (R148). -/
def execClearWatch (e : Elapse) (tag : Byte) (payload : List Byte) (s : State) : Answer :=
  .next ((s.elapse e).reqClearWatch tag payload)

/-- CLUTCH_OUT (R160). -/
def execClutchOut (e : Elapse) (tag : Byte) (payload : List Byte) (s : State) : Answer :=
  .next ((s.elapse e).reqClutchOut tag payload)

/-- CLUTCH_IN (R163). -/
def execClutchIn (e : Elapse) (tag : Byte) (payload : List Byte) (s : State) : Answer :=
  .next ((s.elapse e).reqClutchIn tag payload)

/-- RESET_TRIP (R143). -/
def execResetTrip (e : Elapse) (tag : Byte) (payload : List Byte) (s : State) : Answer :=
  .next ((s.elapse e).reqResetTrip tag payload)

/-- CLEAR_LOCKOUT (R144). -/
def execClearLockout (e : Elapse) (tag : Byte) (payload : List Byte) (s : State) : Answer :=
  .next ((s.elapse e).reqClearLockout tag payload)

/-- RESTART (R145). -/
def execRestart (e : Elapse) (tag : Byte) (payload : List Byte) (s : State) : Answer :=
  .next ((s.elapse e).reqRestart tag payload)

end Sys2Proof.Machine
end

