-- ==== Sys2Proof/Machine/Dispatch.lean ====
section
/-! DEFINITION. One arm for each command, each a call of its meaning. -/

namespace Sys2Proof.Machine

open Sys2Proof

def exec (i : Instr) (s : State) : Host.Outcome State Fault Refusal :=
  match i with
  | .powerOn up => Sys2Proof.Machine.execPowerOn up s
  | .checkingEnd e => Sys2Proof.Machine.execCheckingEnd e s
  | .clutchPowerOnRead e => Sys2Proof.Machine.execClutchPowerOnRead e s
  | .sample e heads order => Sys2Proof.Machine.execSample e heads order s
  | .runLost e drum => Sys2Proof.Machine.execRunLost e drum s
  | .markEdge e line age => Sys2Proof.Machine.execMarkEdge e line age s
  | .driveNotFollowing e => Sys2Proof.Machine.execDriveNotFollowing e s
  | .tripOvertime e => Sys2Proof.Machine.execTripOvertime e s
  | .signalOkAsserted e => Sys2Proof.Machine.execSignalOkAsserted e s
  | .shaftStopAsserted e => Sys2Proof.Machine.execShaftStopAsserted e s
  | .emergencyInOpen e => Sys2Proof.Machine.execEmergencyInOpen e s
  | .gateOpens e line => Sys2Proof.Machine.execGateOpens e line s
  | .brakeAppliedAsserted e => Sys2Proof.Machine.execBrakeAppliedAsserted e s
  | .bBrakeAppliedAsserted e => Sys2Proof.Machine.execBBrakeAppliedAsserted e s
  | .clutchSwitchChange e opened closed => Sys2Proof.Machine.execClutchSwitchChange e opened closed s
  | .skipLoadedAsserted e => Sys2Proof.Machine.execSkipLoadedAsserted e s
  | .skipDumpedAsserted e => Sys2Proof.Machine.execSkipDumpedAsserted e s
  | .signalWaitExpiry e => Sys2Proof.Machine.execSignalWaitExpiry e s
  | .torqueWaitExpiry e => Sys2Proof.Machine.execTorqueWaitExpiry e s
  | .releaseWaitExpiry e => Sys2Proof.Machine.execReleaseWaitExpiry e s
  | .settleWaitExpiry e => Sys2Proof.Machine.execSettleWaitExpiry e s
  | .brakeTimerExpiry e => Sys2Proof.Machine.execBrakeTimerExpiry e s
  | .loadWaitExpiry e => Sys2Proof.Machine.execLoadWaitExpiry e s
  | .dumpWaitExpiry e => Sys2Proof.Machine.execDumpWaitExpiry e s
  | .clutchReleaseTimeout e => Sys2Proof.Machine.execClutchReleaseTimeout e s
  | .clutchEngageTimeout e => Sys2Proof.Machine.execClutchEngageTimeout e s
  | .storeWriteEnd e readBack => Sys2Proof.Machine.execStoreWriteEnd e readBack s
  | .attnPulseEnd e => Sys2Proof.Machine.execAttnPulseEnd e s
  | .frameGapTimeout e => Sys2Proof.Machine.execFrameGapTimeout e s
  | .frameDiscard e why => Sys2Proof.Machine.execFrameDiscard e why s
  | .replyBegin e => Sys2Proof.Machine.execReplyBegin e s
  | .replyEnd e => Sys2Proof.Machine.execReplyEnd e s
  | .unknownKind e tag kind payload => Sys2Proof.Machine.execUnknownKind e tag kind payload s
  | .askIdentity e tag payload => Sys2Proof.Machine.execAskIdentity e tag payload s
  | .askStatus e tag payload => Sys2Proof.Machine.execAskStatus e tag payload s
  | .askPosition e tag payload => Sys2Proof.Machine.execAskPosition e tag payload s
  | .askQueue e tag payload => Sys2Proof.Machine.execAskQueue e tag payload s
  | .takeEvents e tag payload => Sys2Proof.Machine.execTakeEvents e tag payload s
  | .askFaults e tag payload => Sys2Proof.Machine.execAskFaults e tag payload s
  | .readFaultLog e tag payload => Sys2Proof.Machine.execReadFaultLog e tag payload s
  | .ackFault e tag payload => Sys2Proof.Machine.execAckFault e tag payload s
  | .clearFaultLog e tag payload => Sys2Proof.Machine.execClearFaultLog e tag payload s
  | .askWatch e tag payload => Sys2Proof.Machine.execAskWatch e tag payload s
  | .putLevel e tag payload => Sys2Proof.Machine.execPutLevel e tag payload s
  | .askLevel e tag payload => Sys2Proof.Machine.execAskLevel e tag payload s
  | .putMark e tag payload => Sys2Proof.Machine.execPutMark e tag payload s
  | .askMark e tag payload => Sys2Proof.Machine.execAskMark e tag payload s
  | .putDrum e tag payload => Sys2Proof.Machine.execPutDrum e tag payload s
  | .askDrum e tag payload => Sys2Proof.Machine.execAskDrum e tag payload s
  | .putConveyance e tag payload => Sys2Proof.Machine.execPutConveyance e tag payload s
  | .askConveyance e tag payload => Sys2Proof.Machine.execAskConveyance e tag payload s
  | .putLimits e tag payload => Sys2Proof.Machine.execPutLimits e tag payload s
  | .askLimits e tag payload => Sys2Proof.Machine.execAskLimits e tag payload s
  | .putSeverity e tag payload => Sys2Proof.Machine.execPutSeverity e tag payload s
  | .commit e tag payload => Sys2Proof.Machine.execCommit e tag payload s
  | .setDatum e tag payload => Sys2Proof.Machine.execSetDatum e tag payload s
  | .setServiceOn e tag => Sys2Proof.Machine.execSetServiceOn e tag s
  | .setServiceOff e tag => Sys2Proof.Machine.execSetServiceOff e tag s
  | .setMode e tag payload => Sys2Proof.Machine.execSetMode e tag payload s
  | .queueTrip e tag payload => Sys2Proof.Machine.execQueueTrip e tag payload s
  | .queueSkipCycles e tag payload => Sys2Proof.Machine.execQueueSkipCycles e tag payload s
  | .withdraw e tag payload => Sys2Proof.Machine.execWithdraw e tag payload s
  | .prepare e tag payload => Sys2Proof.Machine.execPrepare e tag payload s
  | .start e tag payload => Sys2Proof.Machine.execStart e tag payload s
  | .stop e tag payload => Sys2Proof.Machine.execStop e tag payload s
  | .retarget e tag payload => Sys2Proof.Machine.execRetarget e tag payload s
  | .setWatch e tag payload => Sys2Proof.Machine.execSetWatch e tag payload s
  | .clearWatch e tag payload => Sys2Proof.Machine.execClearWatch e tag payload s
  | .clutchOut e tag payload => Sys2Proof.Machine.execClutchOut e tag payload s
  | .clutchIn e tag payload => Sys2Proof.Machine.execClutchIn e tag payload s
  | .resetTrip e tag payload => Sys2Proof.Machine.execResetTrip e tag payload s
  | .clearLockout e tag payload => Sys2Proof.Machine.execClearLockout e tag payload s
  | .restart e tag payload => Sys2Proof.Machine.execRestart e tag payload s
  | .byteReceived e byte => Sys2Proof.Machine.execByteReceived e byte s

end Sys2Proof.Machine
end

