-- ==== Sys2Proof/Safety.lean ====
section
/-! DEFINITION. What the claims are stated in: when the port takes a request and what a reply leaves, the
ranges of the records that a request may carry, and the laws that the manual gives for the whole device
(R49, R79, R117, R167, R173, R185, R200). -/

namespace Sys2Proof

/-- A Limits record as PUT_LIMITS stores it: the mode limits held to the design speed (R15). -/
def Limits.clamped (l : Limits) : Limits :=
  { l with
    manLimit := min l.manLimit l.vDesign, materialLimit := min l.materialLimit l.vDesign,
    rockLimit := min l.rockLimit l.vDesign, inspectionLimit := min l.inspectionLimit l.vDesign }

/-- The six conditions of validation (R18). -/
def Description.meets (d : Description) : Nat → Prop
  | 1 => ∃ i l, tableGet d.levels i = some l ∧ l.kind = .bank ∧ l.serves = .a
  | 2 => d.convs.b.kind = .skip →
    (∃ i l, tableGet d.levels i = some l ∧ l.kind = .pocket ∧ l.serves = .b) ∧
      ∃ i l, tableGet d.levels i = some l ∧ l.kind = .tipple ∧ l.serves = .b
  | 3 => ∀ i l, tableGet d.levels i = some l →
    (d.convs.get l.serves).top < l.depth ∧ l.depth < (d.convs.get l.serves).bottom
  | 4 => ∀ i m, tableGet d.marks i = some m →
    (d.convs.get m.conv).top < m.depth ∧ m.depth < (d.convs.get m.conv).bottom
  | 5 => Machine.layersWellFormed d.drums.a.layers = true ∧
    Machine.layersWellFormed d.drums.b.layers = true
  | 6 => d.convs.b.decks = 1
  | _ => True

end Sys2Proof

namespace Sys2Proof.Machine

open Sys2Proof

/-- Another occupied level of the conveyance lies nearer than 1,000 mm (R7 check 4). -/
def State.levelNear (s : State) (i : Nat) (l : Level) : Prop :=
  ∃ j l', j ≠ i ∧ s.level j = some l' ∧ l'.serves = l.serves ∧ mag (l'.depth - l.depth) < 1000

/-! ### Requests and replies -/

/-- A request of a class is taken now: the port takes frames and the class check passes (R191, R193,
R196). -/
def State.admits (s : State) (cls : RequestClass) : Bool :=
  s.takesFrame && (classRefusal cls s.te.winder).isNone

/-- The port once a request has been answered: HUNTING with nothing gathered, and a reply PENDING that
carries the result code and the data (R192, R194, R197, R207). -/
def State.answered (replyKind tag : Byte) (code : ResultCode) (data : List Byte) (s : State) : State :=
  { s with
    link := { s.link with
      receive := .hunting, buffer := [], replyState := .pending,
      reply := frameBytes s.link.address tag replyKind (le8 code.code ++ data) } }

/-- The result code byte of the reply in preparation (R197, R207). -/
def State.resultByte (s : State) : Byte := s.link.reply.getD 5 0xFF

/-- The bytes that arrive on the line are taken one after another (R192). -/
def State.receiveBytes (bs : List Byte) (s : State) : State := bs.foldl (fun t b => t.receiveByte b) s

/-- The receiver waits for a start byte, and the line is heard (R191, R192, R194). -/
def State.listens (s : State) : Prop :=
  s.te.winder ≠ .checking ∧ s.link.replyState ≠ .sending ∧ s.link.receive = .hunting ∧
    s.link.buffer = []

/-! ### Records in range -/

/-- A level record holds values of R6. -/
def LevelInRange (l : Level) : Prop :=
  depthInRange l.depth = true ∧ l.label.length ≤ 12 ∧
    ∀ b ∈ l.label, 0x20 ≤ b.toNat ∧ b.toNat ≤ 0x7E

/-- A drum record passes the checks of R10. -/
def DrumInRange (d : Drum) : Prop :=
  layersWellFormed d.layers = true ∧ 1 ≤ d.tolerance ∧ d.tolerance ≤ 1000 ∧
    ∀ l ∈ d.layers, l.start < 2 ^ 31

/-- The number of coefficients follows the kind, and each is in range (R11, R12). -/
def stretchFits : ConvKind → Stretch → Prop
  | .counterweight, .single k => k ≤ 5000
  | .cage, .perClass e q m r | .skip, .perClass e q m r =>
    e ≤ 5000 ∧ q ≤ 5000 ∧ m ≤ 5000 ∧ r ≤ 5000
  | .counterweight, .perClass .. | .cage, .single _ | .skip, .single _ => False

/-- The pitch of the layer in which a count from 0 upward lies: the last layer that starts at or before it
(R29). -/
def pitchAt (layers : List Layer) (n : Nat) : Nat :=
  ((layers.filter fun l => l.start ≤ (n : Int)).getLast?.map Layer.pitch).getD 0

/-- A conveyance record passes the checks of R12. -/
def ConveyanceInRange (c : Conv) (v : Conveyance) : Prop :=
  kindAllowed c v.kind = true ∧ (v.decks = 1 ∨ v.decks = 2) ∧ 1000 ≤ v.spacing ∧ v.spacing ≤ 10000 ∧
    depthInRange v.top = true ∧ depthInRange v.bottom = true ∧ v.top < v.bottom ∧
    v.ropeOffset ≤ 300000 ∧ stretchFits v.kind v.stretch

/-- A Limits record passes the tests of R15. -/
def LimitsInRange (l : Limits) : Prop :=
  (∀ x ∈ limitRanges.zip (Limits.fields l), x.1.1 ≤ x.2 ∧ x.2 ≤ x.1.2) ∧ l.aDec ≤ l.aRet

/-- A watch entry holds values of R146 and R147 and is not bound. -/
def WatchInRange (w : WatchEntry) : Prop :=
  depthInRange w.depth = true ∧ w.bound = none ∧
    (∀ t, w.trip = some t → 1 ≤ t ∧ t ≤ 65535) ∧ (w.binding = .forced → w.trip = none) ∧
    ∀ c, w.action = .slow c → 100 ≤ c ∧ c ≤ 20000

/-! ### The laws of the manual -/

/-- The Event Queue holds at most 32 records (R200). -/
def State.eventLaw (s : State) : Prop := s.link.events.length ≤ Config.eventCapacity

/-- The Later-Fault List holds at most 15 records, and none while the First-Fault Record is empty
(R185); no occurrence count stands above 255 (R174). -/
def State.faultLaw (s : State) : Prop :=
  s.fm.later.length ≤ Config.laterCapacity ∧ (s.fm.first = none → s.fm.later = []) ∧
    ∀ n ∈ s.fm.counts.toList, n ≤ 255

/-- Every severity of a description is at least its floor (R173). -/
def floorsKept (d : Description) : Prop :=
  ∀ k : FaultKind, floorOf k ≤ (d.severities.toList[k.idx]?).getD 0

/-- The stored severity of every fault kind is at least its floor, in the working description and in a
stored copy that the power-on load would take (R173). -/
def State.severityLaw (s : State) : Prop :=
  floorsKept s.ds.desc ∧ floorsKept (StoredCopy.description s.ds.stored)

/-- The law of the Trip Queue (R49): at most 12 records, no two of one id, the head ACTIVE exactly in the
states of an active trip, and no other record ACTIVE. -/
def State.queueLaw (s : State) : Prop :=
  s.tq.length ≤ Config.queueCapacity ∧ (s.tq.map TripRecord.id).Nodup ∧
    s.activeHead.isSome = s.te.winder.tripActive ∧ ∀ r ∈ s.tq.tail, r.active = false

/-- The law of the reference (R79): outside WINDING and STOPPING the previous reference is 0; inside them
it is at most the trip speed limit, and 0 once the landing latch has set it in a landing. The rest step is
used in the landing and in STOPPING alone (R116). -/
def State.referenceLaw (s : State) : Prop :=
  (s.te.winder.moving = false → s.rg.refPrev = 0) ∧
    (s.te.winder.moving = true → s.rg.refPrev ≤ s.rg.limit) ∧
    (s.te.winder.moving = false → s.te.rest = .none) ∧
    (s.te.winder = .winding → s.te.rest ≠ .none → s.rg.latch = true ∧ s.rg.refPrev = 0)

/-- A cage trip of mode MATERIAL or INSPECTION (R167). -/
def declutchedTrip : TripBody → Bool
  | .cage m _ _ => m = .material || m = .inspection
  | .skip .. => false

/-- The law of the clutch (R167): while the clutch state is not ENGAGED, any ACTIVE trip is a cage trip of
mode MATERIAL or INSPECTION whose trip speed limit is at most the declutched speed. -/
def State.clutchLaw (s : State) : Prop :=
  s.cc.state ≠ .engaged → ∀ r, s.activeHead = some r →
    declutchedTrip r.body = true ∧ s.rg.limit ≤ s.limits.declutchedSpeed

end Sys2Proof.Machine
end

