-- ==== Sys2Proof/WellFormed.lean ====
section
/-! DEFINITION. What the outside world can really send. The step itself is total on every command: these
checks say which commands the plant and the line can produce. -/

namespace Sys2Proof

/-- The request kinds of R198. -/
def requestKinds : List Byte :=
  [0x01, 0x02, 0x03, 0x04, 0x05, 0x06, 0x07, 0x08, 0x09, 0x0A,
   0x10, 0x11, 0x12, 0x13, 0x14, 0x15, 0x16, 0x17, 0x18, 0x19, 0x1A, 0x1B, 0x1C,
   0x20, 0x21, 0x22, 0x23, 0x24, 0x25, 0x26, 0x27, 0x28, 0x29, 0x2A, 0x2B, 0x2C, 0x2D, 0x2E, 0x2F]

/-- A frame carries at most 200 payload bytes (R207). -/
def payloadFits (p : List Byte) : Bool := p.length ≤ 200

/-- Each of the five blocks takes the Sample record once (section 2, R47). -/
def blocksOnce (order : List SampleBlock) : Bool :=
  order.length = 5 ∧ .reference ∈ order ∧ .envelope ∈ order ∧ .watch ∈ order ∧ .clutch ∈ order
    ∧ .executive ∈ order

/-- An edge is stamped no longer before it is taken than R25's signed difference allows. -/
def ageFits (age : Nat) : Bool := age < 2 ^ 31

/-- The check of a command. -/
def wellFormed : Instr → Bool
  | .sample _ _ order => blocksOnce order
  | .markEdge _ _ age => ageFits age
  | .unknownKind _ _ kind payload => !requestKinds.contains kind && payloadFits payload
  | .askIdentity _ _ p | .askStatus _ _ p | .askPosition _ _ p | .askQueue _ _ p
  | .takeEvents _ _ p | .askFaults _ _ p | .readFaultLog _ _ p | .ackFault _ _ p
  | .clearFaultLog _ _ p | .askWatch _ _ p | .putLevel _ _ p | .askLevel _ _ p
  | .putMark _ _ p | .askMark _ _ p | .putDrum _ _ p | .askDrum _ _ p
  | .putConveyance _ _ p | .askConveyance _ _ p | .putLimits _ _ p | .askLimits _ _ p
  | .putSeverity _ _ p | .commit _ _ p | .setDatum _ _ p | .setMode _ _ p | .queueTrip _ _ p
  | .queueSkipCycles _ _ p | .withdraw _ _ p | .prepare _ _ p | .start _ _ p | .stop _ _ p
  | .retarget _ _ p | .setWatch _ _ p | .clearWatch _ _ p | .clutchOut _ _ p | .clutchIn _ _ p
  | .resetTrip _ _ p | .clearLockout _ _ p | .restart _ _ p => payloadFits p
  | .powerOn _ | .checkingEnd _ | .clutchPowerOnRead _ | .runLost _ _ | .driveNotFollowing _
  | .tripOvertime _ | .signalOkAsserted _ | .shaftStopAsserted _ | .emergencyInOpen _
  | .gateOpens _ _ | .brakeAppliedAsserted _ | .bBrakeAppliedAsserted _
  | .clutchSwitchChange _ _ _ | .skipLoadedAsserted _ | .skipDumpedAsserted _
  | .signalWaitExpiry _ | .torqueWaitExpiry _ | .releaseWaitExpiry _ | .settleWaitExpiry _
  | .brakeTimerExpiry _ | .loadWaitExpiry _ | .dumpWaitExpiry _ | .clutchReleaseTimeout _
  | .clutchEngageTimeout _ | .storeWriteEnd _ _ | .attnPulseEnd _ | .frameGapTimeout _
  | .frameDiscard _ _ | .replyBegin _ | .replyEnd _ | .setServiceOn _ _ | .setServiceOff _ _
  | .byteReceived _ _ => true

end Sys2Proof
end

