-- ==== Sys2Proof/Certificates/Slice0/Obligations.lean ====
section
/-! DEFINITION. The statements about the WM-24: what its commands do, what they leave, and the laws that every
step keeps. -/

open Sys2Proof Sys2Proof.Machine

/-! ### The queue of commands and the port -/

/-- A step takes the command at the front of the queue: it is that command's meaning on the state with the
queue's rest. With nothing waiting the device idles, which is the model's choice (log 1). -/
def Obligations.StepTakesFrontCommandOrIdles : Prop :=
  (∀ (c : Instr) (rest : List Instr) (s : State),
    step { s with pending := c :: rest } = exec c { s with pending := rest }) ∧
  ∀ s : State, s.pending = [] → step s = .next s

/-- A byte on the line (R192): not heard in CHECKING or while a reply is sent; a start byte begins a
frame; a byte of a frame is gathered; a length outside 2 to 202 abandons it. A gap in a frame and a
discarded frame leave the receiver HUNTING; a reply that begins makes the reply state SENDING, and its end
IDLE; nothing else changes (R192 to R194). That FRAME_DISCARD drops what is gathered whichever test failed
is the model's choice (log 32). -/
def Obligations.ReceiverAndReplyStates : Prop :=
  (∀ (e : Elapse) (b : Byte) (s : State),
    let s0 := s.elapse e
    let bytes := s.link.buffer ++ [b]
    let n := (bytes.getD 2 0).toNat
    ((s.te.winder = .checking ∨ s.link.replyState = .sending) → exec (.byteReceived e b) s = .next s0) ∧
    (s.te.winder ≠ .checking → s.link.replyState ≠ .sending →
      (s.link.receive = .hunting →
        exec (.byteReceived e b) s =
          .next (if b = 0xA5 then
            { s0 with link := { s.link with receive := .receiving, buffer := [b] } } else s0)) ∧
      (s.link.receive = .receiving → bytes.length < 3 →
        exec (.byteReceived e b) s = .next { s0 with link := { s.link with buffer := bytes } }) ∧
      (s.link.receive = .receiving → bytes.length = 3 → (n < 2 ∨ 202 < n) →
        exec (.byteReceived e b) s =
          .next { s0 with link := { s.link with receive := .hunting, buffer := [] } }) ∧
      (s.link.receive = .receiving → 3 ≤ bytes.length → 2 ≤ n → n ≤ 202 → bytes.length < n + 5 →
        exec (.byteReceived e b) s = .next { s0 with link := { s.link with buffer := bytes } }))) ∧
  ∀ (e : Elapse) (s : State),
    let s0 := s.elapse e
    (s.link.receive = .receiving →
      exec (.frameGapTimeout e) s =
        .next { s0 with link := { s.link with receive := .hunting, buffer := [] } }) ∧
    (∀ why, exec (.frameDiscard e why) s =
      .next { s0 with link := { s.link with receive := .hunting, buffer := [] } }) ∧
    (s.link.replyState = .pending →
      exec (.replyBegin e) s =
        .next { s0 with link := { s.link with
          receive := .hunting, buffer := [], replyState := .sending } }) ∧
    (s.link.replyState = .sending →
      exec (.replyEnd e) s =
        .next { s0 with link := { s.link with replyState := .idle, reply := [] } })

/-- Every frame of R207 that a listening unit receives whole is taken as the request it carries: tag, kind
and payload are read back from the bytes that spell them. A frame with another CRC, or for another
address, is gathered whole and dropped: no state of the device changes (R193 tests 1 and 2). The command
that brings the last byte of a frame takes the request, or drops the frame (R192, R193). -/
def Obligations.WholeFrameIsTakenAndADamagedOneIsNot : Prop :=
  (∀ (tag kind : Byte) (p : List Byte) (s : State),
    s.listens → s.link.address < 256 → p.length ≤ 200 →
      s.receiveBytes (frameBytes s.link.address tag kind p) = s.request kind tag p) ∧
  (∀ (address : Nat) (tag kind c0 c1 : Byte) (p : List Byte) (s : State),
    s.listens → s.link.address < 256 → address < 256 → p.length ≤ 200 →
      (address ≠ s.link.address ∨
        le16 (crc16 (le8 address ++ le8 (p.length + 2) ++ [tag, kind] ++ p)).toNat ≠ [c0, c1]) →
      s.receiveBytes ([0xA5] ++ (le8 address ++ le8 (p.length + 2) ++ [tag, kind] ++ p) ++ [c0, c1]) = s) ∧
  ∀ (e : Elapse) (address : Nat) (tag kind c0 c1 : Byte) (p : List Byte) (s : State),
    s.listens → s.link.address < 256 → address < 256 → p.length ≤ 200 →
    let body := le8 address ++ le8 (p.length + 2) ++ [tag, kind] ++ p
    let ours := address = s.link.address ∧ le16 (crc16 body).toNat = [c0, c1]
    let gathered : State :=
      { s with link := { s.link with receive := .receiving, buffer := [0xA5] ++ body ++ [c0] } }
    (ours → exec (.byteReceived e c1) gathered = .next ((s.elapse e).request kind tag p)) ∧
    (¬ ours → exec (.byteReceived e c1) gathered = .next (s.elapse e))

/-- The checks of the port in their order: a request of an unlisted kind is refused with UNKNOWN_KIND, its
reply kind being the kind plus 80h, or FFh for a kind of 80h or above; then the form, then the class by
the table of R196, and only then the request is its owner's; a request that completes while a reply is
PENDING is dropped (R193 test 3, R195 to R197). That a request that is not taken, in CHECKING or while a
reply is PENDING or SENDING, leaves the receiver HUNTING with nothing gathered is the model's choice (log
32). -/
def Obligations.PortChecksKindThenFormThenClass : Prop :=
  (∀ (e : Elapse) (tag kind : Byte) (p : List Byte) (s : State),
    s.takesFrame = true → kind ∉ requestKinds →
      exec (.unknownKind e tag kind p) s =
        .next ((s.elapse e).answered (if kind.toNat < 0x80 then kind + 0x80 else 0xFF) tag .unknownKind [])) ∧
  (∀ w : WinderState, w ≠ .checking →
    classRefusal .any w = none ∧ classRefusal .special w = none ∧
    classRefusal .stood w = (if w = .stoodDown then none else some .notStoodDown) ∧
    classRefusal .service w =
      (if w = .stoodDown then some .notInService else if w = .lockedOut then some .locked else none)) ∧
  ∀ (kind : Byte) (cls : RequestClass) (form : List Byte → Bool)
    (owner : List Byte → State → Answered) (tag : Byte) (p : List Byte) (s : State),
    let t := State.serve kind cls form owner tag p s
    (s.takesFrame = false →
      t = { s with link := { s.link with receive := .hunting, buffer := [] } }) ∧
    (s.takesFrame = true → form p = false → t = s.answered (kind + 0x80) tag .badForm []) ∧
    (∀ c, s.takesFrame = true → form p = true → classRefusal cls s.te.winder = some c →
      t = s.answered (kind + 0x80) tag c []) ∧
    (s.takesFrame = true → form p = true → classRefusal cls s.te.winder = none →
      t = State.reply tag (kind + 0x80) (owner p s.hunt))

/-- A request that is refused changes nothing but the port: every block, the Event Queue and the lines
stand as they were (R199). A request that completes while a reply is not IDLE, or in CHECKING, is not
taken, whatever its kind (R191, R193 test 3). That an untaken request row leaves the receiver HUNTING is
the model's choice (log 32). -/
def Obligations.UntakenAndRefusedRequestsChangeNothing : Prop :=
  (∀ (kind tag : Byte) (p : List Byte) (s : State),
    s.takesFrame = true →
      (s.request kind tag p).resultByte ≠ 0x00 → (s.request kind tag p).resultByte ≠ 0x01 →
      s.request kind tag p =
        { s with link := { s.link with
          receive := .hunting, buffer := [], replyState := .pending,
          reply := (s.request kind tag p).link.reply } }) ∧
  ∀ (kind tag : Byte) (p : List Byte) (s : State), s.takesFrame = false →
    s.request kind tag p = { s with link := { s.link with receive := .hunting, buffer := [] } }

/-- Every request row is its kind of R198: the command and the frame of that kind do the same, by the
port's checks for the kind's class (R196) and payload form (R195, R198), and the owner's answer. That
UNKNOWN_KIND with a listed kind is taken as that kind is the model's choice (log 32). -/
def Obligations.RequestRowsAreServed : Prop :=
  ∀ (e : Elapse) (tag : Byte) (p : List Byte) (s : State),
    let s0 := s.elapse e
    (exec (.askIdentity e tag p) s = .next (s0.request 0x01 tag p) ∧
      s.request 0x01 tag p = State.serve 0x01 .any (sized 0) askIdentity tag p s) ∧
    (exec (.askStatus e tag p) s = .next (s0.request 0x02 tag p) ∧
      s.request 0x02 tag p = State.serve 0x02 .any (sized 0) askStatus tag p s) ∧
    (exec (.askPosition e tag p) s = .next (s0.request 0x03 tag p) ∧
      s.request 0x03 tag p = State.serve 0x03 .any (sized 0) askPosition tag p s) ∧
    (exec (.askQueue e tag p) s = .next (s0.request 0x04 tag p) ∧
      s.request 0x04 tag p = State.serve 0x04 .any (sized 0) askQueue tag p s) ∧
    (exec (.takeEvents e tag p) s = .next (s0.request 0x05 tag p) ∧
      s.request 0x05 tag p = State.serve 0x05 .any (sized 1) takeEvents tag p s) ∧
    (exec (.askFaults e tag p) s = .next (s0.request 0x06 tag p) ∧
      s.request 0x06 tag p = State.serve 0x06 .any (sized 0) askFaults tag p s) ∧
    (exec (.readFaultLog e tag p) s = .next (s0.request 0x07 tag p) ∧
      s.request 0x07 tag p = State.serve 0x07 .any (sized 1) readFaultLog tag p s) ∧
    (exec (.ackFault e tag p) s = .next (s0.request 0x08 tag p) ∧
      s.request 0x08 tag p = State.serve 0x08 .any (sized 1) ackFault tag p s) ∧
    (exec (.clearFaultLog e tag p) s = .next (s0.request 0x09 tag p) ∧
      s.request 0x09 tag p = State.serve 0x09 .any (sized 0) clearFaultLog tag p s) ∧
    (exec (.askWatch e tag p) s = .next (s0.request 0x0A tag p) ∧
      s.request 0x0A tag p = State.serve 0x0A .any (sized 0) askWatch tag p s) ∧
    (exec (.putLevel e tag p) s = .next (s0.request 0x10 tag p) ∧
      s.request 0x10 tag p =
        State.serve 0x10 .stood formPutLevel (whenStoreIdle putLevel) tag p s) ∧
    (exec (.askLevel e tag p) s = .next (s0.request 0x11 tag p) ∧
      s.request 0x11 tag p = State.serve 0x11 .any (sized 1) askLevel tag p s) ∧
    (exec (.putMark e tag p) s = .next (s0.request 0x12 tag p) ∧
      s.request 0x12 tag p =
        State.serve 0x12 .stood formPutMark (whenStoreIdle putMark) tag p s) ∧
    (exec (.askMark e tag p) s = .next (s0.request 0x13 tag p) ∧
      s.request 0x13 tag p = State.serve 0x13 .any (sized 1) askMark tag p s) ∧
    (exec (.putDrum e tag p) s = .next (s0.request 0x14 tag p) ∧
      s.request 0x14 tag p =
        State.serve 0x14 .stood formPutDrum (whenStoreIdle putDrum) tag p s) ∧
    (exec (.askDrum e tag p) s = .next (s0.request 0x15 tag p) ∧
      s.request 0x15 tag p = State.serve 0x15 .any (sized 1) askDrum tag p s) ∧
    (exec (.putConveyance e tag p) s = .next (s0.request 0x16 tag p) ∧
      s.request 0x16 tag p =
        State.serve 0x16 .stood formPutConveyance (whenStoreIdle putConveyance) tag p s) ∧
    (exec (.askConveyance e tag p) s = .next (s0.request 0x17 tag p) ∧
      s.request 0x17 tag p = State.serve 0x17 .any (sized 1) askConveyance tag p s) ∧
    (exec (.putLimits e tag p) s = .next (s0.request 0x18 tag p) ∧
      s.request 0x18 tag p =
        State.serve 0x18 .stood (sized 80) (whenStoreIdle putLimits) tag p s) ∧
    (exec (.askLimits e tag p) s = .next (s0.request 0x19 tag p) ∧
      s.request 0x19 tag p = State.serve 0x19 .any (sized 0) askLimits tag p s) ∧
    (exec (.putSeverity e tag p) s = .next (s0.request 0x1A tag p) ∧
      s.request 0x1A tag p =
        State.serve 0x1A .stood (sized 2) (whenStoreIdle putSeverity) tag p s) ∧
    (exec (.commit e tag p) s = .next (s0.request 0x1B tag p) ∧
      s.request 0x1B tag p = State.serve 0x1B .stood (sized 0) (whenStoreIdle commit) tag p s) ∧
    (exec (.setDatum e tag p) s = .next (s0.request 0x1C tag p) ∧
      s.request 0x1C tag p = State.serve 0x1C .special formSetDatum datumRequest tag p s) ∧
    (exec (.setServiceOn e tag) s = .next (s0.request 0x20 tag [1]) ∧
      s.request 0x20 tag p = State.serve 0x20 .special formSwitch setService tag p s) ∧
    (exec (.setServiceOff e tag) s = .next (s0.request 0x20 tag [0]) ∧
      s.request 0x20 tag p = State.serve 0x20 .special formSwitch setService tag p s) ∧
    (exec (.setMode e tag p) s = .next (s0.request 0x21 tag p) ∧
      s.request 0x21 tag p = State.serve 0x21 .service formSwitch setMode tag p s) ∧
    (exec (.queueTrip e tag p) s = .next (s0.request 0x22 tag p) ∧
      s.request 0x22 tag p = State.serve 0x22 .service formQueueTrip queueTrip tag p s) ∧
    (exec (.queueSkipCycles e tag p) s = .next (s0.request 0x23 tag p) ∧
      s.request 0x23 tag p = State.serve 0x23 .service formQueueSkip queueSkip tag p s) ∧
    (exec (.withdraw e tag p) s = .next (s0.request 0x24 tag p) ∧
      s.request 0x24 tag p = State.serve 0x24 .service (sized 2) withdraw tag p s) ∧
    (exec (.prepare e tag p) s = .next (s0.request 0x25 tag p) ∧
      s.request 0x25 tag p = State.serve 0x25 .service (sized 2) prepare tag p s) ∧
    (exec (.start e tag p) s = .next (s0.request 0x26 tag p) ∧
      s.request 0x26 tag p = State.serve 0x26 .service (sized 2) start tag p s) ∧
    (exec (.stop e tag p) s = .next (s0.request 0x27 tag p) ∧
      s.request 0x27 tag p = State.serve 0x27 .service (sized 2) stop tag p s) ∧
    (exec (.retarget e tag p) s = .next (s0.request 0x28 tag p) ∧
      s.request 0x28 tag p = State.serve 0x28 .service formRetarget retarget tag p s) ∧
    (exec (.setWatch e tag p) s = .next (s0.request 0x29 tag p) ∧
      s.request 0x29 tag p = State.serve 0x29 .service (sized 14) setWatchPoint tag p s) ∧
    (exec (.clearWatch e tag p) s = .next (s0.request 0x2A tag p) ∧
      s.request 0x2A tag p = State.serve 0x2A .service (sized 1) clearWatch tag p s) ∧
    (exec (.clutchOut e tag p) s = .next (s0.request 0x2B tag p) ∧
      s.request 0x2B tag p = State.serve 0x2B .service (sized 0) clutchOut tag p s) ∧
    (exec (.clutchIn e tag p) s = .next (s0.request 0x2C tag p) ∧
      s.request 0x2C tag p = State.serve 0x2C .service (sized 0) clutchIn tag p s) ∧
    (exec (.resetTrip e tag p) s = .next (s0.request 0x2D tag p) ∧
      s.request 0x2D tag p = State.serve 0x2D .service (sized 0) resetRequest tag p s) ∧
    (exec (.clearLockout e tag p) s = .next (s0.request 0x2E tag p) ∧
      s.request 0x2E tag p = State.serve 0x2E .special (sized 0) clearLockout tag p s) ∧
    (exec (.restart e tag p) s = .next (s0.request 0x2F tag p) ∧
      s.request 0x2F tag p = State.serve 0x2F .special (sized 0) restart tag p s)

/-! ### Questions and the requests of the event queue and the fault log -/

/-- A question is answered OK with its data and changes nothing but the port (R47, R59, R148, R187, R189,
R198, R205, R206, and the ASK requests of the description, R5). A parameter outside its range is refused
with BAD_RANGE, and nothing but the port changes: a log start above 15, a level index above 47, a mark
index above 23, a conveyance code other than 1 and 2, a watch id above 15 and not ALL. The one-byte counts
ahead of the records of ASK_QUEUE and ASK_WATCH are the model's choice of width (log 34). -/
def Obligations.QuestionsAnswerOrRefuseTheirParameter : Prop :=
  (∀ (e : Elapse) (tag : Byte) (s : State), s.takesFrame = true →
    let s0 := s.elapse e
    exec (.askIdentity e tag []) s = .next (s0.answered 0x81 tag .ok (identityBytes s.link)) ∧
    exec (.askStatus e tag []) s = .next (s0.answered 0x82 tag .ok (statusSummary s0 s.distanceToGo)) ∧
    exec (.askPosition e tag []) s = .next (s0.answered 0x83 tag .ok (positionBytes s)) ∧
    exec (.askQueue e tag []) s =
      .next (s0.answered 0x84 tag .ok (le8 s.tq.length ++ s.tq.flatMap tripBytes)) ∧
    exec (.askFaults e tag []) s = .next (s0.answered 0x86 tag .ok (faultsBytes s)) ∧
    (∀ b : Byte, b.toNat ≤ 15 →
      exec (.readFaultLog e tag [b]) s = .next (s0.answered 0x87 tag .ok (logBytes s.fm b.toNat))) ∧
    exec (.askWatch e tag []) s =
      .next (s0.answered 0x8A tag .ok (le8 (tableEntries s.wt).length ++
        (tableEntries s.wt).flatMap fun x => watchBytes x.1 x.2)) ∧
    (∀ b : Byte, b.toNat < 48 →
      exec (.askLevel e tag [b]) s =
        .next (s0.answered 0x91 tag .ok (statusBytes s.ds ++ levelBytes b.toNat (s.level b.toNat)))) ∧
    (∀ b : Byte, b.toNat < 24 →
      exec (.askMark e tag [b]) s =
        .next (s0.answered 0x93 tag .ok (statusBytes s.ds ++ markBytes b.toNat (s.mark b.toNat)))) ∧
    (∀ c : Conv,
      exec (.askDrum e tag (le8 c.code)) s =
          .next (s0.answered 0x95 tag .ok (statusBytes s.ds ++ drumBytes c (s.ds.desc.drums.get c))) ∧
        exec (.askConveyance e tag (le8 c.code)) s =
          .next (s0.answered 0x97 tag .ok (statusBytes s.ds ++ conveyanceBytes c (s.convRec c)))) ∧
    exec (.askLimits e tag []) s =
      .next (s0.answered 0x99 tag .ok (statusBytes s.ds ++ limitsBytes s.limits))) ∧
  ∀ (e : Elapse) (tag b : Byte) (s : State), s.takesFrame = true →
    let s0 := s.elapse e
    (15 < b.toNat → exec (.readFaultLog e tag [b]) s = .next (s0.answered 0x87 tag .badRange [])) ∧
    (48 ≤ b.toNat → exec (.askLevel e tag [b]) s = .next (s0.answered 0x91 tag .badRange [])) ∧
    (24 ≤ b.toNat → exec (.askMark e tag [b]) s = .next (s0.answered 0x93 tag .badRange [])) ∧
    (b ≠ 1 → b ≠ 2 →
      exec (.askDrum e tag [b]) s = .next (s0.answered 0x95 tag .badRange []) ∧
        exec (.askConveyance e tag [b]) s = .next (s0.answered 0x97 tag .badRange [])) ∧
    (15 < b.toNat → b ≠ 0xFF → s.admits .service = true →
      exec (.clearWatch e tag [b]) s = .next (s0.answered 0xAA tag .badRange []))

/-- The identity reply holds the fields of R205 in their order, and is 43 bytes with its result code. The
status reply, with its result code, is 54 bytes, each field at its offset, in a frame of 61 bytes, the
output lines as the sum of the weights of those asserted (R206, R209). That the phase, the rest step, the
stop reason and the dwell kind read 0 in the states that R118 does not name for them is the model's choice
(log 35). -/
def Obligations.IdentityAndStatusFields : Prop :=
  (∀ l : ControlLink, l.address < 256 →
    let b := identityBytes l
    b.length + 1 = 43 ∧
    b.take 16 = [0x41, 0x54, 0x48, 0x4F, 0x4C, 0x45, 0x4E] ++ List.replicate 9 0x20 ∧
    (b.drop 16).take 16 =
      [0x43, 0x41, 0x4C, 0x4B, 0x4F, 0x52, 0x4F, 0x20, 0x57, 0x4D, 0x2D, 0x32, 0x34]
        ++ List.replicate 3 0x20 ∧
    octet b 32 = 1 ∧ octet b 33 = 0 ∧ octet b 34 = l.address ∧ octet b 35 = l.fast.toNat ∧
    (b.drop 36) = [48, 24, 16, 12, 32, 15]) ∧
  (∀ (e : Elapse) (tag : Byte) (s : State), s.takesFrame = true →
    exec (.askStatus e tag []) s =
      .next ((s.elapse e).answered 0x82 tag .ok (statusSummary (s.elapse e) s.distanceToGo))) ∧
  ∀ (address tag : Byte) (s : State),
    s.activeId < 2 ^ 16 → s.es.tier2 < 2 ^ 16 → s.es.env ≤ s.es.tier2 → s.es.margin ≤ s.es.tier2 →
    s.es.tier1 ≤ s.es.tier2 → s.link.events.length ≤ 32 →
    (∀ c, depthInRange (s.conv c).depth = true ∧ mag (s.conv c).speed ≤ 65535) →
    mag s.rg.refSent ≤ 65535 → mag s.distanceToGo < 2 ^ 31 →
    let b := le8 ResultCode.ok.code ++ statusSummary s s.distanceToGo
    let weight (line : Bool) (n : Nat) : Nat := if line = true then n else 0
    b.length = 54 ∧ octet b 0 = 0 ∧ octet b 1 = s.te.winder.code ∧
    octet b 2 = (if s.te.winder = .preparing then s.te.phase.code else 0) ∧
    octet b 3 = (if s.te.winder = .winding ∨ s.te.winder = .stopping then s.te.rest.code else 0) ∧
    octet b 4 = (if s.te.winder = .stopping then s.te.stopReason.code else 0) ∧
    octet b 5 = (if s.te.winder = .dwell then s.te.dwell.code else 0) ∧
    octet b 6 = s.te.unitMode.code ∧ octet b 7 = s.cc.state.code ∧ octet b 8 = s.rg.label.code ∧
    octet b 9 = (s.conv .a).certainty.code ∧ octet b 10 = (s.conv .b).certainty.code ∧
    fieldNat b 11 2 = s.activeId ∧
    fieldInt b 13 = (s.conv .a).depth ∧ fieldInt b 17 = (s.conv .b).depth ∧
    fieldInt b 21 = (s.conv .a).speed ∧ fieldInt b 25 = (s.conv .b).speed ∧
    fieldInt b 29 = s.rg.refSent ∧ fieldNat b 33 2 = s.es.env ∧ fieldNat b 35 2 = s.es.margin ∧
    fieldNat b 37 2 = s.es.tier1 ∧ fieldNat b 39 2 = s.es.tier2 ∧
    fieldInt b 41 = s.distanceToGo ∧ octet b 45 = s.pendingKinds.length ∧
    octet b 46 = s.link.events.length ∧ fieldNat b 47 2 =
      weight s.safety 1 + weight s.brakeRelease 2 + weight s.torqueReq 4 + weight s.bBrakeHold 8 +
      weight s.clutchCmd 16 + weight s.stopReq 32 + weight s.advise 64 + weight s.lockoutLamp 128 +
      weight s.loadPermit 256 + weight s.attn 512 ∧
    octet b 49 = (match s.fm.first with | none => 0 | some f => f.kind.code) ∧
    fieldNat b 50 4 = s.unitTime ∧
    (frameBytes address.toNat tag 0x82 b).length = 61 ∧ octet (frameBytes address.toNat tag 0x82 b) 2 = 56

/-- The contents of replies, each item at its offset: ASK_POSITION, the conveyances, the drums and the
passage states (R47); a record of ASK_QUEUE, 15 bytes, the records one after another (R59); an entry of
ASK_WATCH, 12 bytes, the entries one after another (R148, R198); the three status bytes ahead of a
description record (R3, R5); ASK_FAULTS, the counts and the 31 rows (R187); READ_FAULT_LOG, the number of
later records, with start 0 the First-Fault Record or its empty mark and at most 8 later records, and with
start n at most 8 from position n (R184, R185, R189). The widths that R198 leaves open, the pending and
record counts of 1 byte and the degraded count of 4, are the model's choice (log 34). -/
def Obligations.RepliesCarryWhatTheyShow : Prop :=
  let fits (x : Int) : Prop := -2 ^ 31 ≤ x ∧ x < 2 ^ 31
  (∀ s : State,
    (∀ c, let m := s.conv c
      fits m.depth ∧ fits m.speed ∧ fits m.correction ∧ fits m.datumCount ∧ fits m.datumDepth ∧
      fits m.sDatum ∧ m.degraded < 2 ^ 32 ∧ fits (s.front c).primary.count ∧
      fits (s.front c).check.count ∧ (∀ o, (s.front c).offset = some o → fits o) ∧
      fits ((s.drum c).paidOut.tdiv 1000000)) →
    let b := positionBytes s
    b.length = 122 ∧
    (∀ c, let m := s.conv c
      let i := if c = .a then 0 else 30
      fieldInt b i = m.depth ∧ fieldInt b (i + 4) = m.speed ∧ octet b (i + 8) = m.certainty.code ∧
      octet b (i + 9) = m.loadClass.code ∧ fieldInt b (i + 10) = m.correction ∧
      fieldInt b (i + 14) = m.datumCount ∧ fieldInt b (i + 18) = m.datumDepth ∧
      fieldInt b (i + 22) = m.sDatum ∧ fieldNat b (i + 26) 4 = m.degraded) ∧
    (∀ c, let f := s.front c
      let i := if c = .a then 60 else 79
      fieldInt b i = f.primary.count ∧ octet b (i + 4) = f.primary.valid.toNat ∧
      fieldInt b (i + 5) = f.check.count ∧ octet b (i + 9) = f.check.valid.toNat ∧
      fieldInt b (i + 10) = f.offset.getD (-2 ^ 31) ∧ octet b (i + 14) = (s.drum c).run.code ∧
      fieldInt b (i + 15) = (s.drum c).paidOut.tdiv 1000000) ∧
    ∀ i, i < 24 → octet b (98 + i) = (if (s.mark i).isSome then (s.passage i).code else 255)) ∧
  (∀ r : TripRecord, r.id < 2 ^ 16 → r.override.getD 0 < 2 ^ 16 →
    let b := tripBytes r
    b.length = 15 ∧ fieldNat b 0 2 = r.id ∧ octet b 4 = r.active.toNat ∧
    octet b 5 = r.interrupted.toNat ∧ fieldNat b 13 2 = r.override.getD 0 ∧
    (∀ m x target, r.body = .cage m target x → fits x →
      octet b 2 = 1 ∧ octet b 3 = m.code ∧ fieldInt b 9 = x ∧
      (∀ level deck, target = .station level deck → level < 256 → deck < 256 →
        octet b 6 = 0 ∧ octet b 7 = level ∧ octet b 8 = deck) ∧
      ∀ y, target = .depth y → octet b 6 = 1 ∧ octet b 7 = 0 ∧ octet b 8 = 0) ∧
    ∀ pocket tipple count left leg, r.body = .skip pocket tipple count left leg →
      pocket < 256 → tipple < 256 → count < 2 ^ 16 → left < 2 ^ 16 →
      octet b 2 = 2 ∧ octet b 3 = Mode.rock.code ∧ octet b 6 = leg.code ∧ octet b 7 = pocket ∧
      octet b 8 = tipple ∧ fieldNat b 9 2 = count ∧ fieldNat b 11 2 = left) ∧
  (∀ (rs : List TripRecord) (i : Nat) (h : i < rs.length),
    ((rs.flatMap tripBytes).drop (15 * i)).take 15 = tripBytes rs[i]) ∧
  (∀ s : State, (∀ n ∈ s.fm.counts.toList, n ≤ 255) →
    let b := faultsBytes s
    b.length = 159 ∧ octet b 0 = s.pendingKinds.length ∧
    octet b 1 = (match s.fm.inForce with | none => 255 | some v => v.val) ∧
    octet b 2 = s.stopReq.toNat ∧ octet b 3 = s.advise.toNat ∧
    ∀ k : FaultKind, let i := 4 + 5 * (k.code - 1)
      octet b i = (s.severity k).val ∧ octet b (i + 1) = (floorOf k).val ∧
      octet b (i + 2) = ((defaultSeverities.toList[k.code - 1]?).getD 0).val ∧
      octet b (i + 3) = (s.isPending k).toNat ∧
      octet b (i + 4) = (s.fm.counts.toList[k.code - 1]?).getD 0) ∧
  (∀ (id : Nat) (w : WatchEntry), id < 16 → w.trip.getD 0 < 2 ^ 16 → depthInRange w.depth = true →
    (∀ c, w.action = .slow c → c < 2 ^ 16) → (∀ k x, w.bound = some (k, x) → depthInRange x = true) →
    let b := watchBytes id w
    let signed (i : Nat) : Int := (BitVec.ofNat 24 (fieldNat b i 3)).toInt
    b.length = 12 ∧
    octet b 0 = id + (if w.conv = .b then 16 else 0) + (if w.binding = .tagged then 32 else 0) +
      (if w.persistence = .always then 64 else 0) ∧
    octet b 1 = (match w.facing with | .down => 1 | .up => 2 | .either => 3) +
      4 * (match w.action with | .notify => 1 | .slow _ => 2 | .stop => 3) +
      16 * (match w.bound with
        | none => 0 | some (.notify, _) => 1 | some (.slow, _) => 2 | some (.stop, _) => 3) ∧
    signed 2 = w.depth ∧ fieldNat b 5 2 = (match w.action with | .slow c => c | .notify | .stop => 0) ∧
    fieldNat b 7 2 = w.trip.getD 0 ∧ signed 9 = (match w.bound with | none => 0 | some (_, x) => x)) ∧
  (∀ (ws : List (Nat × WatchEntry)) (i : Nat) (h : i < ws.length),
    ((ws.flatMap fun x => watchBytes x.1 x.2).drop (12 * i)).take 12 = watchBytes ws[i].1 ws[i].2) ∧
  (∀ d : DescriptionStore,
    statusBytes d = [if d.uncommitted = true then 1 else 0,
      match d.storeState with | .idle => 0 | .writing => 1,
      match d.lastWrite with | .none => 0 | .written => 1 | .failed => 2]) ∧
  ∀ f : FaultManager, f.later.length ≤ 15 →
    (∀ r ∈ f.later, r.time < 2 ^ 32 ∧ fits r.depth ∧ r.trip.getD 0 < 2 ^ 16) →
    let later (b : List Byte) (i : Nat) (r : LaterFault) : Prop :=
      octet b i = r.kind.code ∧ octet b (i + 1) = r.severity.val ∧ fieldNat b (i + 2) 4 = r.time ∧
      fieldInt b (i + 6) = r.depth ∧ fieldNat b (i + 10) 2 = r.trip.getD 0
    (∀ n, octet (logBytes f n) 0 = f.later.length) ∧
    (∀ n, 1 ≤ n → n ≤ 15 →
      (logBytes f n).length = 1 + 12 * min 8 (f.later.length - (n - 1)) ∧
      ∀ i (h : n - 1 + i < f.later.length), i < 8 → later (logBytes f n) (1 + 12 * i) f.later[n - 1 + i]) ∧
    (f.first = none → octet (logBytes f 0) 1 = 255 ∧
      (logBytes f 0).length = 2 + 12 * min 8 f.later.length ∧
      ∀ i (h : i < f.later.length), i < 8 → later (logBytes f 0) (2 + 12 * i) f.later[i]) ∧
    ∀ x, f.first = some x → x.time < 2 ^ 32 → x.trip.getD 0 < 2 ^ 16 → x.env < 2 ^ 16 →
      fits x.ref → (∀ c, fits (x.depth.get c) ∧ fits (x.speed.get c)) →
      let b := logBytes f 0
      b.length = 52 + 12 * min 8 f.later.length ∧
      (∀ i (h : i < f.later.length), i < 8 → later b (52 + 12 * i) f.later[i]) ∧
      octet b 1 = x.kind.code ∧ octet b 2 = x.severity.val ∧ fieldNat b 3 4 = x.time ∧
      octet b 7 = x.winder.code ∧ fieldNat b 8 2 = x.trip.getD 0 ∧ octet b 10 = x.label.code ∧
      fieldInt b 11 = x.depth.a ∧ fieldInt b 15 = x.depth.b ∧ fieldInt b 19 = x.speed.a ∧
      fieldInt b 23 = x.speed.b ∧ fieldInt b 27 = x.ref ∧ fieldNat b 31 2 = x.env ∧
      octet b 33 = x.certainty.a.code ∧ octet b 34 = x.certainty.b.code ∧ octet b 35 = x.clutch.code ∧
      fieldNat b 36 4 = x.v1.toNat ∧ fieldNat b 40 4 = x.v2.toNat ∧ fieldNat b 44 4 = x.v3.toNat ∧
      fieldNat b 48 4 = x.v4.toNat

/-- TAKE_EVENTS answers with the oldest records, at most max n, and removes them; a record that carries
the overrun mark clears it; a max n outside 1 to 8 is refused with BAD_RANGE and nothing is removed
(R202). An event record as a reply carries it is 24 bytes, each field at its offset; a reply of k records
carries the result code, k, and the records, 2 + 24 × k bytes, and the first alone may carry the overrun
flag (R202, R208). -/
def Obligations.TakeEventsCarriesTheOldestRecords : Prop :=
  ((∀ (flag : Bool) (r : EventRecord), r.trip < 2 ^ 16 → r.time < 2 ^ 32 →
    let b := eventBytes flag r
    b.length = 24 ∧ octet b 0 = r.kind.code ∧ octet b 1 = (if flag then 1 else 0) ∧
    fieldNat b 2 2 = r.trip ∧ fieldNat b 4 4 = r.time ∧ fieldNat b 8 4 = r.v1.toNat ∧
    fieldNat b 12 4 = r.v2.toNat ∧ fieldNat b 16 4 = r.v3.toNat ∧ fieldNat b 20 4 = r.v4.toNat) ∧
  ∀ (flag : Bool) (r : EventRecord) (rs : List EventRecord),
    let b := le8 ResultCode.ok.code ++ (le8 (rs.length + 1) ++ eventsBytes flag (r :: rs))
    b.length = 2 + 24 * (rs.length + 1) ∧
    (b.drop 2).take 24 = eventBytes flag r ∧
    ∀ i (h : i < rs.length), (b.drop (26 + 24 * i)).take 24 = eventBytes false rs[i]) ∧
  ∀ (e : Elapse) (tag n : Byte) (s : State), s.takesFrame = true →
    let s0 := s.elapse e
    let es := s.link.events.take n.toNat
    (n = 0 ∨ 8 < n.toNat → exec (.takeEvents e tag [n]) s = .next (s0.answered 0x85 tag .badRange [])) ∧
    (1 ≤ n.toNat → n.toNat ≤ 8 →
      exec (.takeEvents e tag [n]) s =
        .next ({ s0 with link := { s.link with
            events := s.link.events.drop n.toNat
            overrun := s.link.overrun && s.link.events.isEmpty } }.answered 0x85 tag .ok
          (le8 es.length ++ eventsBytes s.link.overrun es)))

/-- ACK_FAULT clears the pending flag of the kind named, or every flag, and answers with the number
cleared; a kind outside 1 to 31 and ALL is refused with BAD_RANGE; the log, the counts, the response in
force and the stop order stand. Where it cleared the flag of ENCODER_DISAGREE, both check offsets become
PENDING at standstill, and the disagree marks alone are cleared otherwise (R26, R186). CLEAR_FAULT_LOG
empties the log while no kind is pending, and is refused otherwise; the counts, the response in force and
the stop order stand (R188). The one-byte width of the number cleared is the model's choice (log 34). -/
def Obligations.AcknowledgementAndClearingOfTheLog : Prop :=
  (∀ (e : Elapse) (tag : Byte) (s : State), s.takesFrame = true →
    let s0 := s.elapse e
    let freed (t : State) : State := { t with efe := { t.efe with drums :=
      ⟨{ t.efe.drums.a with
          offset := if s.atStandstill then none else t.efe.drums.a.offset, disagree := false },
       { t.efe.drums.b with
          offset := if s.atStandstill then none else t.efe.drums.b.offset, disagree := false }⟩ } }
    (∀ k : FaultKind,
      let t := { s0 with fm := { s.fm with pending := s.fm.pending.setIfInBounds k.idx false } }
      exec (.ackFault e tag (le8 k.code)) s =
        .next ((if k = .encoderDisagree ∧ s.isPending .encoderDisagree then freed t else t).answered
          0x88 tag .ok (le8 (if s.isPending k then 1 else 0)))) ∧
    let t := { s0 with fm := { s.fm with pending := Vector.replicate 31 false } }
    exec (.ackFault e tag [0xFF]) s =
      .next ((if s.isPending .encoderDisagree then freed t else t).answered
        0x88 tag .ok (le8 s.pendingKinds.length)) ∧
    ∀ b : Byte, b = 0 ∨ (31 < b.toNat ∧ b ≠ 0xFF) →
      exec (.ackFault e tag [b]) s = .next (s0.answered 0x88 tag .badRange [])) ∧
  ∀ (e : Elapse) (tag : Byte) (s : State), s.takesFrame = true →
    let s0 := s.elapse e
    ((∀ k, s.isPending k = false) →
      exec (.clearFaultLog e tag []) s =
        .next ({ s0 with fm := { s.fm with first := none, later := [] } }.answered 0x89 tag .ok [])) ∧
    ((∃ k, s.isPending k = true) →
      exec (.clearFaultLog e tag []) s = .next (s0.answered 0x89 tag .faultsPending []))

/-! ### The description -/

/-- Every record that a request may carry is read back from the bytes that lay it out, and those bytes
pass the form check: a level (R6), a mark (R8), a drum (R9), a conveyance (R11), the Limits record, whose
mode limits are read held to the design speed (R15), and a watch entry (R146). -/
def Obligations.RecordsReadBack : Prop :=
  (∀ (i : Nat) (l : Level), i < 256 → LevelInRange l →
    formPutLevel (levelBytes i (some l)) = true ∧ octet (levelBytes i (some l)) 0 = i ∧
      levelOf (levelBytes i (some l)) = some l) ∧
  (∀ (i : Nat) (m : Mark), i < 256 → depthInRange m.depth = true →
    formPutMark (markBytes i (some m)) = true ∧ octet (markBytes i (some m)) 0 = i ∧
      markOf (markBytes i (some m)) = some m) ∧
  (∀ (c : Conv) (d : Drum), DrumInRange d →
    formPutDrum (drumBytes c d) = true ∧ Conv.ofCode (octet (drumBytes c d) 0) = some c ∧
      drumOf (drumBytes c d) = some d) ∧
  (∀ (c : Conv) (v : Conveyance), ConveyanceInRange c v →
    formPutConveyance (conveyanceBytes c v) = true ∧
      Conv.ofCode (octet (conveyanceBytes c v) 0) = some c ∧
      conveyanceOf c (conveyanceBytes c v) = some v) ∧
  (∀ l : Limits, LimitsInRange l →
    (limitsBytes l).length = 80 ∧ limitsOf (limitsBytes l) = some l.clamped) ∧
  ∀ (id : Nat) (w : WatchEntry), id < 256 → WatchInRange w →
    (watchEntryBytes id w).length = 14 ∧ octet (watchEntryBytes id w) 0 = id ∧
      watchOf (watchEntryBytes id w) = some w

/-- Whatever the payload, a record that is read from it is in range (R7, R8, R10, R12, R15, R147). A
request whose place, code, record or value is out of range is answered BAD_RANGE and changes nothing but
the port: a level index above 47, a mark index above 23, a drum or conveyance code other than 1 and 2, a
fault kind outside 1 to 31, a severity above 3, and a record that is not read (R7, R8, R10, R12, R15,
R17). -/
def Obligations.OnlyRecordsInRangeAreRead : Prop :=
  (∀ p : List Byte,
    (∀ l, levelOf p = some l → LevelInRange l) ∧
    (∀ m, markOf p = some m → depthInRange m.depth = true) ∧
    (∀ d, drumOf p = some d → DrumInRange d) ∧
    (∀ c v, conveyanceOf c p = some v → ConveyanceInRange c v) ∧
    (∀ l, limitsOf p = some l → LimitsInRange l ∧ l.clamped = l) ∧
    ∀ w, watchOf p = some w → WatchInRange w) ∧
  ∀ (e : Elapse) (tag : Byte) (p : List Byte) (s : State),
    s.admits .stood = true → s.ds.storeState = .idle →
    let badRange (c : Instr) (reply : Byte) := exec c s = .next ((s.elapse e).answered reply tag .badRange [])
    (formPutLevel p = true → 47 < octet p 0 ∨ (octet p 1 ≠ 0 ∧ levelOf p = none) →
      badRange (.putLevel e tag p) 0x90) ∧
    (formPutMark p = true → 23 < octet p 0 ∨ (octet p 1 ≠ 0 ∧ markOf p = none) →
      badRange (.putMark e tag p) 0x92) ∧
    (formPutDrum p = true → (octet p 0 ≠ 1 ∧ octet p 0 ≠ 2) ∨ drumOf p = none →
      badRange (.putDrum e tag p) 0x94) ∧
    (formPutConveyance p = true →
      (octet p 0 ≠ 1 ∧ octet p 0 ≠ 2) ∨ (∃ c, octet p 0 = Conv.code c ∧ conveyanceOf c p = none) →
      badRange (.putConveyance e tag p) 0x96) ∧
    (p.length = 80 → limitsOf p = none → badRange (.putLimits e tag p) 0x98) ∧
    (p.length = 2 → octet p 0 = 0 ∨ 31 < octet p 0 ∨ 3 < octet p 1 →
      badRange (.putSeverity e tag p) 0x9A)

/-- PUT_LEVEL writes the level or empties the place, sets the uncommitted flag and answers with what it
stored; a level nearer than 1,000 mm to another of its conveyance is refused; nothing else changes (R4,
R7). PUT_MARK writes the mark or empties the place, makes it ARMED and sets the uncommitted flag; a mark
on another's sensor line is refused; nothing else changes (R4, R8, R45). -/
def Obligations.PutLevelAndPutMarkWriteThePlace : Prop :=
  (∀ (e : Elapse) (tag : Byte) (i : Nat) (l : Level) (s : State),
    s.admits .stood = true → s.ds.storeState = .idle → i < 48 → LevelInRange l →
    let s0 := s.elapse e
    let put (o : Option Level) : State := { s0 with ds := { s.ds with
      desc := { s.ds.desc with levels := s.ds.desc.levels.setIfInBounds i o }, uncommitted := true } }
    (¬ s.levelNear i l →
      exec (.putLevel e tag (levelBytes i (some l))) s =
        .next ((put (some l)).answered 0x90 tag .ok (levelBytes i (some l)))) ∧
    (s.levelNear i l →
      exec (.putLevel e tag (levelBytes i (some l))) s =
        .next (s0.answered 0x90 tag .duplicateLevel [])) ∧
    exec (.putLevel e tag (levelBytes i none)) s =
      .next ((put none).answered 0x90 tag .ok (levelBytes i none))) ∧
  ∀ (e : Elapse) (tag : Byte) (i : Nat) (m : Mark) (s : State),
    s.admits .stood = true → s.ds.storeState = .idle → i < 24 → depthInRange m.depth = true →
    let s0 := s.elapse e
    let put (o : Option Mark) : State := { s0 with
      ds := { s.ds with
        desc := { s.ds.desc with marks := s.ds.desc.marks.setIfInBounds i o }, uncommitted := true }
      pm := { s.pm with passage := s.pm.passage.setIfInBounds i .armed } }
    ((∀ j m', j ≠ i → s.mark j = some m' → m'.line ≠ m.line) →
      exec (.putMark e tag (markBytes i (some m))) s =
        .next ((put (some m)).answered 0x92 tag .ok (markBytes i (some m)))) ∧
    ((∃ j m', j ≠ i ∧ s.mark j = some m' ∧ m'.line = m.line) →
      exec (.putMark e tag (markBytes i (some m))) s =
        .next (s0.answered 0x92 tag .duplicateLevel [])) ∧
    exec (.putMark e tag (markBytes i none)) s =
      .next ((put none).answered 0x92 tag .ok (markBytes i none))

/-- PUT_DRUM and PUT_CONVEYANCE replace the record and make the conveyance UNCERTAIN; PUT_DRUM also gives
the drum the length of its last valid count in the new layers, and sets the motion baseline of the drum,
the discrepancy baseline and, for drum B, the drift baseline afresh (R10, R12, R13). PUT_LIMITS stores the
record with the mode limits held to the design speed, and PUT_SEVERITY stores a severity raised to the
kind's floor; the reply carries what was stored (R15, R17). That a change of the ATTN mode to LEVEL ends a
running pulse is the model's choice (log 38). -/
def Obligations.PutDrumConveyanceLimitsAndSeverity : Prop :=
  (∀ (e : Elapse) (tag : Byte) (c : Conv) (d : Drum) (v : Conveyance) (s : State),
    s.admits .stood = true → s.ds.storeState = .idle →
    let edit (f : Description → Description) : State :=
      ({ s.elapse e with ds := { s.ds with desc := f s.ds.desc, uncommitted := true } }).setCertainty c
        .uncertain .description
    (DrumInRange d →
      let t := edit fun x => { x with drums := x.drums.set c d }
      let length := match (s.drum c).lastValid with
        | none => 0
        | some (count, _) => paidOut d.layers count
      exec (.putDrum e tag (drumBytes c d)) s =
        .next ({ t with
          pm := { t.pm with drums := t.pm.drums.set c { s.drum c with paidOut := length } }
          es := { s.es with motion := s.es.motion.set c none }
          cc := { s.cc with
            discrepancy := none, drift := if c = Conv.b then none else s.cc.drift } }.answered
          0x94 tag .ok (drumBytes c d))) ∧
    (ConveyanceInRange c v →
      exec (.putConveyance e tag (conveyanceBytes c v)) s =
        .next ((edit fun x => { x with convs := x.convs.set c v }).answered
          0x96 tag .ok (conveyanceBytes c v)))) ∧
  ∀ (e : Elapse) (tag : Byte) (s : State), s.admits .stood = true → s.ds.storeState = .idle →
    let s0 := s.elapse e
    let desc := s.ds.desc
    (∀ l : Limits, LimitsInRange l →
      exec (.putLimits e tag (limitsBytes l)) s =
        .next ({ s0 with
          ds := { s.ds with desc := { desc with limits := l.clamped }, uncommitted := true }
          link := { s.link with
            pulse := if l.attnMode = AttnMode.level then none else s.link.pulse } }.answered
          0x98 tag .ok (limitsBytes l.clamped))) ∧
    ∀ (k : FaultKind) (v : Severity),
      let w := max v (floorOf k)
      exec (.putSeverity e tag (le8 k.code ++ le8 v)) s =
        .next ({ s0 with ds := { s.ds with
          desc := { desc with severities := desc.severities.setIfInBounds k.idx w }
          uncommitted := true } }.answered 0x9A tag .ok (le8 k.code ++ le8 w))

/-- COMMIT validates and begins a write, and the write's end keeps or spoils the stored copy by its read-
back (R19, R20). While a store write is in progress every request that edits the description is BUSY (R4,
R20). The bytes under the check value of STORE_WRITTEN are free (log 2), and that a copy is without a
valid check value from COMMIT until its write ends well is the model's choice (log 37). -/
def Obligations.CommitWritesTheStore : Prop :=
  (∀ (e : Elapse) (tag : Byte) (p : List Byte) (s : State),
    s.admits .stood = true → s.ds.storeState = .writing →
    let s0 := s.elapse e
    (formPutLevel p = true → exec (.putLevel e tag p) s = .next (s0.answered 0x90 tag .busy [])) ∧
    (formPutMark p = true → exec (.putMark e tag p) s = .next (s0.answered 0x92 tag .busy [])) ∧
    (formPutDrum p = true → exec (.putDrum e tag p) s = .next (s0.answered 0x94 tag .busy [])) ∧
    (formPutConveyance p = true →
      exec (.putConveyance e tag p) s = .next (s0.answered 0x96 tag .busy [])) ∧
    (p.length = 80 → exec (.putLimits e tag p) s = .next (s0.answered 0x98 tag .busy [])) ∧
    (p.length = 2 → exec (.putSeverity e tag p) s = .next (s0.answered 0x9A tag .busy [])) ∧
    (p = [] → exec (.commit e tag p) s = .next (s0.answered 0x9B tag .busy []))) ∧
  ∀ (e : Elapse) (tag : Byte) (s : State),
    let s0 := s.elapse e
    (s.admits .stood = true → s.ds.storeState = .idle → validate s.ds.desc = none →
      exec (.commit e tag []) s =
        .next ({ s0 with ds := { s.ds with storeState := .writing, stored := .unchecked } }.answered
          0x9B tag .accepted [])) ∧
    (∀ n item, s.admits .stood = true → s.ds.storeState = .idle →
      validate s.ds.desc = some (n, item) →
      exec (.commit e tag []) s =
        .next (s0.answered 0x9B tag .invalidDescription (le8 n ++ le8 item))) ∧
    (s.ds.storeState = .writing →
      exec (.storeWriteEnd e .agrees) s =
        .next (({ s0 with ds := { s.ds with
            stored := .valid s.ds.desc, uncommitted := false, lastWrite := .written
            storeState := .idle } }).raise .storeWritten 0
          (crc32 (Config.storeImage s.ds.desc)) 0 0 0) ∧
      ∀ offset, exec (.storeWriteEnd e (.differs offset)) s =
        .next (({ s0 with ds := { s.ds with
            stored := .unchecked, lastWrite := .failed, storeState := .idle } }).raise
          .storeWriteFailed 0 (uword32 offset) 0 0 0))

/-- Validation stops at the first check that fails, and names the lowest failing level or mark index, the
first failing drum, or nothing; it passes where all six hold (R18). -/
def Obligations.ValidationStopsAtTheFirstFailure : Prop :=
  ∀ d : Description,
    (validate d = none ↔ ∀ n, d.meets n) ∧
    ∀ n item, validate d = some (n, item) →
      (∀ m, m < n → d.meets m) ∧ ¬ d.meets n ∧
      (n = 1 ∨ n = 2 ∨ n = 6 → item = 0xFF) ∧
      (n = 3 → ∃ l, tableGet d.levels item = some l ∧
        ¬ ((d.convs.get l.serves).top < l.depth ∧ l.depth < (d.convs.get l.serves).bottom) ∧
        ∀ i k, i < item → tableGet d.levels i = some k →
          (d.convs.get k.serves).top < k.depth ∧ k.depth < (d.convs.get k.serves).bottom) ∧
      (n = 4 → ∃ m, tableGet d.marks item = some m ∧
        ¬ ((d.convs.get m.conv).top < m.depth ∧ m.depth < (d.convs.get m.conv).bottom) ∧
        ∀ i k, i < item → tableGet d.marks i = some k →
          (d.convs.get k.conv).top < k.depth ∧ k.depth < (d.convs.get k.conv).bottom) ∧
      (n = 5 → item = if layersWellFormed d.drums.a.layers then 2 else 1)

/-- The working description changes only in STOOD_DOWN, by the power-on load in CHECKING, and at power-on
(R2, R4, R21): in every other state no command changes it, and none sets the uncommitted flag. -/
def Obligations.DescriptionChangesOnlyStoodDown : Prop :=
  ∀ (c : Instr) (s t : State), exec c s = .next t →
    (∀ up, c ≠ .powerOn up) → s.te.winder ≠ .stoodDown → s.te.winder ≠ .checking →
    t.ds.desc = s.ds.desc ∧ (t.ds.uncommitted = true → s.ds.uncommitted = true)

/-! ### Power-on and CHECKING -/

/-- The state after reset holds every value that the rules give for power-on: the empty description, no
level and no mark, its Drum and Conveyance records, every field of its limits and every severity at the
default, which fails validation at its first check; no pair of encoders, no valid count, both conveyances
UNCERTAIN, every mark ARMED; an empty Trip Queue, Event Queue, Watch Table and log; CHECKING with no trip
item set; the clutch ENGAGED with step NONE, its timer stopped, both baselines PENDING and the
switch-fault mark clear; the port HUNTING and IDLE (R3, R11, R14, R21, R22, R48, R66, R90, R115, R116,
R157, R159, R169, R172, R190, R204). The laws that every step keeps hold there. -/
def Obligations.ResetHoldsThePowerOnValues : Prop :=
  let s := State.reset
  let cage : Conveyance :=
    { kind := .cage, decks := 1, spacing := 1000, top := -1000, bottom := 1000, ropeOffset := 0
      stretch := .perClass 0 0 0 0 }
  s.clock = 0 ∧ s.ds.uncommitted = false ∧ s.ds.storeState = .idle ∧ s.ds.lastWrite = .none ∧
  (∀ i, s.level i = none) ∧ (∀ i, s.mark i = none) ∧
  (∀ c, s.ds.desc.drums.get c = { sense := .plus, tolerance := 64, layers := [] }) ∧
  s.convRec .a = cage ∧ s.convRec .b = { cage with kind := .counterweight, stretch := .single 0 } ∧
  Limits.fields s.limits =
    [5, 16000, 12000, 10000, 16000, 1000, 1500, 1000, 750, 750, 900, 2500, 500, 2000, 50, 300, 20, 300, 5,
     1000, 1000, 25, 10, 500, 4, 500, 50, 10, 1024, 16, 30, 5, 3, 2, 1000, 120, 60, 0, 1, 0] ∧
  (FaultKind.all.map fun k => (s.severity k).val) =
    [1, 2, 2, 3, 2, 1, 2, 2, 1, 0, 2, 1, 1, 0, 1, 1, 2, 2, 1, 0, 1, 1, 3, 0, 1, 1, 2, 0, 2, 3, 3] ∧
  validate s.ds.desc = some (1, 0xFF) ∧ s.efe.period = 5 ∧
  (∀ c, (s.front c).offset = none ∧ (s.front c).disagree = false ∧ (s.front c).checkLost = false ∧
    (s.drum c).paidOut = 0 ∧ (s.drum c).lastValid = none ∧ (s.drum c).run = .none ∧
    (s.drum c).markInRun = false ∧ (s.conv c).datumCount = 0 ∧ (s.conv c).datumDepth = 0 ∧
    (s.conv c).sDatum = 0 ∧ (s.conv c).depth = 0 ∧
    (s.conv c).correction = 0 ∧ (s.conv c).loadClass = .empty ∧ (s.conv c).certainty = .uncertain ∧
    (s.conv c).degraded = 0 ∧ (s.conv c).speed = 0) ∧
  (∀ i, s.passage i = .armed) ∧ s.tq = [] ∧
  s.te.winder = .checking ∧ s.te.rest = .none ∧ s.te.stopReason = .none ∧ s.te.deferred = .none ∧
  s.te.heldStart = false ∧ s.te.readiness = none ∧ s.te.brake = none ∧ s.te.dwellTimer = none ∧
  s.te.unitMode = .normal ∧ s.te.stopWatch = none ∧ s.te.laterLeg = false ∧
  s.rg.plan = none ∧ s.rg.refPrev = 0 ∧ s.rg.latch = false ∧ s.rg.label = .none ∧
  s.rg.legTime = 0 ∧ s.rg.seq = 0 ∧
  s.es.env = 0 ∧ s.es.margin = 0 ∧ s.es.tier1 = 0 ∧ s.es.tier2 = 0 ∧ s.es.deadline = none ∧
  s.es.refInForce = 0 ∧ s.es.follow = none ∧ s.es.legStart = none ∧ s.es.progress = 0 ∧
  s.es.motion = ⟨none, none⟩ ∧ (∀ id, s.watch id = none) ∧
  s.cc.state = .engaged ∧ s.cc.step = .none ∧ s.cc.timer = none ∧ s.cc.discrepancy = none ∧
  s.cc.drift = none ∧ s.cc.switchFault = false ∧
  (∀ k, s.isPending k = false ∧ (s.fm.counts.toList[k.idx]?).getD 0 = 0) ∧
  s.fm.first = none ∧ s.fm.later = [] ∧ s.fm.inForce = none ∧ s.fm.stopOrder = false ∧
  s.link.receive = .hunting ∧ s.link.replyState = .idle ∧ s.link.events = [] ∧
  s.link.overrun = false ∧
  s.eventLaw ∧ s.faultLaw ∧ s.severityLaw ∧ s.queueLaw ∧ s.clutchLaw ∧ s.referenceLaw

/-- POWER_ON leaves every block at its power-on value; the stored copy survives and the straps are read
(R3, R21, R119, R191). A self check that fails is then reported, the load is made if it is made now, and
an open EMERGENCY_IN is reported (R119, R178). The power-on load in CHECKING takes a stored copy whose
check value agrees, and otherwise the empty description with STORE_INVALID pending; it leaves both
conveyances UNCERTAIN, the lengths in the new scale and the baselines afresh, and orders nothing (R13,
R21, R183). That the load comes within the step or at the end of CHECKING, and the order of the three, is
the model's choice (log 8); so are the values of the items for which the tables give a dash or nothing
(logs 10, 11). -/
def Obligations.PowerOnResetsAndLoads : Prop :=
  (∀ (up : PowerUp) (s : State),
    let fresh : State := { State.reset with
      lines := up.lines
      ds := { State.reset.ds with stored := s.ds.stored }
      link := { State.reset.link with
        address := if up.addrStrap = 0 then 1 else up.addrStrap.val, fast := up.baudStrap }
      pending := s.pending }
    let checked := match up.selfCheck with
      | none => fresh
      | some n => fresh.report
          { kind := .selfCheck, subject := 0, item1 := n, item2 := 0, item3 := 0 }
    let loaded := if up.loadNow = true then checked.load else checked
    exec (.powerOn up) s = .next
      (if up.lines.emergencyIn = true then loaded else loaded.report (bare .emergencyInput 0))) ∧
  ∀ s : State, s.te.winder = .checking →
    let t := s.load
    (∀ d, s.ds.stored = .valid d → t.ds.desc = d ∧ t.fm = s.fm) ∧
    (s.ds.stored = .blank ∨ s.ds.stored = .unchecked →
      t.ds.desc = emptyDescription ∧ t.isPending .storeInvalid = true) ∧
    t.ds.stored = s.ds.stored ∧ t.ds.loaded = true ∧ t.ds.uncommitted = s.ds.uncommitted ∧
    (∀ c, (t.conv c).certainty = .uncertain ∧
      t.drum c = { s.drum c with
        paidOut := match (s.drum c).lastValid with
          | none => 0
          | some (count, _) => paidOut (t.layers c) count }) ∧
    t.cc = { s.cc with discrepancy := none, drift := none } ∧
    t.es = { s.es with motion := ⟨none, none⟩ } ∧
    t.te = s.te ∧ t.tq = s.tq ∧ t.rg = s.rg ∧ t.wt = s.wt ∧ t.efe = s.efe ∧
    t.clock = s.clock ∧ t.lines = s.lines ∧ t.pending = s.pending

/-- At the end of CHECKING the winder goes to LOCKED_OUT where a kind of severity 3 is pending, else to
TRIPPED with service return STOOD_DOWN where one of severity 2 is, else to STOOD_DOWN; the cause is the
lowest-numbered pending kind of that severity, or 0; the end itself reports no fault, and every block but
those of the trip and the port stands (R119, R183). The clutch reading of CHECKING: the switches give the
clutch state, disagreeing switches give RELEASED with CLUTCH_NOT_CONFIRMED naming both, the step is NONE,
the timer is stopped, both baselines are PENDING and the mark follows the report (R159). It is made once.
That the end first makes the load, and then the reading, where they have not been made is the model's
choice (log 8). The subject and the item of that report are the model's choice (log 30). -/
def Obligations.CheckingReadsTheClutchAndEnds : Prop :=
  let set (u : State) (c : ClutchState) (fault : Bool) : State := { u with
    cc := { state := c, step := .none, timer := none, discrepancy := none, drift := none,
            switchFault := fault, read := true }
    es := if c = .engaged then u.es else { u.es with motion := { u.es.motion with b := none } } }
  let reading (u : State) : State :=
    if u.lines.clutchOpen = false ∧ u.lines.clutchClosed = true then set u .engaged false
    else if u.lines.clutchOpen = true ∧ u.lines.clutchClosed = false then set u .released false
    else (set u .released true).report
      { kind := .clutchNotConfirmed, subject := 5, item1 := (if u.lines.clutchOpen = true then 6 else 0)
        item2 := 0, item3 := 0 }
  (∀ (e : Elapse) (s : State), s.te.winder = .checking → s.activeHead = none →
    let s0 := s.elapse e
    let s1 := if s.ds.loaded = true then s0 else s0.load
    let u := if s.cc.read = true then s1 else reading s1
    let grave (v : Severity) : Prop := ∃ k, u.isPending k = true ∧ u.severity k = v
    let lowest (v : Severity) (k : FaultKind) : Prop :=
      u.isPending k = true ∧ u.severity k = v ∧
        ∀ j, u.isPending j = true → u.severity j = v → k.code ≤ j.code
    let changed (w : WinderState) (cause : Word32) (t : State) : Prop :=
      ∃ old, t.link.events = old ++
        [{ kind := .stateChanged, trip := 0, time := s0.unitTime,
           v1 := uword32 w.code, v2 := 0, v3 := 0, v4 := cause }]
    ∃ t : State, exec (.checkingEnd e) s = .next t ∧
      (grave 3 → t.te.winder = .lockedOut ∧ t.fm.inForce = some 3 ∧
        ∃ k, lowest 3 k ∧ changed .lockedOut (packBytes k.code 2 0 0) t) ∧
      (¬ grave 3 → grave 2 → t.te.winder = .tripped ∧ t.te.serviceReturn = .stoodDown ∧
        t.fm.inForce = some 2 ∧ ∃ k, lowest 2 k ∧ changed .tripped (packBytes k.code 2 0 0) t) ∧
      (¬ grave 3 → ¬ grave 2 → t.te.winder = .stoodDown ∧ t.fm.inForce = none ∧
        changed .stoodDown 0 t) ∧
      t.fm.pending = u.fm.pending ∧ t.fm.counts = u.fm.counts ∧ t.fm.first = u.fm.first ∧
      t.fm.later = u.fm.later ∧
      t.ds = u.ds ∧ t.efe = u.efe ∧ t.pm = u.pm ∧ t.tq = u.tq ∧ t.wt = u.wt ∧ t.cc = u.cc ∧
      t.clock = s0.clock ∧ t.lines = s0.lines ∧ t.pending = s.pending) ∧
  ∀ (e : Elapse) (s : State), s.te.winder = .checking →
    exec (.clutchPowerOnRead e) s =
      .next (if s.cc.read = true then s.elapse e else reading (s.elapse e))

/-! ### The position model -/

/-- The paid-out length is the sum of the pitches of the counts from 0 up to the count, a negative count
goes by the first layer's pitch, and a table of no layers gives 0 (R29). A conveyance is at standstill
when the magnitude of its speed is at most the threshold, the winder when both are (R46). -/
def Obligations.PaidOutSumsThePitchesAndStandstill : Prop :=
  ((∀ (layers : List Layer) (n : Nat), layersWellFormed layers = true →
    paidOut layers n = ∑ i ∈ Finset.range n, (pitchAt layers i : Int)) ∧
  (∀ (l : Layer) (rest : List Layer) (c : Int), c < 0 → paidOut (l :: rest) c = c * l.pitch) ∧
  ∀ c, paidOut [] c = 0) ∧
  ∀ s : State,
    (∀ c, s.convAtRest c = true ↔ |(s.conv c).speed| ≤ s.limits.standstill) ∧
    (s.atStandstill = true ↔ s.convAtRest .a = true ∧ s.convAtRest .b = true)

/-- A Sample record with a valid primary: the length is that of the count, the speed is over the time
since the last valid count, the run ends, and the depth is that of R31 from the measured length; whatever
the heads give, the Sample record holds their words (R24), the description, the lines, the clock, the
clutch state and the requests of the port stand (R24, R29 to R31, R40, R43). The command is the step of
the Encoder Front End and the Position Model, drum A first, with the marks after it, whether a run that
begins is strict being settled as the record is formed (R38), and then each other block's own step, the
reference on the plan that the record found (R82), in the order that the command carries, a block that it
does not name coming last: that order is the model's choice (log 7), and so are the order of the drums and
marks (log 41), that nothing else is taken between two blocks (log 49), and the count of a head that gives
no word (log 17). -/
def Obligations.SampleMeasuresTheRope : Prop :=
  (∀ (e : Elapse) (heads : Heads) (order : List SampleBlock) (s : State),
    let s0 := s.elapse e
    ∃ t : State, exec (.sample e heads order) s = .next t ∧
      t.ds = s.ds ∧ t.lines = s0.lines ∧ t.clock = s0.clock ∧ t.pending = s.pending ∧
      t.cc.state = s.cc.state ∧ t.cc.step = s.cc.step ∧ t.cc.timer = s.cc.timer ∧
      t.link = { s.link with
        events := t.link.events, overrun := t.link.overrun, pulse := t.link.pulse } ∧
      t.efe.sampleTime = s0.sampleClock ∧ t.efe.period = s.limits.samplePeriod ∧
      ∀ (c : Conv) (raw : Word32), heads.primary.get c = .word raw false → raw ≠ 0x80000000#32 →
        let count := raw.toInt * (s.ds.desc.drums.get c).sense.factor
        let length := paidOut (s.layers c) count
        let m := s.conv c
        let m' := t.conv c
        let travel := (length - paidOut (s.layers c) m.datumCount).tdiv 1000000
        let hanging := max (m.datumDepth + travel + (s.convRec c).ropeOffset) 0
        let stretch := (hanging * ((s.convRec c).stretch.coeff m.loadClass : Int)).tdiv 1000000
        (t.front c).primary = { raw := raw, valid := true, count := count } ∧
        t.drum c = { paidOut := length, lastValid := some (count, s0.sampleClock), run := .none,
                     markInRun := false, heldLast := false } ∧
        m'.speed = (match (s.drum c).lastValid with
          | none => 0
          | some (c0, t0) =>
            speedOver (length - paidOut (s.layers c) c0) (signedElapsed s0.sampleClock t0)) ∧
        ((s.drum c).run = .none ∨ (s.drum c).markInRun = false → m'.correction = m.correction) ∧
        m'.degraded = (if (s.drum c).run = .none then m.degraded else 0) ∧
        m'.depth = m.datumDepth + travel + (stretch - m.sDatum) + m'.correction ∧
        m'.prevDepth = (if (s.drum c).lastValid = none then m'.depth else m.depth) ∧
        m'.datumCount = m.datumCount ∧ m'.datumDepth = m.datumDepth ∧ m'.sDatum = m.sDatum ∧
        m'.loadClass = m.loadClass) ∧
  (∀ dL dt : Int, dt ≠ 0 → speedOver dL dt = max (-65535) (min 65535 (dL.tdiv dt))) ∧
  ∀ (e : Elapse) (heads : Heads) (order : List SampleBlock) (s : State),
    let s0 := s.elapse e
    let prev := s.efe.sampleTime
    let item (c : Conv) (h : HeadItem) (w : HeadWord) : HeadItem := match w with
      | .missing => { h with
          valid := false, count := h.raw.toInt * (s.ds.desc.drums.get c).sense.factor }
      | .word raw bad =>
        { raw := raw, valid := decide (bad = false ∧ raw ≠ 0x80000000#32)
          count := raw.toInt * (s.ds.desc.drums.get c).sense.factor }
    let front (c : Conv) : DrumFront := { s.front c with
      primary := item c (s.front c).primary (heads.primary.get c)
      check := item c (s.front c).check (heads.check.get c) }
    let formed : State := { s0 with efe :=
      { drums := ⟨front .a, front .b⟩, sampleTime := s0.sampleClock, period := s.limits.samplePeriod } }
    let strict : Bool := match s.activeHead with
      | none => false
      | some r => decide (r.body.mode = .man ∨ s.limits.strictAll = true)
    let placed :=
      (((formed.crossCheck .a).crossCheck .b).position .a prev strict).position .b prev strict
    let opened := placed.passMarks ⟨(s.conv .a).speed, (s.conv .b).speed⟩
    let take (t : State) : SampleBlock → State
      | .reference => t.takeReference prev opened.rg.plan
      | .envelope => t.takeEnvelope prev opened.rg
      | .watch => t.takeWatch
      | .clutch => t.takeClutch
      | .executive => t.takeExecutive opened.te.rest
    let all : List SampleBlock := [.reference, .envelope, .watch, .clutch, .executive]
    exec (.sample e heads order) s = .next ((order ++ all).eraseDups.foldl take opened)

/-- A Sample record with an invalid primary: on a drum at standstill whose brake is confirmed applied the
model is held, its depth that of the kept length, and a CERTAIN conveyance becomes DEGRADED (R35, R36);
otherwise, unless the run is LOST, it is a sample of a run, extrapolated in length and depth from the last
speed and counted, that is LOST above the allowance (R37, R39). The first sample of a run reports
SAMPLE_INVALID_STRICT where the trip ACTIVE when the record is formed is strict, for either drum, else
SAMPLE_INVALID, and the sample that exceeds the allowance POSITION_LOST where the conveyance was not
UNCERTAIN; nothing else reports these kinds (R37 to R39). A run whose count exceeds the allowance that now
stands is LOST, with POSITION_LOST where the conveyance was not UNCERTAIN already; where no such run
stands nothing happens (R39). What a held record inside a run leaves, also in a LOST run, is the model's
choice (log 12); so is the depth that a LOST run keeps in a changed scale (log 46), and that a CERTAIN
conveyance whose first sample exceeds the allowance is DEGRADED on the way (log 45); so is RUN_LOST as a
test outside a Sample record, with no effect where its condition fails (log 18). -/
def Obligations.InvalidSampleHoldsExtrapolatesOrIsLost : Prop :=
  (∀ (e : Elapse) (heads : Heads) (order : List SampleBlock) (c : Conv) (s : State),
    (heads.primary.get c = .missing ∨ ∃ raw bad, heads.primary.get c = .word raw bad ∧
      (bad = true ∨ raw = 0x80000000#32)) →
    let s0 := s.elapse e
    let m := s.conv c
    let d := s.drum c
    let braked := if c = .a ∨ s.cc.state = .engaged then s0.lines.brakeApplied
      else s0.lines.bBrakeApplied
    let lessened : Certainty := if m.certainty = .certain then .degraded else m.certainty
    let strict := ∃ r, s.activeHead = some r ∧ (r.body.mode = .man ∨ s.limits.strictAll = true)
    let depthOf (length : Int) : Int :=
      let travel := (length - paidOut (s.layers c) m.datumCount).tdiv 1000000
      let hanging := max (m.datumDepth + travel + (s.convRec c).ropeOffset) 0
      m.datumDepth + travel + m.correction +
        ((hanging * ((s.convRec c).stretch.coeff m.loadClass : Int)).tdiv 1000000 - m.sDatum)
    ∃ t : State, exec (.sample e heads order) s = .next t ∧
      (t.front c).primary.valid = false ∧
      (mag m.speed ≤ s.limits.standstill → braked = true →
        t.drum c = { d with heldLast := true } ∧ (t.conv c).speed = 0 ∧
        (t.conv c).depth = depthOf d.paidOut ∧ (t.conv c).prevDepth = m.depth ∧
        (t.conv c).degraded = m.degraded ∧ (t.conv c).correction = m.correction ∧
        (t.conv c).certainty = lessened) ∧
      (s.limits.standstill < mag m.speed ∨ braked = false →
        (d.run = .lost → d.heldLast = false →
          t.drum c = d ∧ t.conv c = { m with prevDepth := m.depth }) ∧
        (d.run ≠ .lost ∨ d.heldLast = true →
          let lost := s.limits.nDeg < m.degraded + 1
          let length := d.paidOut + m.speed * signedElapsed s0.sampleClock s.efe.sampleTime
          (t.drum c).paidOut = length ∧ (t.conv c).depth = depthOf length ∧
          (t.conv c).prevDepth = m.depth ∧
          (t.drum c).lastValid = d.lastValid ∧
          (t.drum c).run = (if lost then .lost else .run) ∧
          (t.conv c).speed = m.speed ∧ (t.conv c).degraded = m.degraded + 1 ∧
          (t.conv c).correction = m.correction ∧
          (t.conv c).certainty = (if lost then .uncertain else lessened) ∧
          (d.run = .none ∨ d.heldLast = true →
            (strict → t.isPending .sampleInvalidStrict = true) ∧ (¬ strict → t.isPending .sampleInvalid = true)) ∧
          (lost → m.certainty ≠ .uncertain → t.isPending .positionLost = true)))) ∧
  (∀ (c : Conv) (prev : Nat) (strict : Bool) (s : State), (s.front c).primary.valid = false →
    let t := s.position c prev strict
    let m := s.conv c
    let d := s.drum c
    let braked := if c = .a ∨ s.cc.state = .engaged then s.lines.brakeApplied else s.lines.bBrakeApplied
    let held := mag m.speed ≤ s.limits.standstill ∧ braked = true
    let run := ¬ held ∧ (d.run ≠ .lost ∨ d.heldLast = true)
    let first := run ∧ (d.run = .none ∨ d.heldLast = true)
    let lost := run ∧ s.limits.nDeg < m.degraded + 1 ∧ m.certainty ≠ .uncertain
    let count (u : State) (k : FaultKind) : Nat := (u.fm.counts.toList[k.idx]?).getD 0
    let reported (k : FaultKind) : Prop :=
      t.isPending k = true ∧ count t k = min 255 (count s k + 1)
    let silent (k : FaultKind) : Prop := t.isPending k = s.isPending k ∧ count t k = count s k
    (first ∧ strict = true → reported .sampleInvalidStrict) ∧
    (¬ (first ∧ strict = true) → silent .sampleInvalidStrict) ∧
    (first ∧ strict = false → reported .sampleInvalid) ∧
    (¬ (first ∧ strict = false) → silent .sampleInvalid) ∧
    (lost → reported .positionLost) ∧ (¬ lost → silent .positionLost)) ∧
  ∀ (e : Elapse) (c : Conv) (s : State),
    let s0 := s.elapse e
    let lost : State := { s0 with
      pm := { s.pm with drums := s.pm.drums.set c { s.drum c with run := .lost } } }
    ((s.drum c).run = .run ∧ s.limits.nDeg < (s.conv c).degraded →
      exec (.runLost e c) s = .next (if (s.conv c).certainty = .uncertain then lost
        else (lost.setCertainty c .uncertain .sample).report (bare .positionLost c.code))) ∧
    ((s.drum c).run ≠ .run ∨ (s.conv c).degraded ≤ s.limits.nDeg →
      exec (.runLost e c) s = .next s0)

/-- An edge of a mark line: ignored where no mark names the line, and unless the mark's conveyance passes
above the standstill threshold in the mark's direction and the mark is not TAKEN (R41); within the capture
window it corrects the depth and raises MARK_PASSED, beyond it MARK_DISAGREE is reported and the
conveyance is UNCERTAIN (R42); of an UNCERTAIN conveyance with a valid primary it sets the datum (R44). At
a Sample record an ARMED mark whose far line a CERTAIN conveyance crosses is reported MARK_MISSED and
DISARMED, and one TAKEN or DISARMED returns to ARMED at standstill or where the speed changes its sign
(R45). The marks are tested in order of index. That the edge carries its age and two marks of one line
mean the lower (log 16), that the far line goes by the sign of the speed, and that a mark that returns to
ARMED is first tested at the next record (log 22), and that order of the marks (log 41), are the model's
choices. -/
def Obligations.MarkEdgeCorrectsOrSetsTheDatum : Prop :=
  (∀ (e : Elapse) (line : Fin 24) (age : Nat) (s : State),
    (∀ i m, s.mark i = some m → m.line ≠ line) → exec (.markEdge e line age) s = .next (s.elapse e)) ∧
  (∀ (e : Elapse) (line : Fin 24) (age : Nat) (i : Nat) (m : Mark) (s : State),
    s.markOnLine line = some (i, m) →
    let s0 := s.elapse e
    let v := s.conv m.conv
    let edge := (((s0.sampleClock : Int) - age) % 2 ^ 32).toNat
    let travel := (v.speed * signedElapsed edge s.efe.sampleTime).tdiv 1000000
    let err := m.depth - (v.depth + travel)
    let taken := s.pm.passage.setIfInBounds i .taken
    let placed (v' : ConvModel) : State := { s0 with
      pm := { s.pm with convs := s.pm.convs.set m.conv v', passage := taken } }
    let passes := s.limits.standstill < mag v.speed ∧ s.passage i ≠ .taken ∧
      (m.facing = .either ∨ (m.facing = .down ∧ 0 < v.speed) ∨ (m.facing = .up ∧ v.speed < 0))
    (¬ passes → exec (.markEdge e line age) s = .next s0) ∧
    (passes → v.certainty = .uncertain → (s.front m.conv).primary.valid = false →
      exec (.markEdge e line age) s = .next (placed v)) ∧
    (passes → v.certainty = .uncertain → (s.front m.conv).primary.valid = true →
      exec (.markEdge e line age) s =
        .next ((placed { v with
          datumCount := (s.front m.conv).primary.count, datumDepth := m.depth - travel
          sDatum := stretchMm (s.convRec m.conv) v.loadClass
            (m.depth - travel + (s.convRec m.conv).ropeOffset)
          correction := 0, degraded := 0, depth := m.depth }).setCertainty m.conv .certain .mark)) ∧
    (passes → v.certainty ≠ .uncertain → s.limits.captureWindow < mag err →
      exec (.markEdge e line age) s =
        .next (((placed v).report
          { kind := .markDisagree, subject := i, item1 := err, item2 := 0, item3 := 0 }).setCertainty
            m.conv .uncertain .mark)) ∧
    (passes → v.certainty ≠ .uncertain → mag err ≤ s.limits.captureWindow →
      ∃ t : State, exec (.markEdge e line age) s = .next t ∧
        t.conv m.conv = { v with
          correction := v.correction + err, depth := v.depth + err, certainty := .certain
          degraded := if (s.drum m.conv).run = .run then 0 else v.degraded } ∧
        t.drum m.conv = { s.drum m.conv with
          markInRun := (s.drum m.conv).markInRun || (s.drum m.conv).run = .run } ∧
        t.pm.passage = taken ∧
        (∃ r ∈ t.link.events, r.kind = .markPassed ∧ r.trip = s.activeId ∧ r.v1 = uword32 i ∧
          r.v2 = uword32 m.conv.code ∧ r.v3 = word32 err ∧ r.v4 = word32 (v.depth + err)) ∧
        t = { s0 with pm := t.pm, link := t.link } ∧
        t.pm.convs.get m.conv.other = s.conv m.conv.other ∧
        t.pm.drums.get m.conv.other = s.drum m.conv.other)) ∧
  ∀ (old : Both Int) (s : State),
    s.passMarks old = (List.range 24).foldl (fun t i => t.passMark old i) s ∧
    (∀ i, s.mark i = none → s.passMark old i = s) ∧
    ∀ i m, s.mark i = some m →
      let v := s.conv m.conv
      let w : Int := s.limits.captureWindow
      let becomes (p : Passage) (t : State) : State :=
        { t with pm := { t.pm with passage := t.pm.passage.setIfInBounds i p } }
      let beyond := (0 < v.speed ∧ m.facing ≠ .up ∧ v.prevDepth ≤ m.depth + w ∧ m.depth + w < v.depth) ∨
        (v.speed < 0 ∧ m.facing ≠ .down ∧ m.depth - w ≤ v.prevDepth ∧ v.depth < m.depth - w)
      let returns := mag v.speed ≤ s.limits.standstill ∨ (0 < v.speed ∧ old.get m.conv < 0) ∨
        (v.speed < 0 ∧ 0 < old.get m.conv)
      (s.passage i = .armed → v.certainty = .certain → beyond →
        s.passMark old i = becomes .disarmed (s.report (bare .markMissed i))) ∧
      (s.passage i = .armed → v.certainty ≠ .certain ∨ ¬ beyond → s.passMark old i = s) ∧
      (s.passage i ≠ .armed → returns → s.passMark old i = becomes .armed s) ∧
      (s.passage i ≠ .armed → ¬ returns → s.passMark old i = s)

/-- The cross-check of a drum in a Sample record: with both channels valid a PENDING offset is captured
and clears the disagree mark, agreement clears it, and a disagreement is reported once, with the mark set
and the conveyance UNCERTAIN; a check channel lost beside a valid primary is reported once, and its return
clears the mark (R26 to R28). The return of the primary: after a run in state RUN, or after held samples,
the measured length is compared with the extrapolated or the kept one; within the capture window a
DEGRADED conveyance becomes CERTAIN, beyond it a conveyance that is not UNCERTAIN becomes so, with
POSITION_LOST; a mark in the run moves the correction by the difference, and the run's count returns to 0
(R36, R40, R43). Which record counts as the return after held samples (log 12), the length held as the
extrapolated one where a run ends from LOST (log 47), and that a comparison while already UNCERTAIN after
them reports nothing (log 18), are the model's choices. -/
def Obligations.CrossCheckAndTheReturnOfThePrimary : Prop :=
  (∀ (c : Conv) (s : State),
    let t := s.crossCheck c
    let f := s.front c
    let present := f.primary.count - f.check.count
    let agrees (o : Int) := mag (present - o) ≤ (s.ds.desc.drums.get c).tolerance
    let marked (g : DrumFront) (u : State) : State :=
      { u with efe := { u.efe with drums := u.efe.drums.set c g } }
    (f.check.valid = false → f.primary.valid = false ∨ f.checkLost = true → t = s) ∧
    (f.check.valid = false → f.primary.valid = true → f.checkLost = false →
      t = marked { f with checkLost := true } (s.report (bare .checkChannelLost c.code))) ∧
    (f.check.valid = true → f.primary.valid = false → t = marked { f with checkLost := false } s) ∧
    (f.check.valid = true → f.primary.valid = true →
      (f.offset = none →
        t = marked { f with offset := some present, disagree := false, checkLost := false } s) ∧
      ∀ o, f.offset = some o →
        (agrees o → t = marked { f with disagree := false, checkLost := false } s) ∧
        (¬ agrees o → f.disagree = true → t = marked { f with checkLost := false } s) ∧
        (¬ agrees o → f.disagree = false →
          t = (marked { f with disagree := true, checkLost := false }
            (s.report { kind := .encoderDisagree, subject := c.code, item1 := present, item2 := o
                        item3 := 0 })).setCertainty c .uncertain .crossCheck))) ∧
  ∀ (c : Conv) (prev : Nat) (strict : Bool) (s : State), (s.front c).primary.valid = true →
    let t := s.position c prev strict
    let d := s.drum c
    let m := s.conv c
    let now := s.efe.sampleTime
    let length := paidOut (s.layers c) (s.front c).primary.count
    let speed := match d.lastValid with
      | none => 0
      | some (c0, t0) => speedOver (length - paidOut (s.layers c) c0) (signedElapsed now t0)
    let expected := if d.run = .run then d.paidOut + m.speed * signedElapsed now prev else d.paidOut
    let compared := d.run = .run ∨ (d.run = .none ∧ d.heldLast = true)
    let near := mag (length - expected) / 1000000 ≤ s.limits.captureWindow
    let moved : State := { s with pm := { s.pm with convs := s.pm.convs.set c { m with speed := speed } } }
    let base : State :=
      if compared ∧ near ∧ m.certainty = .degraded then moved.setCertainty c .certain .sample
      else if compared ∧ ¬ near ∧ m.certainty ≠ .uncertain then
        (moved.setCertainty c .uncertain .sample).report (bare .positionLost c.code)
      else moved
    t = { base with pm := t.pm } ∧
    (t.conv c).certainty = (base.conv c).certainty ∧ (t.conv c).speed = speed ∧
    (t.conv c).correction = (if d.run ≠ .none ∧ d.markInRun = true then
      m.correction - (length - expected).tdiv 1000000 else m.correction) ∧
    (t.conv c).degraded = (if d.run = .none then m.degraded else 0) ∧
    t.drum c = { paidOut := length, lastValid := some ((s.front c).primary.count, now), run := .none,
                 markInRun := false, heldLast := false } ∧
    t.conv c.other = s.conv c.other ∧ t.drum c.other = s.drum c.other ∧ t.pm.passage = s.pm.passage

/-- SET_DATUM makes its checks in order and sets the datum at a depth, or at the depth of a level that
serves the conveyance: the datum, the measured length, the depth, the marks ARMED and the certainty (R33).
That the level form reads its index from the four bytes of the depth is the model's choice (log 33). -/
def Obligations.SetDatumFixesThePosition : Prop :=
  ∀ (e : Elapse) (tag : Byte) (c : Conv) (s : State), s.takesFrame = true →
    let s0 := s.elapse e
    let resting := s.te.winder = .stoodDown ∨ s.te.winder = .idle
    let steady := mag (s.conv c).speed ≤ s.limits.standstill
    let count := (s.front c).primary.count
    let valid := (s.front c).primary.valid
    let fixed (x : Int) : State := ({ s0 with pm := { s.pm with
        convs := s.pm.convs.set c { s.conv c with
          datumCount := count, datumDepth := x
          sDatum := stretchMm (s.convRec c) (s.conv c).loadClass (x + (s.convRec c).ropeOffset)
          correction := 0, degraded := 0, depth := x }
        drums := s.pm.drums.set c { s.drum c with
          paidOut := paidOut (s.layers c) count, run := .none, markInRun := false }
        passage := tableMapIdx
          (fun i x => if (s.mark i).map Mark.conv = some c then .armed else x) s.pm.passage } }).setCertainty
      c .certain .datum
    let done (x : Int) : State :=
      (fixed x).answered 0x9C tag .ok (le8 c.code ++ leInt x ++ le8 Certainty.certain.code)
    (∀ (b : Byte) (form : Bool) (x : Nat), b ≠ 1 → b ≠ 2 →
      exec (.setDatum e tag ([b] ++ leBool form ++ leNat32 x)) s =
        .next (s0.answered 0x9C tag .badRange [])) ∧
    (∀ x : Int, -2 ^ 31 ≤ x → x < 2 ^ 31 →
      exec (.setDatum e tag (le8 c.code ++ [1] ++ leInt x)) s = .next
        (if ¬ (-200000 ≤ x ∧ x ≤ 3400000) then s0.answered 0x9C tag .badRange []
        else if ¬ resting then s0.answered 0x9C tag .wrongState []
        else if ¬ steady then s0.answered 0x9C tag .notStandstill []
        else if valid = false then s0.answered 0x9C tag .positionUncertain []
        else done x)) ∧
    ∀ i : Nat, i < 2 ^ 32 →
      exec (.setDatum e tag (le8 c.code ++ [0] ++ leNat32 i)) s = .next
        (if ¬ resting then s0.answered 0x9C tag .wrongState []
        else if ¬ steady then s0.answered 0x9C tag .notStandstill []
        else if valid = false then s0.answered 0x9C tag .positionUncertain []
        else match s.level i with
          | none => s0.answered 0x9C tag .noSuchLevel []
          | some l => if l.serves = c then done l.depth
            else s0.answered 0x9C tag .wrongLevelKind [])

/-! ### The reference, the drive link and the envelope -/

/-- The reference of a Sample record, on the plan that the record found: in WINDING the least of the ramp,
the trip speed limit and the braking curves of the leg, in STOPPING the least of the falling reference and
the curves, held to creep within d_creep of the stop point and to 0 from the land window on; outside those
states it is 0. It is sent at once, signed by the direction and for conveyance A, with the next sequence
count (R75 to R80, R82, R87, R88). The segment label names the first of R78's terms that gives it. The leg
is the first STOP point of the plan and every SLOW point before it that is nearer than it (R71). That the
reference stays on the plan found where a slow point is placed at the same record before it, so that R79's
law falls to the envelope (log 20), and the label DECEL where the floor 0 gives the reference in STOPPING
(log 36), are the model's choices. -/
def Obligations.ReferenceOfASampleRecord : Prop :=
  (∀ (before after : List PlanPoint) (q : PlanPoint),
    (∀ p ∈ before, p.isStop = false) → q.isStop = true →
    legOf (before ++ q :: after) = before.filter (fun p => p.depth ≠ q.depth) ++ [q]) ∧
  ∀ (prev : Nat) (plan : Option (List PlanPoint)) (s : State),
    let t := s.takeReference prev plan
    let leg := legOf (plan.getD [])
    let l := s.limits
    let dt := unsignedElapsed s.efe.sampleTime prev
    let ramp := s.rg.refPrev + max 1 (l.aAcc * dt / 1000000)
    let fall := s.rg.refPrev - max 1 (l.aDec * dt / 1000000)
    let distance (p : PlanPoint) : Int := match s.rg.travel with
      | .down => p.depth - (s.conv s.rg.guide).depth
      | .up => (s.conv s.rg.guide).depth - p.depth
    let curve (p : PlanPoint) : Nat := match p.kind with
      | .stop => Nat.sqrt (2 * l.aDec * (distance p - l.dCreep).toNat + l.vCreep * l.vCreep)
      | .slow cap => Nat.sqrt (2 * l.aDec * (distance p).toNat + cap * cap)
    let terms := (if s.te.winder = .winding then [ramp, s.rg.limit] else [fall]) ++ leg.map curve
    let toGo := ((leg.find? PlanPoint.isStop).map distance).getD 0
    let latch := s.rg.latch || toGo ≤ l.landWindow
    let bounds := terms ++ if toGo ≤ l.dCreep then [l.vCreep] else []
    let ref := t.rg.refPrev
    let winding := s.te.winder = .winding
    let falls := ∃ p ∈ leg, curve p = ref ∧ (p.kind = .stop ∨ ∃ cap, p.kind = .slow cap ∧ cap < ref)
    let level := (winding ∧ s.rg.limit = ref) ∨ ∃ p ∈ leg, curve p = ref ∧ p.kind = .slow ref
    (s.te.winder.moving = true →
      (latch = true → ref = 0) ∧
      (latch = false → ref ∈ bounds ∧ ∀ x ∈ bounds, ref ≤ x) ∧
      t.rg.latch = latch ∧ t.es.refInForce = ref ∧
      t.rg.refSent = (if s.rg.travel = .down then (ref : Int) else -ref) ∧
      t.rg.sent = s.rg.sent ++
        [{ seq := s.rg.seq, run := true
           ref := if s.rg.guide = .a then t.rg.refSent else -t.rg.refSent }] ∧
      t.te.rest = (if s.te.winder = .winding ∧ s.te.rest = .none ∧ latch = true then .toRest
        else s.te.rest) ∧
      (latch = true → t.rg.label = .landing) ∧
      (latch = false → toGo ≤ l.dCreep → t.rg.label = .creep) ∧
      (latch = false → l.dCreep < toGo →
        (falls → t.rg.label = .decel) ∧ (¬ falls → level → t.rg.label = .cruise) ∧
        (¬ falls → ¬ level → t.rg.label = if winding then .accel else .decel))) ∧
    (s.te.winder.moving = false →
      t.rg = { s.rg with
        seq := s.rg.seq + 1, refSent := 0
        sent := s.rg.sent ++ [{ seq := s.rg.seq, ref := 0, run := false }] } ∧
      t.es = { s.es with refInForce := 0 } ∧ t.te = s.te) ∧
    t.rg.seq = s.rg.seq + 1 ∧ t.rg.plan = s.rg.plan ∧ t.rg.limit = s.rg.limit ∧
    t = { s with rg := t.rg, es := { s.es with refInForce := t.es.refInForce }
                 te := { s.te with rest := t.te.rest } }

/-- The reference never exceeds the envelope of the same sample: each braking curve lies under the
envelope curve of its point, since a_ret is at least a_dec, and a Sample record that finds and leaves the
winder in WINDING or STOPPING leaves ref_prev at or below env, whatever the order of its blocks (R79);
where a slow point placed at that record would break this, the Envelope Supervisor reads the plan that the
record found, the model's choice (log 20). At a Sample record in WINDING or STOPPING the Envelope
Supervisor holds that envelope, the least of the trip speed limit and the curves of the leg at a_ret (R92,
R93), the margin is the greater of margin_abs and the percentage of the envelope, and the tier thresholds
stand one and two margins above it (R94); the progress mark follows the greatest travel of the leg (R98),
and the follow timer runs in WINDING from the first record with a following error (R99). -/
def Obligations.ReferenceStaysUnderTheEnvelopeAndItsTiers : Prop :=
  (∀ (dt : Nat) (s : State),
    s.te.winder.moving = true → s.limits.aDec ≤ s.limits.aRet → s.rg.refPrev ≤ s.rg.limit →
    s.referenceNow dt ≤ s.envNow) ∧
  (∀ (e : Elapse) (heads : Heads) (order : List SampleBlock) (s t : State),
    exec (.sample e heads order) s = .next t →
    s.te.winder.moving = true → t.te.winder.moving = true →
    s.limits.aDec ≤ s.limits.aRet → s.rg.refPrev ≤ s.rg.limit →
    t.rg.refPrev ≤ t.es.env) ∧
  ∀ s : State, s.te.winder.moving = true →
    let e := s.superviseNow
    let l := s.limits
    let distance (p : PlanPoint) : Int := match s.rg.travel with
      | .down => p.depth - (s.conv s.rg.guide).depth
      | .up => (s.conv s.rg.guide).depth - p.depth
    let curve (p : PlanPoint) : Nat := match p.kind with
      | .stop => Nat.sqrt (2 * l.aRet * (distance p - l.dCreep).toNat + l.vCreep * l.vCreep)
      | .slow cap => Nat.sqrt (2 * l.aRet * (distance p).toNat + cap * cap)
    let bounds := s.rg.limit :: s.rg.leg.map curve
    let length := (s.drum s.rg.guide).paidOut - s.es.legStart.getD 0
    let travel := match s.rg.travel with
      | .down => length
      | .up => -length
    let error := l.followLimit < (s.guideSpeed - s.es.refInForce).natAbs
    e.env = s.envNow ∧ e.env ∈ bounds ∧ (∀ x ∈ bounds, e.env ≤ x) ∧
    e.margin = max s.limits.marginAbs (e.env * s.limits.marginPct / 100) ∧
    e.tier1 = e.env + e.margin ∧ e.tier2 = e.env + 2 * e.margin ∧
    e.progress = max s.es.progress travel ∧
    e.follow = (if s.te.winder = .winding ∧ error then some (s.es.follow.getD s.efe.sampleTime) else none)

/-- The reports of the Envelope Supervisor at a Sample record, each by its condition: about the guide in
WINDING or STOPPING, OVERSPEED and ENVELOPE_EXCEEDED above their tiers (R95), OVERTRAVEL past the stop
point (R97), DIRECTION_WRONG on a rollback of more than 100 mm (R98), DRIVE_NOT_FOLLOWING in WINDING (R99)
and TRIP_OVERTIME (R101); about either conveyance in every state, OVERWIND at or past the limit toward
which it moves (R103) and OVERWIND_APPROACH above the speed from which it can stop (R102); about a
supervised drum away from its baseline, UNEXPECTED_MOTION (R107, R109). They are made in the order of
R104, conveyance A before B, which for UNEXPECTED_MOTION is the model's choice (log 48), on the plan held
when the block takes the record (R91, R113); that it reads the plan which the record found, where a slow
point placed at the record would put env below the reference of the record, is the model's choice (log
20). A supervised drum without a motion baseline takes one in a resting state, at standstill and with
BRAKE_APPLIED asserted (R108); a report of UNEXPECTED_MOTION sets it to NONE, and it is taken anew at once
where the record allows it (R109). That this is judged in the winder state that the record found, before
the report's response, is the model's choice too (log 23). -/
def Obligations.EnvelopeReportsByTheirConditions : Prop :=
  (∀ (prev : Nat) (found : ReferenceGenerator) (s : State),
    let onFound : State := { s with rg := { s.rg with plan := found.plan } }
    let ref := max s.rg.refPrev
      ({ s with rg := found }.referenceNow (unsignedElapsed s.efe.sampleTime prev))
    let seen := if s.envNow < ref ∧ s.envNow < onFound.envNow then onFound else s
    s.takeEnvelope prev found =
      seen.envelopeReports.foldl (fun t r => t.report r) { s with es := seen.superviseNow }) ∧
  (∀ s : State,
    let both (k : FaultKind) := [(k, Conv.a.code), (k, Conv.b.code)]
    let guide (k : FaultKind) := (k, s.rg.guide.code)
    (s.envelopeReports.map fun r => (r.kind, r.subject)).Sublist
      (both .overwind ++ both .overwindApproach ++
        [guide .overspeed, guide .envelopeExceeded, guide .overtravel, guide .directionWrong,
         guide .driveNotFollowing, guide .tripOvertime] ++ both .unexpectedMotion)) ∧
  ∀ (s : State) (c : Conv),
    let l := s.limits
    let m := max l.marginAbs (s.envNow * l.marginPct / 100)
    let reports (k : FaultKind) := ∃ r ∈ s.envelopeReports, r.kind = k ∧ r.subject = c.code
    let guided := s.te.winder.moving = true ∧ c = s.rg.guide
    let travel := s.rg.travel.signed ((s.drum s.rg.guide).paidOut - s.es.legStart.getD 0)
    let v := (s.conv c).speed
    let depth := (s.conv c).depth
    let ahead : Int := if 0 < v then (s.convRec c).bottom - depth else depth - (s.convRec c).top
    let toward := l.standstill < v.natAbs
    let rests := s.te.winder ≠ .checking ∧ s.te.winder.moving = false
    (reports .overspeed ↔ guided ∧ ((s.envNow + 2 * m : Nat) : Int) < s.guideSpeed) ∧
    (reports .envelopeExceeded ↔ guided ∧ ((s.envNow + m : Nat) : Int) < s.guideSpeed) ∧
    (reports .overtravel ↔ guided ∧ s.distanceToGo < -(l.overtravelLimit : Int)) ∧
    (reports .directionWrong ↔ guided ∧ travel + 100000000 < s.es.progress) ∧
    (reports .driveNotFollowing ↔ guided ∧ s.te.winder = .winding ∧
      l.followLimit < (s.guideSpeed - s.es.refInForce).natAbs ∧
      ∃ t, s.es.follow = some t ∧ l.followTime * 1000 ≤ unsignedElapsed s.efe.sampleTime t) ∧
    (reports .tripOvertime ↔ guided ∧ ∃ t, s.es.deadline = some t ∧
      1 ≤ unsignedElapsed s.unitTime t ∧ unsignedElapsed s.unitTime t < 2 ^ 31) ∧
    (reports .overwind ↔ toward ∧ ahead ≤ 0) ∧
    (reports .overwindApproach ↔ toward ∧ 0 < ahead ∧ 2 * l.aEmg * ahead < v ^ 2) ∧
    let supervised := c = .a ∨ s.cc.state = .engaged
    let taken : Option Int :=
      if rests ∧ s.te.winder ≠ .preparing ∧ s.te.winder ≠ .prepared ∧ supervised ∧
        v.natAbs ≤ l.standstill ∧ s.lines.brakeApplied = true then some (s.drum c).paidOut else none
    let away (b : Int) := l.driftLimit < ((s.drum c).paidOut - b).natAbs / 1000000
    (reports .unexpectedMotion ↔ rests ∧ supervised ∧ ∃ b, s.es.motion.get c = some b ∧ away b) ∧
    s.superviseNow.motion.get c = (match s.es.motion.get c with
      | none => taken
      | some b => if rests ∧ supervised ∧ away b then taken else some b)

/-- Every command but POWER_ON sends its messages with counts that go on from the last, modulo 256, and
only a Sample record sends one with RUN asserted (R87, R88). A message is 8 bytes: the count, the
reference, RUN, and the CRC-16 of these six (R87). -/
def Obligations.DriveMessagesCountOn : Prop :=
  (∀ (c : Instr) (s t : State), exec c s = .next t → (∀ up, c ≠ .powerOn up) →
    (∀ i (h : i < t.rg.sent.length), t.rg.sent[i].seq = s.rg.seq + BitVec.ofNat 8 i) ∧
    t.rg.seq = s.rg.seq + BitVec.ofNat 8 t.rg.sent.length ∧
    (∀ m ∈ t.rg.sent, m.run = true → ∃ e heads order, c = .sample e heads order) ∧
    ∀ m ∈ t.rg.sent, m.run = false → m.ref = 0) ∧
  ∀ m : DriveMessage, -2 ^ 31 ≤ m.ref → m.ref < 2 ^ 31 →
    let b := driveBytes m
    b.length = 8 ∧ octet b 0 = m.seq.toNat ∧ fieldInt b 1 = m.ref ∧ octet b 5 = m.run.toNat ∧
    b.drop 6 = le16 (crc16 (b.take 6)).toNat

/-! ### The Trip Queue -/

/-- QUEUE_TRIP makes the admission checks in order, and admits the record at the back, or ahead of every
PENDING record, with its target depth and its override held to the mode limit (R52 to R54, R56, R57). The
one-byte place in the reply is the model's choice of width (log 34). -/
def Obligations.QueueTripAdmitsOrRefuses : Prop :=
  ∀ (e : Elapse) (tag : Byte) (id ovr : Nat) (front : Bool) (m : Mode) (target : Target) (x : Int)
    (s : State), s.admits .service = true →
    1 ≤ id → id < 2 ^ 16 → (ovr = 0 ∨ 100 ≤ ovr) → ovr < 2 ^ 16 → -2 ^ 31 ≤ x → x < 2 ^ 31 →
    (match target with | .station l d => l < 256 ∧ d < 256 | .depth y => y = x) →
    let s0 := s.elapse e
    let p := le16 id ++ leBool front ++ le16 ovr ++ le8 m.code ++
      (match target with | .station l d => [0] ++ le8 l ++ le8 d | .depth _ => [1, 0, 0]) ++ leInt x
    let cv := s.convRec .a
    let depth : Int := match target with
      | .station l d => s.levelDepth l - ((d : Int) - 1) * cv.spacing
      | .depth y => y
    let between := cv.top < depth ∧ depth < cv.bottom
    let fails : Option ResultCode :=
      if s.tq.any fun r => r.id = id then some .duplicateId
      else if 12 ≤ s.tq.length then some .queueFull
      else match target with
        | .station l d =>
          match s.level l with
          | none => some .noSuchLevel
          | some v =>
            if v.inService = false then some .levelClosed
            else if d < 1 ∨ cv.decks < d then some .noSuchDeck
            else if v.modes.permits m = false then some .modeForbidden
            else if ¬ between then some .badRange
            else if v.serves ≠ .a then some .wrongLevelKind
            else none
        | .depth _ =>
          if m ≠ .material ∧ m ≠ .inspection then some .addressForbidden
          else if ¬ between then some .badRange
          else none
    let stored := if ovr = 0 then none else some (min ovr (s.limits.ofMode m))
    let r : TripRecord := { id := id, body := .cage m target depth, override := stored,
                            active := false, interrupted := false }
    let place := if front then (if s.activeHead.isSome then 1 else 0) else s.tq.length
    exec (.queueTrip e tag p) s = .next (match fails with
      | some c => s0.answered 0xA2 tag c []
      | none =>
        (({ s0 with tq := s.tq.take place ++ r :: s.tq.drop place }).raise .tripQueued id (uword32 place)
          (uword32 1) (uword32 m.code) (word32 depth)).answered 0xA2 tag .ok
            (le8 place ++ le16 (stored.getD 0) ++ leInt depth))

/-- QUEUE_SKIP_CYCLES makes its checks in order, each on the pocket first, and admits the record on leg
TO_POCKET with its count, 0 standing for 256 (R51, R53, R55 to R57). WITHDRAW removes a PENDING record and
raises TRIP_ENDED WITHDRAWN; the ACTIVE head and an absent id are refused (R58). The one-byte place and
the two-byte cycle count in the reply are the model's choice of width (log 34). -/
def Obligations.SkipCyclesAdmittedAndRecordsWithdrawn : Prop :=
  (∀ (e : Elapse) (tag : Byte) (id ovr pocket tipple count : Nat) (front : Bool) (s : State),
    s.admits .service = true → 1 ≤ id → id < 2 ^ 16 → (ovr = 0 ∨ 100 ≤ ovr) → ovr < 2 ^ 16 →
    pocket < 256 → tipple < 256 → count < 256 →
    let s0 := s.elapse e
    let p := le16 id ++ leBool front ++ le16 ovr ++ le8 pocket ++ le8 tipple ++ le8 count
    let cv := s.convRec .b
    let between (x : Int) := cv.top < x ∧ x < cv.bottom
    let fails : Option ResultCode :=
      if s.tq.any fun r => r.id = id then some .duplicateId
      else if 12 ≤ s.tq.length then some .queueFull
      else match s.level pocket, s.level tipple with
        | some q, some t =>
          if q.inService = false ∨ t.inService = false then some .levelClosed
          else if q.modes.rock = false ∨ t.modes.rock = false then some .modeForbidden
          else if ¬ (between q.depth ∧ between t.depth) then some .badRange
          else if cv.kind ≠ .skip then some .noSkip
          else if ¬ (q.kind = .pocket ∧ q.serves = .b ∧ t.kind = .tipple ∧ t.serves = .b) then
            some .wrongLevelKind
          else none
        | _, _ => some .noSuchLevel
    let n := if count = 0 then 256 else count
    let stored := if ovr = 0 then none else some (min ovr s.limits.rockLimit)
    let r : TripRecord := { id := id, body := .skip pocket tipple n n .toPocket, override := stored,
                            active := false, interrupted := false }
    let place := if front then (if s.activeHead.isSome then 1 else 0) else s.tq.length
    exec (.queueSkipCycles e tag p) s = .next (match fails with
      | some c => s0.answered 0xA3 tag c []
      | none =>
        (({ s0 with tq := s.tq.take place ++ r :: s.tq.drop place }).raise .tripQueued id (uword32 place)
          (uword32 2) (uword32 Mode.rock.code) (uword32 n)).answered 0xA3 tag .ok
            (le8 place ++ le16 (stored.getD 0) ++ le16 n))) ∧
  ∀ (e : Elapse) (tag : Byte) (id : Nat) (s : State), s.admits .service = true → id < 2 ^ 16 →
    let s0 := s.elapse e
    ((∀ r ∈ s.tq, r.id ≠ id) →
      exec (.withdraw e tag (le16 id)) s = .next (s0.answered 0xA4 tag .noSuchTrip [])) ∧
    ∀ (before after : List TripRecord) (r : TripRecord), s.tq = before ++ r :: after → r.id = id →
      (∀ q ∈ before, q.id ≠ id) →
      (r.active = true →
        exec (.withdraw e tag (le16 id)) s = .next (s0.answered 0xA4 tag .isActive [])) ∧
      (r.active = false →
        exec (.withdraw e tag (le16 id)) s =
          .next ((({ s0 with tq := before ++ after }).raise .tripEnded id (uword32 2)
            (uword32 r.body.typeCode) (uword32 r.body.remaining)
            (word32 (s.conv r.body.guide).depth)).answered 0xA4 tag .ok []))

/-! ### Plans and trips -/

/-- The plan that a build makes is in order of distance, a SLOW point before a STOP point of its depth and
no two points alike; its last point is a STOP point at the trip's final depth, every other point lies
beyond the land window and short of the final point by more than it, and at most eight points fit (R68,
R69). The trip speed limit of a build is the least of its bounds (R70), so that no plan built while a
conveyance of a moving drum is UNCERTAIN exceeds the uncertain-position speed. -/
def Obligations.PlanBuildOrdersItsPointsUnderItsLimit : Prop :=
  (∀ (s : State) (r : TripRecord),
    let b := s.build r
    let distance (p : PlanPoint) : Int := b.travel.distance (s.conv r.body.guide).depth p.depth
    let final : PlanPoint :=
      { kind := .stop, depth := s.finalDepth r.body, origin := finalOrigin r.body, watchId := none }
    (∃ before, b.points = before ++ [final] ∧
      ∀ p ∈ before, (s.limits.landWindow : Int) < distance p ∧
        distance p < distance final - s.limits.landWindow ∧ p.origin = .tagged) ∧
    0 ≤ distance final ∧
    b.points.Pairwise (fun p q => distance p < distance q ∨
      (p.depth = q.depth ∧ p.isStop = false ∧ q.isStop = true)) ∧
    (b.fits = true ↔ b.points.length ≤ 8)) ∧
  ∀ (s : State) (r : TripRecord),
    let l := s.limits
    let moves (c : Conv) : Prop := c = .a ∨ r.body.guide = .b ∨ s.cc.state = .engaged
    let bounds : List Nat := [l.ofMode r.body.mode] ++ r.override.toList
      ++ (if s.te.unitMode = .inspection then [l.inspectionLimit] else [])
      ++ (if s.cc.state ≠ .engaged then [l.declutchedSpeed] else [])
    let limit := (s.build r).limit
    let lost := ∃ c, moves c ∧ (s.conv c).certainty = .uncertain
    (∀ v ∈ bounds, limit ≤ v) ∧ (lost → limit ≤ l.uncertainSpeed) ∧
    (limit ∈ bounds ∨ (lost ∧ limit = l.uncertainSpeed))

/-- A build binds the tagged entries of the Watch Table that apply to its record (R152): by trip, by
conveyance, the other one with the clutch ENGAGED only, and by direction; at the entry's own depth, or for
the other conveyance at the guide's depth when it is reached. A STOP or SLOW entry is bound strictly
between the land windows, a NOTIFY entry ahead of the guide up to the final point. Each bound STOP and
SLOW entry has a point of the plan at its depth, two at one depth being one, and each point before the
final one is a bound entry's (R68, R69, R152). The planned leg time is that of R73 over the distance of
the first stop point. A build that is adopted replaces the plan, its limit, its leg time and every
binding, clears the latch and the label, and keeps ref_prev (R69, R152). -/
def Obligations.BuildBindsTheTaggedEntries : Prop :=
  (∀ (s : State) (r : TripRecord),
    let b := s.build r
    let guide := r.body.guide
    let here := (s.conv guide).depth
    let finish := s.finalDepth r.body
    let window : Int := s.limits.landWindow
    let distance (x : Int) : Int := if here ≤ finish then x - here else here - x
    let downward (c : Conv) : Prop := c = guide ↔ here ≤ finish
    let applies (w : WatchEntry) : Prop :=
      w.binding = .tagged ∧ (w.trip = none ∨ w.trip = some r.id) ∧
      (w.conv = guide ∨ s.cc.state = .engaged) ∧
      (w.facing = .either ∨ (w.facing = .down ∧ downward w.conv) ∨ (w.facing = .up ∧ ¬ downward w.conv))
    let depth (w : WatchEntry) : Int :=
      if w.conv = guide then w.depth else here + (s.conv w.conv).depth - w.depth
    let inside (x : Int) : Prop := window < distance x ∧ distance x < distance finish - window
    let entry (id : Nat) := tableGet b.entries id
    b.guide = guide ∧ b.travel = (if here ≤ finish then .down else .up) ∧
    (∀ id, s.watch id = none → entry id = none) ∧
    (∀ id w, s.watch id = some w →
      let x := depth w
      let bound (o : Option (BindKind × Int)) := entry id = some { w with bound := o }
      let fits := applies w ∧ -200000 ≤ x ∧ x ≤ 3400000
      (¬ fits → bound none) ∧
      (fits → w.action = .notify → 0 < distance x → distance x ≤ distance finish →
        bound (some (.notify, x))) ∧
      (w.action = .notify → distance x ≤ 0 ∨ distance finish < distance x → bound none) ∧
      (fits → w.action = .stop → inside x → bound (some (.stop, x))) ∧
      (fits → ∀ cap, w.action = .slow cap → inside x → bound (some (.slow, x))) ∧
      (w.action ≠ .notify → ¬ inside x → bound none)) ∧
    (∀ id w x, entry id = some w →
      (w.bound = some (.stop, x) →
        ∃ p ∈ b.points, p.kind = .stop ∧ p.depth = x ∧ ∃ i ≤ id, p.watchId = some i) ∧
      (w.bound = some (.slow, x) → ∀ cap, w.action = .slow cap →
        ∃ p ∈ b.points, p.depth = x ∧ ∃ c ≤ cap, p.kind = .slow c)) ∧
    (∀ p ∈ b.points.dropLast, ∃ id w, p.watchId = some id ∧ entry id = some w ∧
      ((p.kind = .stop ∧ w.bound = some (.stop, p.depth)) ∨
        ∃ cap, p.kind = .slow cap ∧ w.action = .slow cap ∧ w.bound = some (.slow, p.depth))) ∧
    b.legTime = legTime s.limits
      ((((legOf b.points).find? PlanPoint.isStop).map fun p => distance p.depth).getD 0) b.limit) ∧
  (∀ (l : Limits) (x : Int) (limit : Nat),
    let up (n d : Nat) : Nat := (n + d - 1) / d
    let d := x.toNat
    let vc := min l.vCreep limit
    let d' := d - l.dCreep
    let sa := up (limit ^ 2) (2 * l.aAcc)
    let sd := up (limit ^ 2 - vc ^ 2) (2 * l.aDec)
    let time (v cruise : Nat) : Nat := up (v * 1000) l.aAcc + up (cruise * 1000) v +
      up ((v - vc) * 1000) l.aDec + up (l.dCreep * 1000) vc
    (d ≤ l.dCreep → legTime l x limit = up (vc * 1000) l.aAcc + up (d * 1000) vc) ∧
    (l.dCreep < d → sa + sd ≤ d' → legTime l x limit = time limit (d' - sa - sd)) ∧
    (l.dCreep < d → d' < sa + sd → legTime l x limit = time
      (max vc (Nat.sqrt ((2 * l.aAcc * l.aDec * d' + l.aAcc * vc ^ 2) / (l.aAcc + l.aDec)))) 0)) ∧
  ∀ (b : Built) (s : State),
    s.adopt b = { s with
      rg := { s.rg with plan := some b.points, guide := b.guide, travel := b.travel, limit := b.limit
                        legTime := b.legTime, latch := false, label := .none }
      wt := b.entries }

/-- SET_SERVICE ON takes the winder from STOOD_DOWN to IDLE after its checks, in order, and answers OK in
IDLE; SET_SERVICE OFF takes it from IDLE to STOOD_DOWN, discarding the queue; both are refused in every
other state; SET_MODE sets the unit mode in IDLE alone (R120 to R122). -/
def Obligations.ServiceAndModeRequests : Prop :=
  ∀ (e : Elapse) (tag : Byte) (inspection : Bool) (s : State), s.takesFrame = true →
    let s0 := s.elapse e
    let grave := s.pendingKinds.any fun k => 2 ≤ (s.severity k).val
    exec (.setServiceOn e tag) s = .next
      (if s.te.winder = .idle then s0.answered 0xA0 tag .ok []
      else if s.te.winder ≠ .stoodDown then s0.answered 0xA0 tag .wrongState []
      else if s.ds.storeState = .writing then s0.answered 0xA0 tag .busy []
      else if s.ds.uncommitted = true then s0.answered 0xA0 tag .uncommitted []
      else match validate s.ds.desc with
        | some (n, item) => s0.answered 0xA0 tag .invalidDescription (le8 n ++ le8 item)
        | none =>
          if grave = true then s0.answered 0xA0 tag .faultsPending []
          else if s0.lines.brakeApplied = false then s0.answered 0xA0 tag .wrongState []
          else (s0.enter .idle (.request 0x20) 0).answered 0xA0 tag .ok []) ∧
    exec (.setServiceOff e tag) s = .next
      (if s.te.winder = .stoodDown then s0.answered 0xA0 tag .ok []
      else if s.te.winder ≠ .idle then s0.answered 0xA0 tag .wrongState []
      else (s0.discardQueue.enter .stoodDown (.request 0x20) 0).answered 0xA0 tag .ok []) ∧
    (s.admits .service = true →
      exec (.setMode e tag (leBool inspection)) s = .next
        (if s.te.winder = .idle then
          { s0 with te := { s.te with
            unitMode := if inspection then .inspection else .normal } }.answered 0xA1 tag .ok []
        else s0.answered 0xA1 tag .wrongState []))

/-- PREPARE makes its checks in order and activates the head: the record becomes ACTIVE, the plan is held,
the cage takes its load class, and PREPARING begins in phase SIGNAL, which SIGNAL_OK ends at once (R123 to
R125). A cage's load class follows the mode, and a change of class steps the depth by R31 and R32; a skip
record already within the land window of its end point is put on that end's dwell, and otherwise on the
leg toward it (R50, R124). The one-byte count of points in the reply is the model's choice of width (log
34), and so is the moment at which SHAFT_STOP is tested (log 27). -/
def Obligations.PrepareActivatesTheHead : Prop :=
  (∀ (e : Elapse) (tag : Byte) (id : Nat) (s : State), s.admits .service = true → id < 2 ^ 16 →
    let s0 := s.elapse e
    let refuse (c : ResultCode) := exec (.prepare e tag (le16 id)) s = .next (s0.answered 0xA5 tag c [])
    (s.te.winder ≠ .idle → refuse .wrongState) ∧
    (s.te.winder = .idle → s.tq = [] → refuse .noSuchTrip) ∧
    ∀ (r : TripRecord) (rest : List TripRecord), s.te.winder = .idle → s.tq = r :: rest →
      let man := r.body.mode = .man
      let b := s.build r
      let clutchFits := s.cc.state = .engaged ∨ (s.cc.state = .released ∧ declutchedTrip r.body = true)
      let certain := (s.conv .a).certainty ≠ .uncertain ∧
        (s.cc.state = .engaged → (s.conv .b).certainty ≠ .uncertain)
      let other := r.body.guide.other
      let passiveEnd := (s.conv other).depth - (s.finalDepth r.body - (s.conv r.body.guide).depth)
      let passes := s.cc.state = .engaged →
        (s.convRec other).top < passiveEnd ∧ passiveEnd < (s.convRec other).bottom
      let heavy := (s.convRec .b).kind = .skip ∧ (s.conv .b).loadClass = .rock
      (r.id ≠ id → refuse .notHead) ∧
      (r.id = id → ¬ clutchFits → refuse .clutchState) ∧
      (r.id = id → clutchFits → man → ¬ certain → refuse .positionUncertain) ∧
      (r.id = id → clutchFits → man → certain → heavy → refuse .balance) ∧
      (r.id = id → clutchFits → (man → certain ∧ ¬ heavy) →
        (¬ passes → refuse .passiveLimit) ∧
        (passes → 8 < b.points.length →
          exec (.prepare e tag (le16 id)) s =
            .next (s0.answered 0xA5 tag .planFull (le8 b.points.length))) ∧
        (passes → b.points.length ≤ 8 →
          let u := ((({ s0 with tq :=
              { r with active := true, interrupted := false, body := s.activatedBody r.body }
                :: rest }).adopt b).loadFor r.body)
          let w := { u with te := { s.te with heldStart := false, laterLeg := false } }
          let v := ({ w with te := { w.te with phase := .signal } }).enter .preparing (.request 0x25) id
          let t := if s0.lines.signalOk then v.enterGates
            else { v with te := { v.te with readiness := some (s0.after (1000 * s.limits.signalWait)) } }
          let accepted (t : State) := exec (.prepare e tag (le16 id)) s =
            .next (t.answered 0xA5 tag .accepted
              (le16 b.limit ++ le8 b.points.length ++ leNat32 b.legTime))
          accepted (w.enterPreparing .signal (.request 0x25)) ∧
            (s0.lines.shaftStop = false → accepted t)))) ∧
  (∀ (m : Mode) (target : Target) (x : Int) (s : State),
    s.activatedBody (.cage m target x) = .cage m target x ∧
    s.loadFor (.cage m target x) = s.setLoadClass .a (match m with
      | .man => .persons
      | .material | .inspection => .material
      | .rock => .empty)) ∧
  (∀ (pocket tipple count left : Nat) (leg : Leg) (s : State),
    let body (leg : Leg) : TripBody := .skip pocket tipple count left leg
    let near (i : Nat) := mag ((s.conv .b).depth - s.levelDepth i) ≤ s.limits.landWindow
    s.loadFor (body leg) = s ∧
    (leg = .toPocket ∨ leg = .loading →
      s.activatedBody (body leg) = body (if near pocket then .loading else .toPocket)) ∧
    (leg = .toTipple ∨ leg = .dumping →
      s.activatedBody (body leg) = body (if near tipple then .dumping else .toTipple))) ∧
  ∀ (c : Conv) (k : LoadClass) (s : State),
    let m := s.conv c
    let travel := ((s.drum c).paidOut - paidOut (s.layers c) m.datumCount).tdiv 1000000
    let hanging := max (m.datumDepth + travel + (s.convRec c).ropeOffset) 0
    let stretch := (hanging * ((s.convRec c).stretch.coeff k : Int)).tdiv 1000000
    (m.loadClass = k → s.setLoadClass c k = s) ∧
    (m.loadClass ≠ k →
      s.setLoadClass c k = { s with pm := { s.pm with convs := s.pm.convs.set c { m with
        loadClass := k, prevDepth := m.depth
        depth := m.datumDepth + travel + (stretch - m.sDatum) + m.correction } } })

/-- START begins to wind from PREPARED, is held in PREPARING, and in HELD builds a plan from the present
depth and prepares again from phase TORQUE; it is refused in every other state (R128). STOP abandons a
readiness sequence, begins STOPPING with reason REQUEST, is deferred in a landing, interrupts a trip in
HELD or DWELL, and changes nothing in STOPPING (R129). That a stop of reason REQUEST clears the stop watch
id is the model's choice (log 28). -/
def Obligations.StartAndStopByTheStateTheyFind : Prop :=
  (∀ (e : Elapse) (tag : Byte) (id : Nat) (s : State), s.admits .service = true → id < 2 ^ 16 →
    let s0 := s.elapse e
    let refuse (c : ResultCode) := exec (.start e tag (le16 id)) s = .next (s0.answered 0xA6 tag c [])
    (s.te.winder = .stopping → refuse .stopping) ∧
    (s.te.winder = .idle ∨ s.te.winder = .tripped → refuse .notPrepared) ∧
    (s.te.winder = .winding ∨ s.te.winder = .dwell → refuse .wrongState) ∧
    (s.te.winder = .preparing ∨ s.te.winder = .prepared ∨ s.te.winder = .held →
      (∀ r, s.activeHead = some r → r.id ≠ id) → refuse .notHead) ∧
    ∀ r, s.activeHead = some r → r.id = id →
      (s.te.winder = .preparing →
        exec (.start e tag (le16 id)) s =
          .next ({ s0 with te := { s.te with heldStart := true } }.answered 0xA6 tag .accepted [])) ∧
      (s.te.winder = .prepared →
        let u := s0.enter .winding (.request 0x26) id
        let slack := (s.rg.legTime * (100 + s.limits.overtimeSlack) + 99) / 100
        exec (.start e tag (le16 id)) s =
          .next ({ u with es := { u.es with
            deadline := some ((s0.unitTime + slack + s.limits.overtimeFixed * 1000) % 2 ^ 32)
            legStart := some (s.drum s.rg.guide).paidOut, progress := 0, follow := none } }.answered
              0xA6 tag .accepted [])) ∧
      (s.te.winder = .held → 8 < (s.build r).points.length →
        exec (.start e tag (le16 id)) s =
          .next (s0.answered 0xA6 tag .planFull (le8 (s.build r).points.length))) ∧
      (s.te.winder = .held → (s.build r).points.length ≤ 8 →
        let u := s0.adopt (s.build r)
        exec (.start e tag (le16 id)) s =
          .next ((({ u with te := { s.te with heldStart := true } }).enterPreparing .torque
            (.request 0x26)).answered 0xA6 tag .accepted []))) ∧
  ∀ (e : Elapse) (tag : Byte) (id : Nat) (s : State), s.admits .service = true → id < 2 ^ 16 →
    let s0 := s.elapse e
    let answers (t : State) (c : ResultCode) :=
      exec (.stop e tag (le16 id)) s = .next (t.answered 0xA7 tag c [])
    (s.te.winder = .idle ∨ s.te.winder = .tripped → answers s0 .notPrepared) ∧
    (s.te.winder.tripActive = true → (∀ r, s.activeHead = some r → r.id ≠ id) →
      answers s0 .notHead) ∧
    ∀ r, s.activeHead = some r → r.id = id →
      (s.te.winder = .preparing ∨ s.te.winder = .prepared ∨ s.te.winder = .held ∨ s.te.winder = .dwell →
        answers (s0.interrupt.enter .idle (.request 0x27) id) .ok) ∧
      (s.te.winder = .winding → s.te.rest = .none →
        answers (({ s0 with te := { s.te with
          stopReason := .request, stopWatch := none } }).enter .stopping (.request 0x27) id) .accepted) ∧
      (s.te.winder = .winding → s.te.rest ≠ .none →
        answers { s0 with te := { s.te with deferred := .request } } .accepted) ∧
      (s.te.winder = .stopping → answers s0 .ok)

/-- RETARGET of a winding cage trip: the checks in their order, those of the target as for its admission,
and the plan rebuilt to the new target with the reference kept and the overtime deadline set afresh (R52,
R54, R74, R84 to R86). -/
def Obligations.RetargetRebuildsThePlan : Prop :=
  ∀ (e : Elapse) (tag : Byte) (id : Nat) (target : Target) (y : Int) (s : State),
    s.admits .service = true → id < 2 ^ 16 → -2 ^ 31 ≤ y → y < 2 ^ 31 →
    (match target with | .station l d => l < 256 ∧ d < 256 | .depth z => z = y) →
    let s0 := s.elapse e
    let p := le16 id ++
      (match target with | .station l d => [0] ++ le8 l ++ le8 d | .depth _ => [1, 0, 0]) ++ leInt y
    let cv := s.convRec .a
    let x : Int := match target with
      | .station l d => s.levelDepth l - ((d : Int) - 1) * cv.spacing
      | .depth z => z
    let between := cv.top < x ∧ x < cv.bottom
    let fails (m : Mode) : Option ResultCode := match target with
      | .station l d =>
        match s.level l with
        | none => some .noSuchLevel
        | some v =>
          if v.inService = false then some .levelClosed
          else if d < 1 ∨ cv.decks < d then some .noSuchDeck
          else if v.modes.permits m = false then some .modeForbidden
          else if ¬ between then some .badRange
          else if v.serves ≠ .a then some .wrongLevelKind
          else none
      | .depth _ =>
        if m ≠ .material ∧ m ≠ .inspection then some .addressForbidden
        else if ¬ between then some .badRange
        else none
    let refuse (c : ResultCode) := exec (.retarget e tag p) s = .next (s0.answered 0xA8 tag c [])
    (s.te.winder = .stopping ∨ s.te.deferred ≠ .none → refuse .stopping) ∧
    (s.te.winder ≠ .stopping → s.te.winder ≠ .winding → s.te.deferred = .none → refuse .wrongState) ∧
    ∀ r, s.te.winder = .winding → s.te.deferred = .none → s.activeHead = some r →
      (r.body.guide = .b → refuse .wrongState) ∧
      (r.body.guide = .a → r.id ≠ id → refuse .notHead) ∧
      (r.body.guide = .a → r.id = id →
        let l := s.limits
        let distance := s.rg.travel.distance (s.conv .a).depth x
        let needed := if l.vCreep < s.rg.refPrev then
            (s.rg.refPrev ^ 2 - l.vCreep ^ 2 + 2 * l.aDec - 1) / (2 * l.aDec) + l.dCreep
          else 0
        let r' : TripRecord := { r with body := .cage r.body.mode target x }
        let b := s.build r'
        let late := exec (.retarget e tag p) s =
          .next (s0.answered 0xA8 tag .tooLate (leNat32 needed ++ leInt distance))
        (∀ c, fails r.body.mode = some c → refuse c) ∧
        (fails r.body.mode = none →
          (s.rg.latch = true → late) ∧
          (s.rg.latch = false → distance ≤ 0 → refuse .wrongDirection) ∧
          (s.rg.latch = false → 0 < distance → distance < needed ∨ b.limit < s.rg.refPrev → late) ∧
          (s.rg.latch = false → 0 < distance → (needed : Int) ≤ distance → s.rg.refPrev ≤ b.limit →
            (8 < b.points.length →
              exec (.retarget e tag p) s =
                .next (s0.answered 0xA8 tag .planFull (le8 b.points.length))) ∧
            (b.points.length ≤ 8 →
              let u := { s0.adopt b with tq := r' :: s.tq.tail }
              let deadline := (s0.unitTime + (b.legTime * (100 + l.overtimeSlack) + 99) / 100 +
                l.overtimeFixed * 1000) % 2 ^ 32
              exec (.retarget e tag p) s =
                .next ((({ u with es := { s.es with deadline := some deadline } }).raise
                  .tripRetargeted id (word32 x) (word32 distance) (uword32 b.limit)
                  (uword32 b.legTime)).answered 0xA8 tag .ok [])))))

/-! ### The sequences -/

/-- SIGNAL_OK ends phase SIGNAL, and the GATES test follows: an open gate of an in-service level abandons
the sequence and is then reported, the lowest such line; with none open a record prepared into a dwell
enters it, and any other enters phase TORQUE with W1 running (R124, R125, R127, R133, R134). A SIGNAL_OK
that is asserted already is no change, and nothing acts on it (R1, log 40). That the failed test abandons
the sequence with cause 0 is the model's choice (log 26). -/
def Obligations.SignalOkEndsTheSignalPhase : Prop :=
  (∀ (e : Elapse) (s : State),
    let s0 := { s.elapse e with lines := { (s.elapse e).lines with signalOk := true } }
    (s.te.winder ≠ .preparing ∨ s.te.phase ≠ .signal ∨ (s.elapse e).lines.signalOk = true →
      exec (.signalOkAsserted e) s = .next s0) ∧
    (s.te.winder = .preparing → s.te.phase = .signal → (s.elapse e).lines.signalOk = false →
      exec (.signalOkAsserted e) s =
        .next { s0 with te := { s.te with phase := .gates, readiness := none } }.gatesTest)) ∧
  ∀ u : State,
    let supervised (g : Fin 16) := ∃ i l, u.level i = some l ∧ l.inService = true ∧ l.gate = some g
    let open_ (g : Fin 16) := supervised g ∧ u.lines.gates[g.val] = false
    (∀ g, open_ g → (∀ h, open_ h → g ≤ h) →
      u.gatesTest = (u.interrupt.enter .idle .sequence u.activeId).report (bare .gateOpen g)) ∧
    ((∀ g, ¬ open_ g) → ∀ r, u.activeHead = some r →
      (∀ k, dwellOf r.body = some k →
        let wait := match k with | .loading => u.limits.loadWait | .dumping => u.limits.dumpWait
        u.gatesTest = ({ u with te := { u.te with
          dwell := k, readiness := none, dwellTimer := some (u.after (1000 * wait)) } }).enter .dwell
            .sequence r.id) ∧
      (dwellOf r.body = none →
        let v := { u with te := { u.te with
          phase := .torque, readiness := some (u.after (100 * u.limits.waitTorque)) } }
        u.gatesTest = if u.limits.waitTorque = 0 then v.torqueEnd else v))

/-- The expiries of the readiness timer: the signal wait fails its phase; W1 goes on to RELEASE where
TORQUE_OK is asserted, W2 to SETTLE where BRAKE_RELEASED is; W3 begins to wind where START is held or a
later leg runs, and otherwise gives PREPARED; a failed phase interrupts the trip in IDLE and is then
reported (R125 to R127). A dwell begins with its timer running and the record on its leg (R61, R133,
R134); its timer's expiry and the brake timer's are reported, and the timer is not started again (R130,
R135). That a failed phase changes the state with cause 0 (log 26), that the held START is not cleared
where WINDING begins (log 27), and that the device remembers the expiry of the brake timer (log 13), are
the model's choices. -/
def Obligations.ReadinessDwellAndBrakeTimers : Prop :=
  (∀ (e : Elapse) (t : Nat) (s : State), s.te.winder = .preparing → s.te.readiness = some t →
    let s0 := (s.elapse e).reach t
    let u := { s0 with te := { s.te with readiness := none } }
    let fail (k : FaultKind) : State :=
      (u.interrupt.enter .idle .sequence s.activeId).report (bare k 0)
    (s.te.phase = .signal → exec (.signalWaitExpiry e) s = .next (fail .signalTimeout)) ∧
    (s.te.phase = .torque →
      exec (.torqueWaitExpiry e) s = .next
        (if s0.lines.torqueOk = false then fail .torqueNotProven
        else
          let v := { u with te := { s.te with
            phase := .release, readiness := some (s0.after (100 * s.limits.waitRelease)) } }
          if s.limits.waitRelease = 0 then v.releaseEnd else v)) ∧
    (s.te.phase = .release →
      exec (.releaseWaitExpiry e) s = .next
        (if s0.lines.brakeReleased = false then fail .brakeNotReleased
        else
          let v := { u with te := { s.te with
            phase := .settle, readiness := some (s0.after (100 * s.limits.waitSettle)) } }
          if s.limits.waitSettle = 0 then v.settleEnd else v)) ∧
    (s.te.phase = .settle →
      exec (.settleWaitExpiry e) s = .next
        (if s.te.heldStart = true ∨ s.te.laterLeg = true then
          let w := ({ u with te := { u.te with laterLeg := false } }).enter .winding .sequence s.activeId
          let slack := (s.rg.legTime * (100 + s.limits.overtimeSlack) + 99) / 100
          { w with es := { w.es with
            deadline := some ((s0.unitTime + slack + s.limits.overtimeFixed * 1000) % 2 ^ 32)
            legStart := some (s.drum s.rg.guide).paidOut, progress := 0, follow := none } }
        else u.enter .prepared .sequence s.activeId))) ∧
  ∀ (e : Elapse) (t : Nat) (s : State),
    let s0 := (s.elapse e).reach t
    let stopped := { s0 with te := { s.te with dwellTimer := none } }
    (∀ r rest, s.tq = r :: rest → r.active = true →
      s.enterDwell .loading =
        ({ s with
          te := { s.te with
            dwell := .loading, readiness := none
            dwellTimer := some (s.after (1000 * s.limits.loadWait)) }
          tq := { r with body := r.body.onLeg .loading } :: rest }).enter .dwell .sequence r.id ∧
      s.enterDwell .dumping =
        ({ s with
          te := { s.te with
            dwell := .dumping, readiness := none
            dwellTimer := some (s.after (1000 * s.limits.dumpWait)) }
          tq := { r with body := r.body.onLeg .dumping } :: rest }).enter .dwell .sequence r.id) ∧
    (s.te.winder = .dwell → s.te.dwellTimer = some t →
      (s.te.dwell = .loading →
        exec (.loadWaitExpiry e) s = .next (stopped.report (bare .loadTimeout 0))) ∧
      (s.te.dwell = .dumping →
        exec (.dumpWaitExpiry e) s = .next (stopped.report (bare .dumpTimeout 0)))) ∧
    (s.te.brake = some t →
      exec (.brakeTimerExpiry e) s =
        .next (({ s0 with te := { s.te with brake := none, brakeExpired := true } }).report
          (bare .brakeNotApplied 0)))

/-- BRAKE_APPLIED confirms the brakes while the brake timer runs: a landing at the target completes the
trip, at a pocket or a tipple begins the dwell, at a tagged stop holds the trip and tells the Watch Table;
a stop ends in HELD for reason WATCH and otherwise interrupts the trip (R130, R131, R140). What a deferred
stop does at a landing's end (log 25) and that the stop watch id is kept (log 28) are the model's choices.
A BRAKE_APPLIED that is asserted already is no change, and nothing acts on it (R1, log 40). -/
def Obligations.BrakesConfirmedEndTheLandingOrStop : Prop :=
  ∀ (e : Elapse) (s : State),
    let s0 := { s.elapse e with lines := { (s.elapse e).lines with brakeApplied := true } }
    let u := { s0 with te := { s.te with brake := none, rest := .none } }
    let idle (t : State) : State := t.interrupt.enter .idle .sequence t.activeId
    let rest := s.te.rest = .brakeConfirm ∧ s.te.brake.isSome = true ∧
      (s.elapse e).lines.brakeApplied = false
    (¬ rest → exec (.brakeAppliedAsserted e) s = .next s0) ∧
    (rest → s.te.winder = .stopping →
      let v := { u with fm := { s.fm with stopOrder := false } }
      exec (.brakeAppliedAsserted e) s = .next
        (if s.te.stopReason = StopReason.watch then
          (({ v with rg := { v.rg with refPrev := 0 } }).enter .held .sequence s.activeId).raise
            .tripHeld s.activeId (uword32 (s.te.stopWatch.getD 0)) (word32 s.guideDepth)
            (word32 s.distanceToGo) 0
        else idle v)) ∧
    ∀ p, rest → s.te.winder = .winding → s.rg.stop = some p →
      let v := { u with fm := { s.fm with
        stopOrder := if s.te.deferred = DeferredStop.none then s.fm.stopOrder else false } }
      let after (t : State) : State := if s.te.deferred = DeferredStop.none then t else idle t
      (p.origin = .target →
        exec (.brakeAppliedAsserted e) s =
          .next ((v.raise .tripLanded s.activeId (word32 p.depth) (word32 s.guideDepth)
            (word32 s.distanceToGo) 0).complete.enter .idle .sequence s.activeId)) ∧
      (p.origin = .pocket →
        exec (.brakeAppliedAsserted e) s = .next (after (v.enterDwell .loading))) ∧
      (p.origin = .tipple →
        exec (.brakeAppliedAsserted e) s = .next (after (v.enterDwell .dumping))) ∧
      (p.origin = .tagged →
        exec (.brakeAppliedAsserted e) s =
          .next (after (((v.enter .held .sequence s.activeId).raise .tripHeld s.activeId
            (uword32 (p.watchId.getD 0)) (word32 s.guideDepth) (word32 s.distanceToGo) 0).watchReached
              p.depth)))

/-- The Trip Executive's part of a Sample record: where the record found rest step TO_REST in WINDING, and
in STOPPING with rest step NONE, standstill of the winder begins BRAKE_CONFIRM, with BRAKE_RELEASE
withdrawn and the brake timer running for the brake confirm time, and BRAKE_APPLIED, if it is asserted,
confirms at once; without standstill the brake timer runs while a drum's run is LOST, from the first such
record, and is stopped otherwise (R130, R140). In every other case nothing is done. That a landing is
tested from the record after the one that sets the latch (log 24), and that nothing is tested once the
brake timer has expired (log 13), are the model's choices. -/
def Obligations.ExecutiveTestsStandstill : Prop :=
  (∀ (found : RestStep) (s : State),
    let t := s.takeExecutive found
    let timer := s.after s.limits.brakeConfirm
    let confirm : State := { s with te := { s.te with rest := .brakeConfirm, brake := some timer } }
    let lost := ∃ c, (s.drum c).run = .lost
    let tests := s.te.brakeExpired = false ∧
      ((s.te.winder = .winding ∧ found = .toRest ∧ s.te.rest = .toRest) ∨
        (s.te.winder = .stopping ∧ s.te.rest = .none))
    (¬ tests → t = s) ∧
    (tests → s.atStandstill = true →
      confirm.brakeRelease = false ∧
      (s.lines.brakeApplied = false → t = confirm) ∧
      (s.lines.brakeApplied = true → t = confirm.brakesConfirmed)) ∧
    (tests → s.atStandstill = false →
      (lost → t = { s with te := { s.te with brake := some (s.te.brake.getD timer) } }) ∧
      (¬ lost → t = { s with te := { s.te with brake := none } }))) ∧
  ∀ (e : Elapse) (s : State),
    let s0 := s.elapse e
    s0.lines.brakeApplied = false → s.te.rest = .brakeConfirm → s.te.brake.isSome = true →
    exec (.brakeAppliedAsserted e) s =
      .next { s0 with lines := { s0.lines with brakeApplied := true } }.brakesConfirmed

/-- SKIP_LOADED and SKIP_DUMPED in their dwells: the load class changes and the depth of B with it, the
record goes on to its next leg, whose plan is built with PREPARING from phase TORQUE where the passive
limit and the build allow, and a last cycle completes the record; elsewhere the signal is reported (R133
to R136). A signal that is asserted already is no change, and nothing acts on it (R1, R135, log 40). -/
def Obligations.SkipSignalsEndTheDwell : Prop :=
  ∀ (e : Elapse) (s : State),
    let loaded := { s.elapse e with lines := { (s.elapse e).lines with skipLoaded := true } }
    let dumped := { s.elapse e with lines := { (s.elapse e).lines with skipDumped := true } }
    let onward (t : State) (r : TripRecord) : State :=
      if t.passiveFits r.body = true ∧ (t.build r).fits = true then
        let u := t.adopt (t.build r)
        ({ u with te := { u.te with laterLeg := true } }).enterPreparing .torque .sequence
      else t.interrupt.enter .idle .sequence r.id
    let freshLoad := (s.elapse e).lines.skipLoaded = false
    let freshDump := (s.elapse e).lines.skipDumped = false
    (¬ freshLoad → exec (.skipLoadedAsserted e) s = .next loaded) ∧
    (¬ freshDump → exec (.skipDumpedAsserted e) s = .next dumped) ∧
    (freshLoad → ¬ (s.te.winder = .dwell ∧ s.te.dwell = .loading) →
      exec (.skipLoadedAsserted e) s = .next (loaded.report (bare .unexpectedSignal 1))) ∧
    (freshDump → ¬ (s.te.winder = .dwell ∧ s.te.dwell = .dumping) →
      exec (.skipDumpedAsserted e) s = .next (dumped.report (bare .unexpectedSignal 2))) ∧
    ∀ (id pocket tipple count left : Nat) (leg : Leg) (ovr : Option Nat) (i : Bool)
      (rest : List TripRecord),
      let rec_ (left : Nat) (leg : Leg) : TripRecord :=
        { id := id, body := .skip pocket tipple count left leg, override := ovr, active := true,
          interrupted := i }
      s.te.winder = .dwell → s.tq = rec_ left leg :: rest →
      (freshLoad → s.te.dwell = .loading →
        let u := ({ loaded with te := { s.te with dwellTimer := none } }).setLoadClass .b .rock
        exec (.skipLoadedAsserted e) s =
          .next (onward { u with tq := rec_ left .toTipple :: rest } (rec_ left .toTipple))) ∧
      (freshDump → s.te.dwell = .dumping →
        let u := ({ dumped with te := { s.te with dwellTimer := none } }).setLoadClass .b .empty
        let v := ({ u with tq := rec_ (left - 1) leg :: rest }).raise .cycleDone id
          (uword32 (left - 1)) (uword32 (count - (left - 1))) (word32 (u.conv .b).depth) 0
        exec (.skipDumpedAsserted e) s =
          .next (if left - 1 = 0 then v.complete.enter .idle .sequence id
            else onward { v with tq := rec_ (left - 1) .toPocket :: rest }
              (rec_ (left - 1) .toPocket)))

/-- RESET_TRIP returns the winder to its service return, discarding the queue on a return to STOOD_DOWN;
CLEAR_LOCKOUT with the key clears the flags of severity 3, discards the queue and stands the winder down;
each makes its checks in order (R143, R144). RESTART in STOOD_DOWN, IDLE or TRIPPED empties the queues and
the Watch Table, clears the pending flags, unpairs the encoders, returns the items of the trip to their
values and stands the winder down, the change being the first record of the emptied Event Queue; the
description, the positions, the clutch state, the log, the counts and the motion baselines are kept;
elsewhere it is refused (R145 and the values each block takes after RESTART). Phase SIGNAL and dwell kind
LOADING after RESTART are the model's choice, as the table of R116 gives neither a value (log 11). -/
def Obligations.RecoveriesAndRestart : Prop :=
  (∀ (e : Elapse) (tag : Byte) (s : State), s.takesFrame = true →
    let s0 := s.elapse e
    let grave := s.pendingKinds.any fun k => 2 ≤ (s.severity k).val
    (s.admits .service = true →
      exec (.resetTrip e tag []) s = .next
        (if s.te.winder ≠ .tripped then s0.answered 0xAD tag .wrongState []
        else if s.atStandstill = false then s0.answered 0xAD tag .notStandstill []
        else if s0.lines.emergencyIn = false then s0.answered 0xAD tag .wrongState []
        else if grave = true then s0.answered 0xAD tag .faultsPending []
        else (match s.te.serviceReturn with
          | .idle => s0.enter .idle (.request 0x2D) 0
          | .stoodDown => s0.discardQueue.enter .stoodDown (.request 0x2D) 0).answered
            0xAD tag .ok [])) ∧
    (s.te.winder ≠ .lockedOut →
      exec (.clearLockout e tag []) s = .next (s0.answered 0xAE tag .wrongState [])) ∧
    (s.te.winder = .lockedOut → s0.lines.keyOk = false →
      exec (.clearLockout e tag []) s = .next (s0.answered 0xAE tag .keyAbsent [])) ∧
    (s.te.winder = .lockedOut → s0.lines.keyOk = true → s.atStandstill = false →
      exec (.clearLockout e tag []) s = .next (s0.answered 0xAE tag .notStandstill [])) ∧
    (s.te.winder = .lockedOut → s0.lines.keyOk = true → s.atStandstill = true →
      ∃ t : State, exec (.clearLockout e tag []) s = .next (t.answered 0xAE tag .ok []) ∧
        t.te.winder = .stoodDown ∧ t.tq = [] ∧ t.fm.inForce = none ∧
        (∀ k, t.isPending k = (s.isPending k && s.severity k != 3)) ∧
        t.fm.counts = s.fm.counts ∧ t.fm.first = s.fm.first ∧ t.fm.later = s.fm.later ∧
        t.ds = s.ds ∧ t.pm = s.pm ∧ t.wt = s.wt ∧ t.cc = s.cc ∧ t.lines = s0.lines ∧
        t.clock = s0.clock ∧ t.pending = s.pending ∧
        (s.isPending .encoderDisagree = false ∨ s.severity .encoderDisagree ≠ 3 → t.efe = s.efe) ∧
        ∃ old, t.link.events = old ++
          [{ kind := .stateChanged, trip := 0, time := s0.unitTime, v1 := 1, v2 := 10, v3 := 0,
             v4 := packBytes 0x2E 1 0 0 }])) ∧
  ∀ (e : Elapse) (tag : Byte) (s : State), s.takesFrame = true →
    let s0 := s.elapse e
    let unpaired (f : DrumFront) : DrumFront := { f with offset := none, disagree := false }
    (s.te.winder ≠ .stoodDown → s.te.winder ≠ .idle → s.te.winder ≠ .tripped →
      exec (.restart e tag []) s = .next (s0.answered 0xAF tag .wrongState [])) ∧
    (s.te.winder = .stoodDown ∨ s.te.winder = .idle ∨ s.te.winder = .tripped →
      ∃ t : State, exec (.restart e tag []) s = .next (t.answered 0xAF tag .ok []) ∧
        t.tq = [] ∧ t.wt = Vector.replicate 16 none ∧ (∀ k, t.isPending k = false) ∧
        t.efe = { s.efe with drums := ⟨unpaired s.efe.drums.a, unpaired s.efe.drums.b⟩ } ∧
        t.te = { s.te with
          winder := .stoodDown, phase := .signal, rest := .none, stopReason := .none
          deferred := .none, heldStart := false, dwell := .loading, readiness := none, brake := none
          dwellTimer := none, unitMode := .normal, stopWatch := none, laterLeg := false
          brakeExpired := false } ∧
        t.fm.inForce = none ∧ t.fm.stopOrder = false ∧ t.fm.counts = s.fm.counts ∧
        t.fm.first = s.fm.first ∧ t.fm.later = s.fm.later ∧
        t.ds = s.ds ∧ t.pm = s.pm ∧ t.cc = { s.cc with discrepancy := none } ∧
        t.es.motion = s.es.motion ∧ t.es.env = 0 ∧ t.es.deadline = none ∧ t.rg.seq = s.rg.seq ∧
        t.lines = s0.lines ∧ t.clock = s0.clock ∧ t.pending = s.pending ∧
        t.link.overrun = false ∧
        t.link.events = (if s.te.winder = .stoodDown then [] else
          [{ kind := .stateChanged, trip := 0, time := s0.unitTime, v1 := 1,
             v2 := uword32 s.te.winder.code, v3 := 0, v4 := packBytes 0x2F 1 0 0 }]))

/-! ### Faults and the changes of state -/

/-- A report is taken in steps: it is counted, up to 255; a report of a pending kind ends there; otherwise
the flag is set, the report is logged in the First-Fault Record or the Later-Fault List while there is
room, FAULT is raised with the place, and the response is decided (R174, R176, R184, R185). Its numeric
items are carried signed, but for the unit times of TRIP_OVERTIME, which are unsigned (R104). -/
def Obligations.ReportIsTakenInSteps : Prop :=
  ∀ (r : Report) (s : State),
    let k := r.kind
    let v := s.severity k
    let trip := s.activeHead.map TripRecord.id
    let counted : State := { s with fm := { s.fm with
      counts := s.fm.counts.setIfInBounds k.idx
        (min 255 ((s.fm.counts.toList[k.idx]?).getD 0 + 1)) } }
    let place := if s.fm.first = none then 0
      else if s.fm.later.length < 15 then s.fm.later.length + 1 else 255
    let guide := (s.activeHead.map fun x => x.body.guide).getD .a
    let item (x : Int) : Word32 := if k = .tripOvertime then uword32 x.toNat else word32 x
    let head (place : Nat) := packBytes k.code v.val place r.subject
    let first : FirstFault :=
      { kind := k, severity := v, time := s.unitTime, winder := s.te.winder, trip := trip
        label := s.rg.label, depth := ⟨(s.conv .a).depth, (s.conv .b).depth⟩
        speed := ⟨(s.conv .a).speed, (s.conv .b).speed⟩, ref := s.rg.refSent, env := s.es.env
        certainty := ⟨(s.conv .a).certainty, (s.conv .b).certainty⟩, clutch := s.cc.state
        v1 := head 0, v2 := item r.item1, v3 := item r.item2, v4 := item r.item3 }
    let later : LaterFault :=
      { kind := k, severity := v, time := s.unitTime, depth := (s.conv guide).depth, trip := trip }
    let logged : State := { counted with fm := { counted.fm with
      pending := s.fm.pending.setIfInBounds k.idx true
      first := if s.fm.first = none then some first else s.fm.first
      later := if s.fm.first ≠ none ∧ s.fm.later.length < 15 then s.fm.later ++ [later]
        else s.fm.later } }
    (s.isPending k = true → s.report r = counted) ∧
    (s.isPending k = false →
      s.report r = (logged.raise .fault (trip.getD 0) (head place) (item r.item1) (item r.item2)
        (item r.item3)).respond k v)

/-- The response to a report: none in CHECKING or where its severity does not exceed the response in
force; severity 1 orders a controlled stop, 2 the emergency response and 3 the lockout, each by the state
it finds; the response in force becomes the severity, but for 0 and 1 in STOOD_DOWN and IDLE, and is NONE
after a return to IDLE (R139, R141, R142, R179, R180, R182). That a stop ordered by a fault clears the
stop watch id (log 28), and that a lockout found in TRIPPED sends the message of R81 again (log 29), are
the model's choices. -/
def Obligations.ResponseBySeverityAndState : Prop :=
  ∀ (k : FaultKind) (v : Severity) (s : State),
    let t := s.respond k v
    let w := s.te.winder
    let higher := ∀ f, s.fm.inForce = some f → f < v
    (w = .checking ∨ ¬ higher → t = s) ∧
    (w ≠ .checking → higher →
      (v ≤ 1 → w = .stoodDown ∨ w = .idle → t = s) ∧
      (v = 0 → w ≠ .stoodDown → w ≠ .idle → t = { s with fm := { s.fm with inForce := some 0 } }) ∧
      (v = 1 → w = .tripped ∨ w = .lockedOut →
        t = { s with fm := { s.fm with inForce := some 1 } }) ∧
      (v = 1 → w = .preparing ∨ w = .prepared ∨ w = .held ∨ w = .dwell →
        t = ({ s with fm := { s.fm with inForce := some 1 } }).interrupt.enter .idle (.fault k)
          s.activeId) ∧
      (v = 1 → w = .winding → s.te.rest = .none →
        t.te = { s.te with winder := .stopping, stopReason := .fault, stopWatch := none } ∧
        t.fm = { s.fm with inForce := some 1, stopOrder := true } ∧ t.tq = s.tq ∧
        t.rg = s.rg ∧ t.wt = s.wt ∧ t.es = { s.es with motion := ⟨none, none⟩, follow := none }) ∧
      (v = 1 → w = .winding → s.te.rest ≠ .none →
        t = { s with te := { s.te with deferred := .fault }
                     fm := { s.fm with inForce := some 1, stopOrder := true } }) ∧
      (v = 1 → w = .stopping →
        t = { s with
          te := { s.te with
            stopReason := if s.te.stopReason = StopReason.watch then .fault else s.te.stopReason }
          fm := { s.fm with inForce := some 1, stopOrder := true } }) ∧
      (v = 2 → w = .tripped ∨ w = .lockedOut →
        t = { s with fm := { s.fm with inForce := some 2 } }) ∧
      (v = 3 → w = .lockedOut → t = { s with fm := { s.fm with inForce := some 3 } }) ∧
      ((v = 2 ∧ w ≠ .tripped ∧ w ≠ .lockedOut) ∨ (v = 3 ∧ w ≠ .lockedOut) →
        t.te.winder = (if v = 2 then .tripped else .lockedOut) ∧
        (v = 2 → t.te.serviceReturn = if w = WinderState.stoodDown then .stoodDown else .idle) ∧
        t.te.rest = .none ∧ t.te.deferred = .none ∧ t.te.heldStart = false ∧
        t.te.readiness = none ∧ t.te.brake = none ∧ t.te.dwellTimer = none ∧
        t.fm = { s.fm with inForce := some v, stopOrder := false } ∧
        t.rg.refPrev = 0 ∧ t.rg.label = .none ∧ t.rg.refSent = 0 ∧
        t.rg.sent = s.rg.sent ++ [{ seq := s.rg.seq, ref := 0, run := false }] ∧
        t.es.refInForce = 0 ∧ t.es.env = 0 ∧ t.es.follow = none ∧
        (∀ r rest, s.tq = r :: rest → r.active = true →
          t.tq = { r with active := false, interrupted := true } :: rest ∧ t.rg.plan = none) ∧
        (s.activeHead = none → t.tq = s.tq ∧ t.rg.plan = s.rg.plan ∧ t.wt = s.wt)) ∧
      t.ds = s.ds ∧ t.efe = s.efe ∧ t.pm = s.pm ∧ t.cc = s.cc ∧ t.lines = s.lines ∧
      t.clock = s.clock ∧ t.pending = s.pending)

/-- An event joins the back of the queue with its time; a full queue loses its oldest and is marked
overrun; in PULSE mode, but in CHECKING, the pulse of ATTN starts afresh (R200, R203, R204). A change of
winder state raises STATE_CHANGED with the new and the previous state, the phase, dwell kind or stop
reason, and the cause; the Envelope Supervisor, the label and the response in force follow the new state
(R78, R99, R106, R110, R118, R179). PREPARING begins at its phase with STATE_CHANGED, and SHAFT_STOP found
asserted is reported first; unless its response ends the sequence, phase SIGNAL waits for SIGNAL_OK, and a
sequence from TORQUE makes the GATES test (R125, R138); that it is reported after STATE_CHANGED and before
the phase is the model's choice (log 27). The cause is 0 for a sequence (log 26). A certainty that changes
raises CERTAINTY_CHANGED with the conveyance, the new and the previous certainty and the cause, and
setting the one held does nothing (R34). -/
def Obligations.EventsAndStateChanges : Prop :=
  (∀ (k : EventKind) (trip : Nat) (v1 v2 v3 v4 : Word32) (s : State),
    let record : EventRecord :=
      { kind := k, trip := trip, time := s.unitTime, v1 := v1, v2 := v2, v3 := v3, v4 := v4 }
    let full := ¬ s.link.events.length < 32
    s.raise k trip v1 v2 v3 v4 = { s with link := { s.link with
      events := (if full then s.link.events.tail else s.link.events) ++ [record]
      overrun := s.link.overrun || decide full
      pulse := if s.limits.attnMode = AttnMode.pulse ∧ s.te.winder ≠ WinderState.checking then
          some ((s.clock + 1000) % Config.clockPeriod)
        else s.link.pulse } }) ∧
  (∀ (w : WinderState) (cause : Cause) (trip : Nat) (s : State),
    let detail : Nat := match w with
      | .preparing => s.te.phase.code
      | .dwell => s.te.dwell.code
      | .stopping => s.te.stopReason.code
      | _ => 0
    let from_ : Word32 := match cause with
      | .sequence => 0
      | .request kind => packBytes kind 1 0 0
      | .fault k => packBytes k.code 2 0 0
    let moving := w = .winding ∨ w = .stopping
    let u : State := { s with
      te := { s.te with winder := w }
      es := if moving then
          { s.es with motion := ⟨none, none⟩, follow := if w = .winding then s.es.follow else none }
        else
          { s.es with env := 0, margin := 0, tier1 := 0, tier2 := 0, follow := none
                      legStart := none, progress := 0 }
      rg := if moving then s.rg else { s.rg with label := .none }
      fm := { s.fm with inForce := if w = .idle ∨ w = .stoodDown then none else s.fm.inForce } }
    s.enter w cause trip =
      u.raise .stateChanged trip (uword32 w.code) (uword32 s.te.winder.code) (uword32 detail) from_) ∧
  (∀ (c : Conv) (new : Certainty) (cause : CertaintyCause) (s : State),
    let m := s.conv c
    let why := match cause with
      | .datum => 1
      | .mark => 2
      | .sample => 3
      | .crossCheck => 4
      | .description => 5
    (m.certainty = new → s.setCertainty c new cause = s) ∧
    (m.certainty ≠ new →
      s.setCertainty c new cause =
        ({ s with pm := { s.pm with convs := s.pm.convs.set c { m with certainty := new } } }).raise
          .certaintyChanged s.activeId (uword32 c.code) (uword32 new.code) (uword32 m.certainty.code)
          (uword32 why))) ∧
  ∀ (phase : Phase) (cause : Cause) (s : State),
    let u := ({ s with te := { s.te with phase := phase } }).enter .preparing cause s.activeId
    let v := u.report (bare .shaftStopSignal 0)
    (s.enterSignal = if s.lines.signalOk = true then
        { s with te := { s.te with phase := .gates, readiness := none } }.gatesTest
      else { s with te := { s.te with readiness := some (s.after (1000 * s.limits.signalWait)) } }) ∧
    (s.lines.shaftStop = false → phase = .signal → s.enterPreparing phase cause = u.enterSignal) ∧
    (s.lines.shaftStop = false → phase ≠ .signal → s.enterPreparing phase cause = u.gatesTest) ∧
    (s.lines.shaftStop = true → v.te.winder ≠ .preparing → s.enterPreparing phase cause = v) ∧
    (s.lines.shaftStop = true → v.te.winder = .preparing →
      s.enterPreparing phase cause = if phase = .signal then v.enterSignal else v.gatesTest)

/-- The active trip leaves the head: interrupted, it returns to PENDING with its flag set; completed, it
is removed; either way its event is raised, the plan is discarded with its bindings, the latch, the label,
the reference, the leg time and the deadline, and the items of the trip return to their power-on values;
the queue is discarded from the head with one event a record, and an empty one without any (R62 to R65,
R72, R74, R116, R153). Phase SIGNAL and dwell kind LOADING as the power-on values of those two items are
the model's choice (log 11), and so is the winder state held as value 1 of TRIP_INTERRUPTED, which at the
end of a controlled stop is STOPPING (log 25). -/
def Obligations.TripsEndByTheirRules : Prop :=
  (∀ s : State, s.tq = [] → s.discardQueue = s) ∧
  ∀ (s : State) (r : TripRecord) (rest : List TripRecord), s.tq = r :: rest →
    let dropped (t : State) : State := { t with
      rg := { s.rg with
        plan := none, latch := false, label := .none, refPrev := 0, legTime := 0 }
      es := { s.es with deadline := none }
      wt := tableMap (fun o => o.map fun w => { w with bound := none }) s.wt
      te := { s.te with
        phase := .signal, rest := .none, stopReason := .none, deferred := .none
        heldStart := false, dwell := .loading, readiness := none, brake := none
        dwellTimer := none, stopWatch := none, laterLeg := false, brakeExpired := false } }
    let depth := word32 (s.conv r.body.guide).depth
    (r.active = true →
      s.interrupt = dropped ({ s.raise .tripInterrupted r.id (uword32 s.te.winder.code)
          (uword32 r.body.legCode) (uword32 r.body.remaining) depth with
        tq := { r with active := false, interrupted := true } :: rest }) ∧
      s.complete = dropped ({ s.raise .tripEnded r.id (uword32 1) (uword32 r.body.typeCode)
          (uword32 0) depth with tq := rest })) ∧
    (r.active = false → s.interrupt = s ∧ s.complete = s) ∧
    s.discardQueue =
      { ({ s with tq := rest }.raise .tripEnded r.id (uword32 3) (uword32 r.body.typeCode)
          (uword32 r.body.remaining) depth).discardQueue with tq := [] }

/-- The lines that are reported where the state calls for it: EMERGENCY_IN whatever the state, SHAFT_STOP
in PREPARING, PREPARED and WINDING, a supervised gate from phase GATES through STOPPING and, in HELD and
DWELL, away from the guide; a following error that has lasted in WINDING and a deadline that has passed in
WINDING or STOPPING (R99, R101, R137, R138, R178). A line that is in that state already is no change, and
nothing acts on it (R1, log 40). That the following error and the deadline are tested outside a Sample
record too, with no effect where the condition fails, is the model's choice (log 19). -/
def Obligations.LinesAndDeadlinesAreReported : Prop :=
  ∀ (e : Elapse) (g : Fin 16) (s : State),
    let s0 := s.elapse e
    let stop := { s0 with lines := { s0.lines with shaftStop := true } }
    let opened := { s0 with lines := { s0.lines with emergencyIn := false } }
    let gate := { s0 with lines := { s0.lines with gates := s0.lines.gates.setIfInBounds g false } }
    let w := s.te.winder
    let named (l : Level) := l.gate = some g
    let supervised := ∃ i l, s.level i = some l ∧ l.inService = true ∧ named l
    let stands (l : Level) := l.serves = s.rg.guide ∧ ∃ d, d < (s.convRec s.rg.guide).decks ∧
      mag (l.depth - (s.guideDepth + d * (s.convRec s.rg.guide).spacing)) ≤ s.limits.landWindow
    let here := ∃ i l, s.level i = some l ∧ named l ∧ stands l
    let gateCounts := s0.lines.gates[g.val] = true ∧ supervised ∧ (w = .prepared ∨ w = .winding ∨ w = .stopping ∨
      (w = .preparing ∧ s.te.phase ≠ .signal) ∨ ((w = .held ∨ w = .dwell) ∧ ¬ here))
    let error := s.limits.followLimit < mag (s.guideSpeed - s.es.refInForce)
    let lasted := ∃ t, s.es.follow = some t ∧
      s.limits.followTime * 1000 ≤ unsignedElapsed s.efe.sampleTime t
    let passed (t : Nat) := s.es.deadline = some t ∧ 1 ≤ unsignedElapsed s0.unitTime t ∧
      unsignedElapsed s0.unitTime t < 2 ^ 31
    (s0.lines.emergencyIn = true →
      exec (.emergencyInOpen e) s = .next (opened.report (bare .emergencyInput 0))) ∧
    (s0.lines.emergencyIn = false → exec (.emergencyInOpen e) s = .next s0) ∧
    (s0.lines.shaftStop = true → exec (.shaftStopAsserted e) s = .next s0) ∧
    (s0.lines.gates[g.val] = false → exec (.gateOpens e g) s = .next s0) ∧
    (s0.lines.shaftStop = false → w = .preparing ∨ w = .prepared ∨ w = .winding →
      exec (.shaftStopAsserted e) s = .next (stop.report (bare .shaftStopSignal 0))) ∧
    (w ≠ .preparing → w ≠ .prepared → w ≠ .winding →
      exec (.shaftStopAsserted e) s = .next stop) ∧
    (gateCounts → exec (.gateOpens e g) s = .next (gate.report (bare .gateOpen g))) ∧
    (¬ gateCounts → exec (.gateOpens e g) s = .next gate) ∧
    (w = .winding → error → lasted →
      exec (.driveNotFollowing e) s = .next (s0.report
        { kind := .driveNotFollowing, subject := s.rg.guide.code, item1 := s.guideSpeed
          item2 := s.es.refInForce, item3 := 0 })) ∧
    (w ≠ .winding ∨ ¬ error ∨ ¬ lasted → exec (.driveNotFollowing e) s = .next s0) ∧
    (∀ t, w = .winding ∨ w = .stopping → passed t →
      exec (.tripOvertime e) s = .next (s0.report
        { kind := .tripOvertime, subject := s.rg.guide.code, item1 := s0.unitTime, item2 := t
          item3 := 0 })) ∧
    ((w ≠ .winding ∧ w ≠ .stopping) ∨ (∀ t, ¬ passed t) →
      exec (.tripOvertime e) s = .next s0)

/-! ### The Watch Table -/

/-- SET_WATCH places the entry at its id with no binding and answers with the entry as stored and the plan
flag; CLEAR_WATCH empties one place, or every place, and answers with the number of entries removed; an
id, or an entry, out of range is refused (R146 to R148, R153). A cap that a NOTIFY or STOP entry carries
is not examined (R147), and that it is dropped, the reply then carrying 0, is the model's choice (log 44).
The 14-byte layout of the entry in the reply and the one-byte number removed are the model's choice (log
34). -/
def Obligations.WatchRequestsWriteTheTable : Prop :=
  ∀ (e : Elapse) (tag : Byte) (s : State), s.admits .service = true →
    let s0 := s.elapse e
    (∀ (id : Nat) (w : WatchEntry), id < 16 → WatchInRange w →
      let next := w.binding = .tagged ∧ s.activeHead.isSome = true
      exec (.setWatch e tag (watchEntryBytes id w)) s =
        .next ({ s0 with wt := s.wt.setIfInBounds id (some w) }.answered 0xA9 tag .ok
          (watchEntryBytes id w ++ le8 (if next then 1 else 0)))) ∧
    (∀ (id cap : Nat) (w : WatchEntry), id < 16 → WatchInRange w → (∀ c, w.action ≠ .slow c) → cap < 2 ^ 16 →
      let b := watchEntryBytes id w
      exec (.setWatch e tag (b.take 9 ++ le16 cap ++ b.drop 11)) s = exec (.setWatch e tag b) s) ∧
    (∀ p : List Byte, p.length = 14 → (15 < octet p 0 ∨ watchOf p = none) →
      exec (.setWatch e tag p) s = .next (s0.answered 0xA9 tag .badRange [])) ∧
    (∀ id, id < 16 →
      exec (.clearWatch e tag (le8 id)) s =
        .next ({ s0 with wt := s.wt.setIfInBounds id none }.answered 0xAA tag .ok
          (le8 (if (s.watch id).isSome then 1 else 0)))) ∧
    (∀ id, 16 ≤ id → id < 255 →
      exec (.clearWatch e tag (le8 id)) s = .next (s0.answered 0xAA tag .badRange [])) ∧
    exec (.clearWatch e tag [0xFF]) s =
      .next ({ s0 with wt := Vector.replicate 16 none }.answered 0xAA tag .ok
        (le8 (s.wt.toList.filter Option.isSome).length))

/-- At a Sample record in WINDING or STOPPING a forced entry acts when its own conveyance crosses its
depth: a forced NOTIFY fires, a forced STOP or SLOW in WINDING is handed over and fires, and in STOPPING
is ignored; a SLOW that cannot be placed is taken as STOP; an entry bound as NOTIFY or SLOW fires where
the guide crosses its bound depth in the plan's direction. A ONCE entry is removed where it fires, any
other keeps its place unbound, and WATCH_FIRED is raised after the handover (R149 to R151, R154 to R156).
The entries are tested in order of watch id, and that forced and bound entries are tested in one pass of
that order is the model's choice (log 43). A stop point that is reached frees the entries bound as STOP at
its depth, and removes the ONCE ones (R154, R155). That a forced STOP changes the state with cause 0 is
the model's choice (log 26). -/
def Obligations.WatchEntriesActWhenCrossed : Prop :=
  (∀ (id : Nat) (w : WatchEntry) (found : WinderState) (s : State), s.watch id = some w →
    let prev := (s.conv w.conv).prevDepth
    let last := (s.conv w.conv).depth
    let acts := (prev < w.depth ∧ w.depth ≤ last ∧ (w.facing = .down ∨ w.facing = .either)) ∨
      (w.depth < prev ∧ last ≤ w.depth ∧ (w.facing = .up ∨ w.facing = .either))
    let fired (code : Nat) (t : State) : State :=
      { t with
        wt := t.wt.setIfInBounds id
          (if w.persistence = Persistence.once then none else some { w with bound := none }) }.raise
        .watchFired
        t.activeId (uword32 id) (uword32 code) (word32 (t.conv w.conv).depth)
        (uword32 (if w.persistence = Persistence.once then 1 else 0))
    let stopped : State := if s.te.winder = .winding ∧ s.te.rest = .none then
        { s with te := { s.te with stopReason := .watch, stopWatch := some id } }.enter .stopping
          .sequence s.activeId
      else s
    let passed (b : Int) := match s.rg.travel with
      | .down => (s.conv s.rg.guide).prevDepth < b ∧ b ≤ s.guideDepth
      | .up => b < (s.conv s.rg.guide).prevDepth ∧ s.guideDepth ≤ b
    let t := State.testWatch found s id
    (w.binding = .forced → ¬ acts → t = s) ∧
    (w.binding = .forced → acts → w.action = .notify → t = fired 1 s) ∧
    (w.binding = .forced → w.action ≠ .notify → found ≠ .winding → t = s) ∧
    (w.binding = .forced → acts → w.action = .stop → found = .winding → t = fired 3 stopped) ∧
    (∀ cap, w.binding = .forced → acts → w.action = .slow cap → found = .winding →
      let placed := s.insertSlow id cap s.guideDepth
      (placed.2 = true → t = fired 2 placed.1) ∧ (placed.2 = false → t = fired 4 stopped)) ∧
    (w.binding = .tagged →
      (w.bound = none ∨ (∃ b, w.bound = some (.stop, b)) → t = s) ∧
      ∀ b, (w.bound = some (.notify, b) ∨ w.bound = some (.slow, b)) →
        (¬ passed b → t = s) ∧
        (passed b → t = fired (if w.bound = some (.notify, b) then 5 else 6) s))) ∧
  (∀ (found : WinderState) (id : Nat) (s : State), s.watch id = none → State.testWatch found s id = s) ∧
  (∀ s : State,
    s.takeWatch = if s.te.winder = .winding ∨ s.te.winder = .stopping then
      (List.range 16).foldl (State.testWatch s.te.winder) s else s) ∧
  ∀ (depth : Int) (s : State),
    let t := s.watchReached depth
    t = { s with wt := t.wt } ∧
    ∀ id, (s.watch id = none → t.watch id = none) ∧
      ∀ w, s.watch id = some w →
        (w.bound ≠ some (.stop, depth) → t.watch id = some w) ∧
        (w.bound = some (.stop, depth) →
          t.watch id = if w.persistence = .once then none else some { w with bound := none })

/-- A forced SLOW point in WINDING: it is not placed where a SLOW point of the leg as near and as slow
covers it or where it would lie at or beyond the leg's stop point; else it joins the plan at the distance
the reference needs to reach its cap, merging with a point of its depth; a full plan moves the nearest
SLOW point beyond it, keeping the lesser cap, and where there is none the point cannot be placed (R68,
R82, R83). A point joins a plan in order of distance, SLOW before STOP, and one of the depth and kind of a
point held is held with it as one: two SLOW points with the lesser cap, at like kind and cap the one of
the lower watch id, or of none (R68, R152). That a full plan moves a point also where the new one would
merge, and that the moved point keeps its origin and watch id, are the model's choice (log 21); so is
counting a point placed earlier at the same record as one of the plan and of the leg (log 42). -/
def Obligations.ForcedSlowPointIsPlacedOrMoved : Prop :=
  (∀ (id cap : Nat) (s : State), s.te.winder = .winding →
    let l := s.limits
    let n : Nat := if cap < s.rg.refPrev then
        (s.rg.refPrev ^ 2 - cap ^ 2 + 2 * l.aDec - 1) / (2 * l.aDec) else 0
    let depth : Int := match s.rg.travel with
      | .down => s.guideDepth + n
      | .up => s.guideDepth - n
    let covered := ∃ p ∈ s.rg.leg, s.pointDistance p ≤ n ∧ ∃ c, p.kind = .slow c ∧ c ≤ cap
    let beyond := ∃ p, s.rg.stop = some p ∧ s.pointDistance p ≤ n
    let slow : PlanPoint :=
      { kind := .slow cap, depth := depth, origin := .forced, watchId := some id }
    let far (p : PlanPoint) := p.isStop = false ∧ (n : Int) < s.pointDistance p
    let put (p : PlanPoint) (ps : List PlanPoint) : State :=
      { s with rg := { s.rg with plan := some (placePoint s.rg.travel p ps) } }
    let t := s.insertSlow id cap s.guideDepth
    (covered ∨ beyond → t = (s, true)) ∧
    (¬ covered → ¬ beyond →
      (s.rg.points.length < 8 → t = (put slow s.rg.points, true)) ∧
      (8 ≤ s.rg.points.length → (∀ p ∈ s.rg.leg, ¬ far p) → t = (s, false)) ∧
      ∀ before after p, 8 ≤ s.rg.points.length → s.rg.leg = before ++ p :: after → far p →
        (∀ q ∈ before, ¬ far q) → ∀ c, p.kind = .slow c →
        t = (put { p with depth := depth, kind := .slow (min c cap) } (s.rg.points.erase p), true))) ∧
  ∀ (t : Travel) (p : PlanPoint) (ps : List PlanPoint),
    let ahead (x y : PlanPoint) : Prop := 0 < t.distance x.depth y.depth ∨
      (x.depth = y.depth ∧ x.isStop = false ∧ y.isStop = true)
    let alike (q : PlanPoint) : Prop := q.depth = p.depth ∧ q.isStop = p.isStop
    ps.Pairwise ahead →
    (placePoint t p ps).Pairwise ahead ∧
    ((∀ q ∈ ps, ¬ alike q) → ∃ before after, ps = before ++ after ∧
      placePoint t p ps = before ++ p :: after) ∧
    ∀ before after q, ps = before ++ q :: after → alike q →
      ∃ x, placePoint t p ps = before ++ x :: after ∧ alike x ∧ (x = p ∨ x = q) ∧
        (∀ c d, q.kind = .slow c → p.kind = .slow d →
          x.kind = .slow (min c d) ∧ (c < d → x = q) ∧ (d < c → x = p)) ∧
        (q.kind = p.kind → ∀ i j, q.watchId = some i → p.watchId = some j →
          x.watchId = some (min i j)) ∧
        (q.kind = p.kind → q.watchId = none → x = q) ∧
        (q.kind = p.kind → p.watchId = none → q.watchId ≠ none → x = p)

/-! ### The clutch -/

/-- CLUTCH_OUT and CLUTCH_IN make their checks in order, and an accepted one begins its sequence:
RELEASING in HOLDING, OPENING at once with B_BRAKE_APPLIED, RELEASED at once with the switches open;
ENGAGING in CLOSING, ENGAGED at once with the switches closed; a refusal with NOT_ALIGNED carries r, the
rise and the fall (R110, R160, R161, R163, R164, R171). -/
def Obligations.ClutchRequestsBeginTheirSequences : Prop :=
  ∀ (e : Elapse) (tag : Byte) (s : State), s.admits .service = true →
    let s0 := s.elapse e
    let l := s.limits
    let check (from_ : ClutchState) : Option ResultCode :=
      if s.te.winder ≠ .idle then some .wrongState
      else if s.cc.state = .releasing ∨ s.cc.state = .engaging then some .busy
      else if s.atStandstill = false then some .notStandstill
      else if s0.lines.brakeApplied = false then some .wrongState
      else if s.cc.state ≠ from_ then some .clutchState
      else none
    let heavy := (s.convRec .b).kind = .skip ∧ (s.conv .b).loadClass = .rock
    let length := (s.drum .b).paidOut
    let free : EnvelopeSupervisor := { s.es with motion := { s.es.motion with b := none } }
    let timer := some (s0.after (1000 * l.clutchTime))
    let ended (t : State) (before after : ClutchState) : State :=
      t.raise .clutchChanged 0 (uword32 after.code) (uword32 before.code) (uword32 1)
        (word32 (length.tdiv 1000000))
    let release (c : ClutchState) (step : ClutchStep) (timer : Option Nat) : State :=
      { s0 with es := free, cc := { s.cc with
        state := c, step := step, timer := timer, discrepancy := none, drift := some length } }
    let out := if s0.lines.bBrakeApplied = false then release .releasing .holding timer
      else if s0.lines.clutchOpen = true ∧ s0.lines.clutchClosed = false then
        let t := release .released .none none
        ended { t with cc := { t.cc with switchFault := false } } .engaged .released
      else release .releasing .opening timer
    let valid := (s.front .a).primary.valid = true ∧ (s.front .b).primary.valid = true
    let r := ((s.front .a).primary.count + (s.front .b).primary.count) % (l.toothPitch : Int)
    let rise := (l.toothPitch : Int) - l.alignTolerance - r
    let fall := r - l.alignTolerance
    let in_ := if s0.lines.clutchClosed = true ∧ s0.lines.clutchOpen = false then
        ended { s0 with es := free, cc := { s.cc with
          state := .engaged, step := .none, timer := none, discrepancy := none, drift := none,
          switchFault := false } } .released .engaged
      else { s0 with es := free, cc := { s.cc with
        state := .engaging, step := .closing, timer := timer } }
    exec (.clutchOut e tag []) s = .next (match check .engaged with
      | some c => s0.answered 0xAB tag c []
      | none => if heavy then s0.answered 0xAB tag .balance []
        else out.answered 0xAB tag .accepted (le8 ClutchState.releasing.code)) ∧
    exec (.clutchIn e tag []) s = .next (match check .released with
      | some c => s0.answered 0xAC tag c []
      | none => if ¬ valid then s0.answered 0xAC tag .positionUncertain []
        else if r ≤ l.alignTolerance ∨ (l.toothPitch : Int) - l.alignTolerance ≤ r then
          in_.answered 0xAC tag .accepted (le8 ClutchState.engaging.code ++ leInt r)
        else s0.answered 0xAC tag .notAligned (leInt r ++ leInt rise ++ leInt fall))

/-- The commands of a clutch sequence: B_BRAKE_APPLIED ends HOLDING; the switches end OPENING and CLOSING
with CLUTCH_CHANGED, and disagreeing in ENGAGED or RELEASED are reported once until they agree; a timer's
expiry fails the sequence with CLUTCH_NOT_CONFIRMED and CLUTCH_CHANGED (R161, R162, R164 to R166, R171).
Switches that change before the reading of R159 only set the lines, and the item's weights, are the
model's choice (log 30); so is that an expiry with no timer running, or a line in that state already,
changes nothing (log 40). -/
def Obligations.ClutchSequencesEnd : Prop :=
  ∀ (e : Elapse) (opened closed : Bool) (time : Nat) (s : State),
    let s0 := s.elapse e
    let braked := { s0 with lines := { s0.lines with bBrakeApplied := true } }
    let moved := { s0 with lines := { s0.lines with clutchOpen := opened, clutchClosed := closed } }
    let length := (s.drum .b).paidOut
    let free : EnvelopeSupervisor := { s.es with motion := { s.es.motion with b := none } }
    let changed (after before : ClutchState) (outcome : Nat) (t : State) : State :=
      t.raise .clutchChanged 0 (uword32 after.code) (uword32 before.code) (uword32 outcome)
        (word32 (length.tdiv 1000000))
    let open_ := opened = true ∧ closed = false
    let shut := closed = true ∧ opened = false
    let released (t : State) := changed .released .engaged 1 { t with es := free, cc := { s.cc with
      state := .released, step := .none, timer := none, drift := some length, switchFault := false } }
    let engaged := changed .engaged .released 1 { moved with cc := { s.cc with
      state := .engaged, step := .none, timer := none, drift := none, discrepancy := none,
      switchFault := false } }
    let unconfirmed (subject brake : Nat) (l : InputLines) : Report :=
      { kind := .clutchNotConfirmed, subject := subject,
        item1 := (brake + (if l.clutchOpen then 2 else 0) + (if l.clutchClosed then 4 else 0) : Nat),
        item2 := 0, item3 := 0 }
    let disagree (subject : Nat) : State :=
      if s.cc.switchFault = true then moved
      else { moved with cc := { s.cc with switchFault := true } }.report
        (unconfirmed subject 0 moved.lines)
    let holding := s.cc.state = .releasing ∧ s.cc.step = .holding ∧ s0.lines.bBrakeApplied = false
    let same := opened = s0.lines.clutchOpen ∧ closed = s0.lines.clutchClosed
    let agree := { moved with cc := { s.cc with switchFault := false } }
    let t := s0.reach time
    let brakeItem := if t.lines.bBrakeApplied then 1 else 0
    (¬ holding → exec (.bBrakeAppliedAsserted e) s = .next braked) ∧
    (holding →
      exec (.bBrakeAppliedAsserted e) s = .next
        (if s0.lines.clutchOpen = true ∧ s0.lines.clutchClosed = false then released braked
        else { braked with es := free, cc := { s.cc with
          step := .opening, timer := some (s0.after (1000 * s.limits.clutchTime)) } })) ∧
    (s.cc.read = false ∨ same → exec (.clutchSwitchChange e opened closed) s = .next moved) ∧
    (s.cc.read = true → ¬ same →
      exec (.clutchSwitchChange e opened closed) s = .next (match s.cc.state with
        | .engaged => if shut then agree else disagree 4
        | .released => if open_ then agree else disagree 5
        | .releasing => if s.cc.step = .opening ∧ open_ then released moved else moved
        | .engaging => if shut then engaged else moved)) ∧
    (s.cc.state = .releasing → s.cc.timer = some time →
      exec (.clutchReleaseTimeout e) s =
        .next (changed .engaged .engaged 2 ({ t with cc := { s.cc with
          state := .engaged, step := .none, timer := none, drift := none, discrepancy := none,
          switchFault := true } }.report
            (unconfirmed (if s.cc.step = ClutchStep.holding then 1 else 2) brakeItem t.lines)))) ∧
    (s.cc.state ≠ .releasing ∨ s.cc.timer = none →
      exec (.clutchReleaseTimeout e) s = .next s0) ∧
    (s.cc.state = .engaging → s.cc.timer = some time →
      exec (.clutchEngageTimeout e) s =
        .next (changed .released .released 2 ({ t with es := free, cc := { s.cc with
          state := .released, step := .none, timer := none, switchFault := true } }.report
            (unconfirmed 3 0 t.lines)))) ∧
    (s.cc.state ≠ .engaging ∨ s.cc.timer = none →
      exec (.clutchEngageTimeout e) s = .next s0)

/-- At a Sample record drum B is tested against its drift baseline while the clutch is not ENGAGED, and
the two drums against the discrepancy baseline while it is and both primaries are valid; a baseline
PENDING is taken from the record and not tested; drift takes its baseline afresh where it is reported, and
a discrepancy keeps it (R168 to R170). The subject 0 of both reports and the third item of
DRUM_DISCREPANCY, drum A's change truncated toward 0, are the model's choice (log 31). -/
def Obligations.DriftAndDiscrepancyAreTested : Prop :=
  ∀ s : State,
    let a := (s.drum .a).paidOut
    let b := (s.drum .b).paidOut
    let fresh : State := { s with cc := { s.cc with drift := some b } }
    let validA := (s.front .a).primary.valid
    let validB := (s.front .b).primary.valid
    (s.cc.state ≠ .engaged →
      (s.cc.drift = none → s.takeClutch = if validB then fresh else s) ∧
      ∀ b0, s.cc.drift = some b0 →
        let moved := (b - b0).natAbs / 1000000
        (moved ≤ s.limits.driftLimit → s.takeClutch = s) ∧
        (s.limits.driftLimit < moved →
          s.takeClutch = fresh.report { kind := .clutchDrift, subject := 0, item1 := moved,
                                        item2 := s.limits.driftLimit, item3 := 0 })) ∧
    (s.cc.state = .engaged →
      (validA = false ∨ validB = false → s.takeClutch = s) ∧
      (validA = true → validB = true →
        (s.cc.discrepancy = none →
          s.takeClutch = { s with cc := { s.cc with discrepancy := some (a, b) } }) ∧
        ∀ a0 b0, s.cc.discrepancy = some (a0, b0) →
          let gap := ((a - a0) + (b - b0)).natAbs / 1000000
          (gap ≤ s.limits.discrepancyLimit → s.takeClutch = s) ∧
          (s.limits.discrepancyLimit < gap →
            s.takeClutch = s.report { kind := .drumDiscrepancy, subject := 0, item1 := gap,
                                      item2 := s.limits.discrepancyLimit,
                                      item3 := (a - a0).tdiv 1000000 })))

/-! ### The output lines -/

/-- The five lines of the Trip Executive in each winder state (R117), the two of the Clutch Controller
(R158), STOP_REQ and ADVISE (R181, R182), and ATTN, whose pulse ends at its time (R203). That the expiry
of a pulse that does not run changes nothing is the model's choice (log 40). -/
def Obligations.OutputLinesFollowTheState : Prop :=
  ∀ s : State,
    let w := s.te.winder
    (s.safety = true ↔ w ≠ .checking ∧ w ≠ .tripped ∧ w ≠ .lockedOut) ∧
    (s.brakeRelease = true ↔
      (w = .preparing ∧ (s.te.phase = .release ∨ s.te.phase = .settle)) ∨ w = .prepared ∨
        ((w = .winding ∨ w = .stopping) ∧ s.te.rest ≠ .brakeConfirm)) ∧
    (s.torqueReq = true ↔
      (w = .preparing ∧ (s.te.phase = .torque ∨ s.te.phase = .release ∨ s.te.phase = .settle)) ∨
        w = .prepared ∨ w = .winding ∨ w = .stopping) ∧
    (s.loadPermit = true ↔ w = .dwell ∧ s.te.dwell = .loading) ∧
    (s.lockoutLamp = true ↔ w = .lockedOut) ∧
    (s.bBrakeHold = true ↔ s.cc.state ≠ .engaged) ∧
    (s.clutchCmd = true ↔
      s.cc.state = .released ∨ (s.cc.state = .releasing ∧ s.cc.step = .opening)) ∧
    (s.stopReq = true ↔ s.fm.stopOrder = true) ∧
    (s.advise = true ↔ w ≠ .checking ∧ s.limits.adviseEnable = true ∧
      ∃ k, s.isPending k = true ∧ s.severity k = 0) ∧
    (s.attn = true ↔ w ≠ .checking ∧
      ((s.limits.attnMode = .level ∧ s.link.events ≠ []) ∨
        (s.limits.attnMode = .pulse ∧ s.link.pulse ≠ none))) ∧
    ∀ e : Elapse,
      (∀ t, s.link.pulse = some t →
        exec (.attnPulseEnd e) s =
          .next { (s.elapse e).reach t with link := { s.link with pulse := none } }) ∧
      (s.link.pulse = none → exec (.attnPulseEnd e) s = .next (s.elapse e))

/-! ### Laws that every step keeps -/

/-- The Event Queue never holds more than 32 records, the Later-Fault List never more than 15, and none
while the First-Fault Record is empty, no occurrence count passes 255, and every stored severity stays at
least at its floor, in the working description and in the stored copy: every step from a state that keeps
these keeps them (R173, R174, R185, R200). -/
def Obligations.LogAndSeverityLawsAreKept : Prop :=
  ∀ s t : State, step s = .next t →
    (s.eventLaw → t.eventLaw) ∧ (s.faultLaw → t.faultLaw) ∧ (s.severityLaw → t.severityLaw)

/-- The law of the Trip Queue and the law of the clutch: at most 12 records of distinct ids, the head
ACTIVE exactly in the states of an active trip and no other record; and with the clutch not ENGAGED an
ACTIVE trip is a cage trip of mode MATERIAL or INSPECTION under the declutched speed (R49, R167). -/
def Obligations.QueueAndClutchLawsAreKept : Prop :=
  ∀ s t : State, step s = .next t → s.queueLaw →
    t.queueLaw ∧ (s.clutchLaw → t.clutchLaw)

/-- The law of the reference: 0 outside WINDING and STOPPING, within the trip speed limit inside them, and
0 with the landing latch set from the moment a landing begins; and the rest step NONE outside WINDING and
STOPPING (R79, R116, R130). -/
def Obligations.ReferenceLawIsKept : Prop :=
  ∀ s t : State, step s = .next t → s.queueLaw → s.referenceLaw → t.referenceLaw
end

