-- ==== Sys2Proof/Laws/State.lean ====
section
/-! SUPPORT. What each update of the state leaves in each of its fields: one lemma per field per update. -/

namespace Sys2Proof.Machine

open Sys2Proof

section modDs
variable (s : State) (f : DescriptionStore → DescriptionStore)
@[simp] theorem State.modDs_clock : (s.modDs f).clock = s.clock := rfl
@[simp] theorem State.modDs_lines : (s.modDs f).lines = s.lines := rfl
@[simp] theorem State.modDs_ds : (s.modDs f).ds = f s.ds := rfl
@[simp] theorem State.modDs_efe : (s.modDs f).efe = s.efe := rfl
@[simp] theorem State.modDs_pm : (s.modDs f).pm = s.pm := rfl
@[simp] theorem State.modDs_tq : (s.modDs f).tq = s.tq := rfl
@[simp] theorem State.modDs_te : (s.modDs f).te = s.te := rfl
@[simp] theorem State.modDs_rg : (s.modDs f).rg = s.rg := rfl
@[simp] theorem State.modDs_es : (s.modDs f).es = s.es := rfl
@[simp] theorem State.modDs_wt : (s.modDs f).wt = s.wt := rfl
@[simp] theorem State.modDs_cc : (s.modDs f).cc = s.cc := rfl
@[simp] theorem State.modDs_fm : (s.modDs f).fm = s.fm := rfl
@[simp] theorem State.modDs_link : (s.modDs f).link = s.link := rfl
@[simp] theorem State.modDs_pending : (s.modDs f).pending = s.pending := rfl
end modDs

section modEfe
variable (s : State) (f : EncoderFrontEnd → EncoderFrontEnd)
@[simp] theorem State.modEfe_clock : (s.modEfe f).clock = s.clock := rfl
@[simp] theorem State.modEfe_lines : (s.modEfe f).lines = s.lines := rfl
@[simp] theorem State.modEfe_ds : (s.modEfe f).ds = s.ds := rfl
@[simp] theorem State.modEfe_efe : (s.modEfe f).efe = f s.efe := rfl
@[simp] theorem State.modEfe_pm : (s.modEfe f).pm = s.pm := rfl
@[simp] theorem State.modEfe_tq : (s.modEfe f).tq = s.tq := rfl
@[simp] theorem State.modEfe_te : (s.modEfe f).te = s.te := rfl
@[simp] theorem State.modEfe_rg : (s.modEfe f).rg = s.rg := rfl
@[simp] theorem State.modEfe_es : (s.modEfe f).es = s.es := rfl
@[simp] theorem State.modEfe_wt : (s.modEfe f).wt = s.wt := rfl
@[simp] theorem State.modEfe_cc : (s.modEfe f).cc = s.cc := rfl
@[simp] theorem State.modEfe_fm : (s.modEfe f).fm = s.fm := rfl
@[simp] theorem State.modEfe_link : (s.modEfe f).link = s.link := rfl
@[simp] theorem State.modEfe_pending : (s.modEfe f).pending = s.pending := rfl
end modEfe

section modPm
variable (s : State) (f : PositionModel → PositionModel)
@[simp] theorem State.modPm_clock : (s.modPm f).clock = s.clock := rfl
@[simp] theorem State.modPm_lines : (s.modPm f).lines = s.lines := rfl
@[simp] theorem State.modPm_ds : (s.modPm f).ds = s.ds := rfl
@[simp] theorem State.modPm_efe : (s.modPm f).efe = s.efe := rfl
@[simp] theorem State.modPm_pm : (s.modPm f).pm = f s.pm := rfl
@[simp] theorem State.modPm_tq : (s.modPm f).tq = s.tq := rfl
@[simp] theorem State.modPm_te : (s.modPm f).te = s.te := rfl
@[simp] theorem State.modPm_rg : (s.modPm f).rg = s.rg := rfl
@[simp] theorem State.modPm_es : (s.modPm f).es = s.es := rfl
@[simp] theorem State.modPm_wt : (s.modPm f).wt = s.wt := rfl
@[simp] theorem State.modPm_cc : (s.modPm f).cc = s.cc := rfl
@[simp] theorem State.modPm_fm : (s.modPm f).fm = s.fm := rfl
@[simp] theorem State.modPm_link : (s.modPm f).link = s.link := rfl
@[simp] theorem State.modPm_pending : (s.modPm f).pending = s.pending := rfl
end modPm

section modTq
variable (s : State) (f : List TripRecord → List TripRecord)
@[simp] theorem State.modTq_clock : (s.modTq f).clock = s.clock := rfl
@[simp] theorem State.modTq_lines : (s.modTq f).lines = s.lines := rfl
@[simp] theorem State.modTq_ds : (s.modTq f).ds = s.ds := rfl
@[simp] theorem State.modTq_efe : (s.modTq f).efe = s.efe := rfl
@[simp] theorem State.modTq_pm : (s.modTq f).pm = s.pm := rfl
@[simp] theorem State.modTq_tq : (s.modTq f).tq = f s.tq := rfl
@[simp] theorem State.modTq_te : (s.modTq f).te = s.te := rfl
@[simp] theorem State.modTq_rg : (s.modTq f).rg = s.rg := rfl
@[simp] theorem State.modTq_es : (s.modTq f).es = s.es := rfl
@[simp] theorem State.modTq_wt : (s.modTq f).wt = s.wt := rfl
@[simp] theorem State.modTq_cc : (s.modTq f).cc = s.cc := rfl
@[simp] theorem State.modTq_fm : (s.modTq f).fm = s.fm := rfl
@[simp] theorem State.modTq_link : (s.modTq f).link = s.link := rfl
@[simp] theorem State.modTq_pending : (s.modTq f).pending = s.pending := rfl
end modTq

section modTe
variable (s : State) (f : Executive → Executive)
@[simp] theorem State.modTe_clock : (s.modTe f).clock = s.clock := rfl
@[simp] theorem State.modTe_lines : (s.modTe f).lines = s.lines := rfl
@[simp] theorem State.modTe_ds : (s.modTe f).ds = s.ds := rfl
@[simp] theorem State.modTe_efe : (s.modTe f).efe = s.efe := rfl
@[simp] theorem State.modTe_pm : (s.modTe f).pm = s.pm := rfl
@[simp] theorem State.modTe_tq : (s.modTe f).tq = s.tq := rfl
@[simp] theorem State.modTe_te : (s.modTe f).te = f s.te := rfl
@[simp] theorem State.modTe_rg : (s.modTe f).rg = s.rg := rfl
@[simp] theorem State.modTe_es : (s.modTe f).es = s.es := rfl
@[simp] theorem State.modTe_wt : (s.modTe f).wt = s.wt := rfl
@[simp] theorem State.modTe_cc : (s.modTe f).cc = s.cc := rfl
@[simp] theorem State.modTe_fm : (s.modTe f).fm = s.fm := rfl
@[simp] theorem State.modTe_link : (s.modTe f).link = s.link := rfl
@[simp] theorem State.modTe_pending : (s.modTe f).pending = s.pending := rfl
end modTe

section modRg
variable (s : State) (f : ReferenceGenerator → ReferenceGenerator)
@[simp] theorem State.modRg_clock : (s.modRg f).clock = s.clock := rfl
@[simp] theorem State.modRg_lines : (s.modRg f).lines = s.lines := rfl
@[simp] theorem State.modRg_ds : (s.modRg f).ds = s.ds := rfl
@[simp] theorem State.modRg_efe : (s.modRg f).efe = s.efe := rfl
@[simp] theorem State.modRg_pm : (s.modRg f).pm = s.pm := rfl
@[simp] theorem State.modRg_tq : (s.modRg f).tq = s.tq := rfl
@[simp] theorem State.modRg_te : (s.modRg f).te = s.te := rfl
@[simp] theorem State.modRg_rg : (s.modRg f).rg = f s.rg := rfl
@[simp] theorem State.modRg_es : (s.modRg f).es = s.es := rfl
@[simp] theorem State.modRg_wt : (s.modRg f).wt = s.wt := rfl
@[simp] theorem State.modRg_cc : (s.modRg f).cc = s.cc := rfl
@[simp] theorem State.modRg_fm : (s.modRg f).fm = s.fm := rfl
@[simp] theorem State.modRg_link : (s.modRg f).link = s.link := rfl
@[simp] theorem State.modRg_pending : (s.modRg f).pending = s.pending := rfl
end modRg

section modEs
variable (s : State) (f : EnvelopeSupervisor → EnvelopeSupervisor)
@[simp] theorem State.modEs_clock : (s.modEs f).clock = s.clock := rfl
@[simp] theorem State.modEs_lines : (s.modEs f).lines = s.lines := rfl
@[simp] theorem State.modEs_ds : (s.modEs f).ds = s.ds := rfl
@[simp] theorem State.modEs_efe : (s.modEs f).efe = s.efe := rfl
@[simp] theorem State.modEs_pm : (s.modEs f).pm = s.pm := rfl
@[simp] theorem State.modEs_tq : (s.modEs f).tq = s.tq := rfl
@[simp] theorem State.modEs_te : (s.modEs f).te = s.te := rfl
@[simp] theorem State.modEs_rg : (s.modEs f).rg = s.rg := rfl
@[simp] theorem State.modEs_es : (s.modEs f).es = f s.es := rfl
@[simp] theorem State.modEs_wt : (s.modEs f).wt = s.wt := rfl
@[simp] theorem State.modEs_cc : (s.modEs f).cc = s.cc := rfl
@[simp] theorem State.modEs_fm : (s.modEs f).fm = s.fm := rfl
@[simp] theorem State.modEs_link : (s.modEs f).link = s.link := rfl
@[simp] theorem State.modEs_pending : (s.modEs f).pending = s.pending := rfl
end modEs

section modWt
variable (s : State) (f : Vector (Option WatchEntry) 16 → Vector (Option WatchEntry) 16)
@[simp] theorem State.modWt_clock : (s.modWt f).clock = s.clock := rfl
@[simp] theorem State.modWt_lines : (s.modWt f).lines = s.lines := rfl
@[simp] theorem State.modWt_ds : (s.modWt f).ds = s.ds := rfl
@[simp] theorem State.modWt_efe : (s.modWt f).efe = s.efe := rfl
@[simp] theorem State.modWt_pm : (s.modWt f).pm = s.pm := rfl
@[simp] theorem State.modWt_tq : (s.modWt f).tq = s.tq := rfl
@[simp] theorem State.modWt_te : (s.modWt f).te = s.te := rfl
@[simp] theorem State.modWt_rg : (s.modWt f).rg = s.rg := rfl
@[simp] theorem State.modWt_es : (s.modWt f).es = s.es := rfl
@[simp] theorem State.modWt_wt : (s.modWt f).wt = f s.wt := rfl
@[simp] theorem State.modWt_cc : (s.modWt f).cc = s.cc := rfl
@[simp] theorem State.modWt_fm : (s.modWt f).fm = s.fm := rfl
@[simp] theorem State.modWt_link : (s.modWt f).link = s.link := rfl
@[simp] theorem State.modWt_pending : (s.modWt f).pending = s.pending := rfl
end modWt

section modCc
variable (s : State) (f : ClutchController → ClutchController)
@[simp] theorem State.modCc_clock : (s.modCc f).clock = s.clock := rfl
@[simp] theorem State.modCc_lines : (s.modCc f).lines = s.lines := rfl
@[simp] theorem State.modCc_ds : (s.modCc f).ds = s.ds := rfl
@[simp] theorem State.modCc_efe : (s.modCc f).efe = s.efe := rfl
@[simp] theorem State.modCc_pm : (s.modCc f).pm = s.pm := rfl
@[simp] theorem State.modCc_tq : (s.modCc f).tq = s.tq := rfl
@[simp] theorem State.modCc_te : (s.modCc f).te = s.te := rfl
@[simp] theorem State.modCc_rg : (s.modCc f).rg = s.rg := rfl
@[simp] theorem State.modCc_es : (s.modCc f).es = s.es := rfl
@[simp] theorem State.modCc_wt : (s.modCc f).wt = s.wt := rfl
@[simp] theorem State.modCc_cc : (s.modCc f).cc = f s.cc := rfl
@[simp] theorem State.modCc_fm : (s.modCc f).fm = s.fm := rfl
@[simp] theorem State.modCc_link : (s.modCc f).link = s.link := rfl
@[simp] theorem State.modCc_pending : (s.modCc f).pending = s.pending := rfl
end modCc

section modFm
variable (s : State) (f : FaultManager → FaultManager)
@[simp] theorem State.modFm_clock : (s.modFm f).clock = s.clock := rfl
@[simp] theorem State.modFm_lines : (s.modFm f).lines = s.lines := rfl
@[simp] theorem State.modFm_ds : (s.modFm f).ds = s.ds := rfl
@[simp] theorem State.modFm_efe : (s.modFm f).efe = s.efe := rfl
@[simp] theorem State.modFm_pm : (s.modFm f).pm = s.pm := rfl
@[simp] theorem State.modFm_tq : (s.modFm f).tq = s.tq := rfl
@[simp] theorem State.modFm_te : (s.modFm f).te = s.te := rfl
@[simp] theorem State.modFm_rg : (s.modFm f).rg = s.rg := rfl
@[simp] theorem State.modFm_es : (s.modFm f).es = s.es := rfl
@[simp] theorem State.modFm_wt : (s.modFm f).wt = s.wt := rfl
@[simp] theorem State.modFm_cc : (s.modFm f).cc = s.cc := rfl
@[simp] theorem State.modFm_fm : (s.modFm f).fm = f s.fm := rfl
@[simp] theorem State.modFm_link : (s.modFm f).link = s.link := rfl
@[simp] theorem State.modFm_pending : (s.modFm f).pending = s.pending := rfl
end modFm

section modLink
variable (s : State) (f : ControlLink → ControlLink)
@[simp] theorem State.modLink_clock : (s.modLink f).clock = s.clock := rfl
@[simp] theorem State.modLink_lines : (s.modLink f).lines = s.lines := rfl
@[simp] theorem State.modLink_ds : (s.modLink f).ds = s.ds := rfl
@[simp] theorem State.modLink_efe : (s.modLink f).efe = s.efe := rfl
@[simp] theorem State.modLink_pm : (s.modLink f).pm = s.pm := rfl
@[simp] theorem State.modLink_tq : (s.modLink f).tq = s.tq := rfl
@[simp] theorem State.modLink_te : (s.modLink f).te = s.te := rfl
@[simp] theorem State.modLink_rg : (s.modLink f).rg = s.rg := rfl
@[simp] theorem State.modLink_es : (s.modLink f).es = s.es := rfl
@[simp] theorem State.modLink_wt : (s.modLink f).wt = s.wt := rfl
@[simp] theorem State.modLink_cc : (s.modLink f).cc = s.cc := rfl
@[simp] theorem State.modLink_fm : (s.modLink f).fm = s.fm := rfl
@[simp] theorem State.modLink_link : (s.modLink f).link = f s.link := rfl
@[simp] theorem State.modLink_pending : (s.modLink f).pending = s.pending := rfl
end modLink

section modLines
variable (s : State) (f : InputLines → InputLines)
@[simp] theorem State.modLines_clock : (s.modLines f).clock = s.clock := rfl
@[simp] theorem State.modLines_lines : (s.modLines f).lines = f s.lines := rfl
@[simp] theorem State.modLines_ds : (s.modLines f).ds = s.ds := rfl
@[simp] theorem State.modLines_efe : (s.modLines f).efe = s.efe := rfl
@[simp] theorem State.modLines_pm : (s.modLines f).pm = s.pm := rfl
@[simp] theorem State.modLines_tq : (s.modLines f).tq = s.tq := rfl
@[simp] theorem State.modLines_te : (s.modLines f).te = s.te := rfl
@[simp] theorem State.modLines_rg : (s.modLines f).rg = s.rg := rfl
@[simp] theorem State.modLines_es : (s.modLines f).es = s.es := rfl
@[simp] theorem State.modLines_wt : (s.modLines f).wt = s.wt := rfl
@[simp] theorem State.modLines_cc : (s.modLines f).cc = s.cc := rfl
@[simp] theorem State.modLines_fm : (s.modLines f).fm = s.fm := rfl
@[simp] theorem State.modLines_link : (s.modLines f).link = s.link := rfl
@[simp] theorem State.modLines_pending : (s.modLines f).pending = s.pending := rfl
end modLines

section setClock
variable (s : State) (t : Nat)
@[simp] theorem State.setClock_clock : (s.setClock t).clock = t := rfl
@[simp] theorem State.setClock_lines : (s.setClock t).lines = s.lines := rfl
@[simp] theorem State.setClock_ds : (s.setClock t).ds = s.ds := rfl
@[simp] theorem State.setClock_efe : (s.setClock t).efe = s.efe := rfl
@[simp] theorem State.setClock_pm : (s.setClock t).pm = s.pm := rfl
@[simp] theorem State.setClock_tq : (s.setClock t).tq = s.tq := rfl
@[simp] theorem State.setClock_te : (s.setClock t).te = s.te := rfl
@[simp] theorem State.setClock_rg : (s.setClock t).rg = s.rg := rfl
@[simp] theorem State.setClock_es : (s.setClock t).es = s.es := rfl
@[simp] theorem State.setClock_wt : (s.setClock t).wt = s.wt := rfl
@[simp] theorem State.setClock_cc : (s.setClock t).cc = s.cc := rfl
@[simp] theorem State.setClock_fm : (s.setClock t).fm = s.fm := rfl
@[simp] theorem State.setClock_link : (s.setClock t).link = s.link := rfl
@[simp] theorem State.setClock_pending : (s.setClock t).pending = s.pending := rfl
end setClock

end Sys2Proof.Machine
end

