-- ==== Sys2Proof/Laws/Ops.lean ====
section
/-! SUPPORT. What each shared operation of Machine/Ops.lean leaves unchanged. -/

namespace Sys2Proof.Machine

open Sys2Proof

section modConv
variable (s : State) (c : Conv) (f : ConvModel → ConvModel)
@[simp] theorem State.modConv_clock : (s.modConv c f).clock = s.clock := rfl
@[simp] theorem State.modConv_lines : (s.modConv c f).lines = s.lines := rfl
@[simp] theorem State.modConv_ds : (s.modConv c f).ds = s.ds := rfl
@[simp] theorem State.modConv_efe : (s.modConv c f).efe = s.efe := rfl
@[simp] theorem State.modConv_tq : (s.modConv c f).tq = s.tq := rfl
@[simp] theorem State.modConv_te : (s.modConv c f).te = s.te := rfl
@[simp] theorem State.modConv_rg : (s.modConv c f).rg = s.rg := rfl
@[simp] theorem State.modConv_es : (s.modConv c f).es = s.es := rfl
@[simp] theorem State.modConv_wt : (s.modConv c f).wt = s.wt := rfl
@[simp] theorem State.modConv_cc : (s.modConv c f).cc = s.cc := rfl
@[simp] theorem State.modConv_fm : (s.modConv c f).fm = s.fm := rfl
@[simp] theorem State.modConv_link : (s.modConv c f).link = s.link := rfl
@[simp] theorem State.modConv_pending : (s.modConv c f).pending = s.pending := rfl
end modConv

section modDrum
variable (s : State) (c : Conv) (f : DrumModel → DrumModel)
@[simp] theorem State.modDrum_clock : (s.modDrum c f).clock = s.clock := rfl
@[simp] theorem State.modDrum_lines : (s.modDrum c f).lines = s.lines := rfl
@[simp] theorem State.modDrum_ds : (s.modDrum c f).ds = s.ds := rfl
@[simp] theorem State.modDrum_efe : (s.modDrum c f).efe = s.efe := rfl
@[simp] theorem State.modDrum_tq : (s.modDrum c f).tq = s.tq := rfl
@[simp] theorem State.modDrum_te : (s.modDrum c f).te = s.te := rfl
@[simp] theorem State.modDrum_rg : (s.modDrum c f).rg = s.rg := rfl
@[simp] theorem State.modDrum_es : (s.modDrum c f).es = s.es := rfl
@[simp] theorem State.modDrum_wt : (s.modDrum c f).wt = s.wt := rfl
@[simp] theorem State.modDrum_cc : (s.modDrum c f).cc = s.cc := rfl
@[simp] theorem State.modDrum_fm : (s.modDrum c f).fm = s.fm := rfl
@[simp] theorem State.modDrum_link : (s.modDrum c f).link = s.link := rfl
@[simp] theorem State.modDrum_pending : (s.modDrum c f).pending = s.pending := rfl
end modDrum

section modFront
variable (s : State) (c : Conv) (f : DrumFront → DrumFront)
@[simp] theorem State.modFront_clock : (s.modFront c f).clock = s.clock := rfl
@[simp] theorem State.modFront_lines : (s.modFront c f).lines = s.lines := rfl
@[simp] theorem State.modFront_ds : (s.modFront c f).ds = s.ds := rfl
@[simp] theorem State.modFront_pm : (s.modFront c f).pm = s.pm := rfl
@[simp] theorem State.modFront_tq : (s.modFront c f).tq = s.tq := rfl
@[simp] theorem State.modFront_te : (s.modFront c f).te = s.te := rfl
@[simp] theorem State.modFront_rg : (s.modFront c f).rg = s.rg := rfl
@[simp] theorem State.modFront_es : (s.modFront c f).es = s.es := rfl
@[simp] theorem State.modFront_wt : (s.modFront c f).wt = s.wt := rfl
@[simp] theorem State.modFront_cc : (s.modFront c f).cc = s.cc := rfl
@[simp] theorem State.modFront_fm : (s.modFront c f).fm = s.fm := rfl
@[simp] theorem State.modFront_link : (s.modFront c f).link = s.link := rfl
@[simp] theorem State.modFront_pending : (s.modFront c f).pending = s.pending := rfl
end modFront

section modHead
variable (s : State) (f : TripRecord → TripRecord)
@[simp] theorem State.modHead_clock : (s.modHead f).clock = s.clock := rfl
@[simp] theorem State.modHead_lines : (s.modHead f).lines = s.lines := rfl
@[simp] theorem State.modHead_ds : (s.modHead f).ds = s.ds := rfl
@[simp] theorem State.modHead_efe : (s.modHead f).efe = s.efe := rfl
@[simp] theorem State.modHead_pm : (s.modHead f).pm = s.pm := rfl
@[simp] theorem State.modHead_te : (s.modHead f).te = s.te := rfl
@[simp] theorem State.modHead_rg : (s.modHead f).rg = s.rg := rfl
@[simp] theorem State.modHead_es : (s.modHead f).es = s.es := rfl
@[simp] theorem State.modHead_wt : (s.modHead f).wt = s.wt := rfl
@[simp] theorem State.modHead_cc : (s.modHead f).cc = s.cc := rfl
@[simp] theorem State.modHead_fm : (s.modHead f).fm = s.fm := rfl
@[simp] theorem State.modHead_link : (s.modHead f).link = s.link := rfl
@[simp] theorem State.modHead_pending : (s.modHead f).pending = s.pending := rfl
end modHead

section elapse
variable (s : State) (e : Elapse)
@[simp] theorem State.elapse_ds : (s.elapse e).ds = s.ds := rfl
@[simp] theorem State.elapse_efe : (s.elapse e).efe = s.efe := rfl
@[simp] theorem State.elapse_pm : (s.elapse e).pm = s.pm := rfl
@[simp] theorem State.elapse_tq : (s.elapse e).tq = s.tq := rfl
@[simp] theorem State.elapse_te : (s.elapse e).te = s.te := rfl
@[simp] theorem State.elapse_es : (s.elapse e).es = s.es := rfl
@[simp] theorem State.elapse_wt : (s.elapse e).wt = s.wt := rfl
@[simp] theorem State.elapse_cc : (s.elapse e).cc = s.cc := rfl
@[simp] theorem State.elapse_fm : (s.elapse e).fm = s.fm := rfl
@[simp] theorem State.elapse_link : (s.elapse e).link = s.link := rfl
@[simp] theorem State.elapse_pending : (s.elapse e).pending = s.pending := rfl
end elapse

section reach
variable (s : State) (t : Nat)
@[simp] theorem State.reach_lines : (s.reach t).lines = s.lines := by
  unfold State.reach; split <;> simp
@[simp] theorem State.reach_ds : (s.reach t).ds = s.ds := by
  unfold State.reach; split <;> simp
@[simp] theorem State.reach_efe : (s.reach t).efe = s.efe := by
  unfold State.reach; split <;> simp
@[simp] theorem State.reach_pm : (s.reach t).pm = s.pm := by
  unfold State.reach; split <;> simp
@[simp] theorem State.reach_tq : (s.reach t).tq = s.tq := by
  unfold State.reach; split <;> simp
@[simp] theorem State.reach_te : (s.reach t).te = s.te := by
  unfold State.reach; split <;> simp
@[simp] theorem State.reach_rg : (s.reach t).rg = s.rg := by
  unfold State.reach; split <;> simp
@[simp] theorem State.reach_es : (s.reach t).es = s.es := by
  unfold State.reach; split <;> simp
@[simp] theorem State.reach_wt : (s.reach t).wt = s.wt := by
  unfold State.reach; split <;> simp
@[simp] theorem State.reach_cc : (s.reach t).cc = s.cc := by
  unfold State.reach; split <;> simp
@[simp] theorem State.reach_fm : (s.reach t).fm = s.fm := by
  unfold State.reach; split <;> simp
@[simp] theorem State.reach_link : (s.reach t).link = s.link := by
  unfold State.reach; split <;> simp
@[simp] theorem State.reach_pending : (s.reach t).pending = s.pending := by
  unfold State.reach; split <;> simp
end reach

section raise
variable (s : State) (k : EventKind) (t : Nat) (v1 v2 v3 v4 : Word32)
@[simp] theorem State.raise_clock : (s.raise k t v1 v2 v3 v4).clock = s.clock := rfl
@[simp] theorem State.raise_lines : (s.raise k t v1 v2 v3 v4).lines = s.lines := rfl
@[simp] theorem State.raise_ds : (s.raise k t v1 v2 v3 v4).ds = s.ds := rfl
@[simp] theorem State.raise_efe : (s.raise k t v1 v2 v3 v4).efe = s.efe := rfl
@[simp] theorem State.raise_pm : (s.raise k t v1 v2 v3 v4).pm = s.pm := rfl
@[simp] theorem State.raise_tq : (s.raise k t v1 v2 v3 v4).tq = s.tq := rfl
@[simp] theorem State.raise_te : (s.raise k t v1 v2 v3 v4).te = s.te := rfl
@[simp] theorem State.raise_rg : (s.raise k t v1 v2 v3 v4).rg = s.rg := rfl
@[simp] theorem State.raise_es : (s.raise k t v1 v2 v3 v4).es = s.es := rfl
@[simp] theorem State.raise_wt : (s.raise k t v1 v2 v3 v4).wt = s.wt := rfl
@[simp] theorem State.raise_cc : (s.raise k t v1 v2 v3 v4).cc = s.cc := rfl
@[simp] theorem State.raise_fm : (s.raise k t v1 v2 v3 v4).fm = s.fm := rfl
@[simp] theorem State.raise_pending : (s.raise k t v1 v2 v3 v4).pending = s.pending := rfl
end raise

section setCertainty
variable (s : State) (c : Conv) (n : Certainty) (y : CertaintyCause)
@[simp] theorem State.setCertainty_clock : (s.setCertainty c n y).clock = s.clock := by
  unfold State.setCertainty; split <;> simp
@[simp] theorem State.setCertainty_lines : (s.setCertainty c n y).lines = s.lines := by
  unfold State.setCertainty; split <;> simp
@[simp] theorem State.setCertainty_ds : (s.setCertainty c n y).ds = s.ds := by
  unfold State.setCertainty; split <;> simp
@[simp] theorem State.setCertainty_efe : (s.setCertainty c n y).efe = s.efe := by
  unfold State.setCertainty; split <;> simp
@[simp] theorem State.setCertainty_tq : (s.setCertainty c n y).tq = s.tq := by
  unfold State.setCertainty; split <;> simp
@[simp] theorem State.setCertainty_te : (s.setCertainty c n y).te = s.te := by
  unfold State.setCertainty; split <;> simp
@[simp] theorem State.setCertainty_rg : (s.setCertainty c n y).rg = s.rg := by
  unfold State.setCertainty; split <;> simp
@[simp] theorem State.setCertainty_es : (s.setCertainty c n y).es = s.es := by
  unfold State.setCertainty; split <;> simp
@[simp] theorem State.setCertainty_wt : (s.setCertainty c n y).wt = s.wt := by
  unfold State.setCertainty; split <;> simp
@[simp] theorem State.setCertainty_cc : (s.setCertainty c n y).cc = s.cc := by
  unfold State.setCertainty; split <;> simp
@[simp] theorem State.setCertainty_fm : (s.setCertainty c n y).fm = s.fm := by
  unfold State.setCertainty; split <;> simp
@[simp] theorem State.setCertainty_pending : (s.setCertainty c n y).pending = s.pending := by
  unfold State.setCertainty; split <;> simp
end setCertainty

section sendDrive
variable (s : State) (r : Int) (b : Bool)
@[simp] theorem State.sendDrive_clock : (s.sendDrive r b).clock = s.clock := rfl
@[simp] theorem State.sendDrive_lines : (s.sendDrive r b).lines = s.lines := rfl
@[simp] theorem State.sendDrive_ds : (s.sendDrive r b).ds = s.ds := rfl
@[simp] theorem State.sendDrive_efe : (s.sendDrive r b).efe = s.efe := rfl
@[simp] theorem State.sendDrive_pm : (s.sendDrive r b).pm = s.pm := rfl
@[simp] theorem State.sendDrive_tq : (s.sendDrive r b).tq = s.tq := rfl
@[simp] theorem State.sendDrive_te : (s.sendDrive r b).te = s.te := rfl
@[simp] theorem State.sendDrive_wt : (s.sendDrive r b).wt = s.wt := rfl
@[simp] theorem State.sendDrive_cc : (s.sendDrive r b).cc = s.cc := rfl
@[simp] theorem State.sendDrive_fm : (s.sendDrive r b).fm = s.fm := rfl
@[simp] theorem State.sendDrive_link : (s.sendDrive r b).link = s.link := rfl
@[simp] theorem State.sendDrive_pending : (s.sendDrive r b).pending = s.pending := rfl
end sendDrive

section enter
variable (s : State) (w : WinderState) (y : Cause) (t : Nat)
@[simp] theorem State.enter_clock : (s.enter w y t).clock = s.clock := rfl
@[simp] theorem State.enter_lines : (s.enter w y t).lines = s.lines := rfl
@[simp] theorem State.enter_ds : (s.enter w y t).ds = s.ds := rfl
@[simp] theorem State.enter_efe : (s.enter w y t).efe = s.efe := rfl
@[simp] theorem State.enter_pm : (s.enter w y t).pm = s.pm := rfl
@[simp] theorem State.enter_tq : (s.enter w y t).tq = s.tq := rfl
@[simp] theorem State.enter_wt : (s.enter w y t).wt = s.wt := rfl
@[simp] theorem State.enter_cc : (s.enter w y t).cc = s.cc := rfl
@[simp] theorem State.enter_pending : (s.enter w y t).pending = s.pending := rfl
end enter

section discardPlan
variable (s : State)
@[simp] theorem State.discardPlan_clock : (s.discardPlan).clock = s.clock := rfl
@[simp] theorem State.discardPlan_lines : (s.discardPlan).lines = s.lines := rfl
@[simp] theorem State.discardPlan_ds : (s.discardPlan).ds = s.ds := rfl
@[simp] theorem State.discardPlan_efe : (s.discardPlan).efe = s.efe := rfl
@[simp] theorem State.discardPlan_pm : (s.discardPlan).pm = s.pm := rfl
@[simp] theorem State.discardPlan_tq : (s.discardPlan).tq = s.tq := rfl
@[simp] theorem State.discardPlan_te : (s.discardPlan).te = s.te := rfl
@[simp] theorem State.discardPlan_cc : (s.discardPlan).cc = s.cc := rfl
@[simp] theorem State.discardPlan_fm : (s.discardPlan).fm = s.fm := rfl
@[simp] theorem State.discardPlan_link : (s.discardPlan).link = s.link := rfl
@[simp] theorem State.discardPlan_pending : (s.discardPlan).pending = s.pending := rfl
end discardPlan

section interrupt
variable (s : State)
@[simp] theorem State.interrupt_clock : (s.interrupt).clock = s.clock := by
  unfold State.interrupt; split <;> simp
@[simp] theorem State.interrupt_lines : (s.interrupt).lines = s.lines := by
  unfold State.interrupt; split <;> simp
@[simp] theorem State.interrupt_ds : (s.interrupt).ds = s.ds := by
  unfold State.interrupt; split <;> simp
@[simp] theorem State.interrupt_efe : (s.interrupt).efe = s.efe := by
  unfold State.interrupt; split <;> simp
@[simp] theorem State.interrupt_pm : (s.interrupt).pm = s.pm := by
  unfold State.interrupt; split <;> simp
@[simp] theorem State.interrupt_cc : (s.interrupt).cc = s.cc := by
  unfold State.interrupt; split <;> simp
@[simp] theorem State.interrupt_fm : (s.interrupt).fm = s.fm := by
  unfold State.interrupt; split <;> simp
@[simp] theorem State.interrupt_pending : (s.interrupt).pending = s.pending := by
  unfold State.interrupt; split <;> simp
end interrupt

section raiseEnded
variable (s : State) (o : Nat) (r : TripRecord) (n : Nat)
@[simp] theorem State.raiseEnded_clock : (s.raiseEnded o r n).clock = s.clock := rfl
@[simp] theorem State.raiseEnded_lines : (s.raiseEnded o r n).lines = s.lines := rfl
@[simp] theorem State.raiseEnded_ds : (s.raiseEnded o r n).ds = s.ds := rfl
@[simp] theorem State.raiseEnded_efe : (s.raiseEnded o r n).efe = s.efe := rfl
@[simp] theorem State.raiseEnded_pm : (s.raiseEnded o r n).pm = s.pm := rfl
@[simp] theorem State.raiseEnded_tq : (s.raiseEnded o r n).tq = s.tq := rfl
@[simp] theorem State.raiseEnded_te : (s.raiseEnded o r n).te = s.te := rfl
@[simp] theorem State.raiseEnded_rg : (s.raiseEnded o r n).rg = s.rg := rfl
@[simp] theorem State.raiseEnded_es : (s.raiseEnded o r n).es = s.es := rfl
@[simp] theorem State.raiseEnded_wt : (s.raiseEnded o r n).wt = s.wt := rfl
@[simp] theorem State.raiseEnded_cc : (s.raiseEnded o r n).cc = s.cc := rfl
@[simp] theorem State.raiseEnded_fm : (s.raiseEnded o r n).fm = s.fm := rfl
@[simp] theorem State.raiseEnded_pending : (s.raiseEnded o r n).pending = s.pending := rfl
end raiseEnded

section complete
variable (s : State)
@[simp] theorem State.complete_clock : (s.complete).clock = s.clock := by
  unfold State.complete; split <;> simp
@[simp] theorem State.complete_lines : (s.complete).lines = s.lines := by
  unfold State.complete; split <;> simp
@[simp] theorem State.complete_ds : (s.complete).ds = s.ds := by
  unfold State.complete; split <;> simp
@[simp] theorem State.complete_efe : (s.complete).efe = s.efe := by
  unfold State.complete; split <;> simp
@[simp] theorem State.complete_pm : (s.complete).pm = s.pm := by
  unfold State.complete; split <;> simp
@[simp] theorem State.complete_cc : (s.complete).cc = s.cc := by
  unfold State.complete; split <;> simp
@[simp] theorem State.complete_fm : (s.complete).fm = s.fm := by
  unfold State.complete; split <;> simp
@[simp] theorem State.complete_pending : (s.complete).pending = s.pending := by
  unfold State.complete; split <;> simp
end complete

end Sys2Proof.Machine
end

