-- ==== Sys2Proof/Laws/Faults.lean ====
section
/-! SUPPORT. What each shared operation of Machine/Faults.lean leaves unchanged. -/

namespace Sys2Proof.Machine

open Sys2Proof

section toIdle
variable (s : State) (y : Cause)
@[simp] theorem State.toIdle_clock : (s.toIdle y).clock = s.clock := by
  simp [State.toIdle]
@[simp] theorem State.toIdle_lines : (s.toIdle y).lines = s.lines := by
  simp [State.toIdle]
@[simp] theorem State.toIdle_ds : (s.toIdle y).ds = s.ds := by
  simp [State.toIdle]
@[simp] theorem State.toIdle_efe : (s.toIdle y).efe = s.efe := by
  simp [State.toIdle]
@[simp] theorem State.toIdle_pm : (s.toIdle y).pm = s.pm := by
  simp [State.toIdle]
@[simp] theorem State.toIdle_cc : (s.toIdle y).cc = s.cc := by
  simp [State.toIdle]
@[simp] theorem State.toIdle_pending : (s.toIdle y).pending = s.pending := by
  simp [State.toIdle]
end toIdle

section abandon
variable (s : State) (y : Cause)
@[simp] theorem State.abandon_clock : (s.abandon y).clock = s.clock := by
  simp [State.abandon]
@[simp] theorem State.abandon_lines : (s.abandon y).lines = s.lines := by
  simp [State.abandon]
@[simp] theorem State.abandon_ds : (s.abandon y).ds = s.ds := by
  simp [State.abandon]
@[simp] theorem State.abandon_efe : (s.abandon y).efe = s.efe := by
  simp [State.abandon]
@[simp] theorem State.abandon_pm : (s.abandon y).pm = s.pm := by
  simp [State.abandon]
@[simp] theorem State.abandon_cc : (s.abandon y).cc = s.cc := by
  simp [State.abandon]
@[simp] theorem State.abandon_pending : (s.abandon y).pending = s.pending := by
  simp [State.abandon]
end abandon

section beginStopping
variable (s : State) (r : StopReason) (w : Option Nat) (y : Cause)
@[simp] theorem State.beginStopping_clock : (s.beginStopping r w y).clock = s.clock := rfl
@[simp] theorem State.beginStopping_lines : (s.beginStopping r w y).lines = s.lines := rfl
@[simp] theorem State.beginStopping_ds : (s.beginStopping r w y).ds = s.ds := rfl
@[simp] theorem State.beginStopping_efe : (s.beginStopping r w y).efe = s.efe := rfl
@[simp] theorem State.beginStopping_pm : (s.beginStopping r w y).pm = s.pm := rfl
@[simp] theorem State.beginStopping_tq : (s.beginStopping r w y).tq = s.tq := rfl
@[simp] theorem State.beginStopping_wt : (s.beginStopping r w y).wt = s.wt := rfl
@[simp] theorem State.beginStopping_cc : (s.beginStopping r w y).cc = s.cc := rfl
@[simp] theorem State.beginStopping_pending : (s.beginStopping r w y).pending = s.pending := rfl
end beginStopping

section setStopOrder
variable (s : State) (b : Bool)
@[simp] theorem State.setStopOrder_clock : (s.setStopOrder b).clock = s.clock := rfl
@[simp] theorem State.setStopOrder_lines : (s.setStopOrder b).lines = s.lines := rfl
@[simp] theorem State.setStopOrder_ds : (s.setStopOrder b).ds = s.ds := rfl
@[simp] theorem State.setStopOrder_efe : (s.setStopOrder b).efe = s.efe := rfl
@[simp] theorem State.setStopOrder_pm : (s.setStopOrder b).pm = s.pm := rfl
@[simp] theorem State.setStopOrder_tq : (s.setStopOrder b).tq = s.tq := rfl
@[simp] theorem State.setStopOrder_te : (s.setStopOrder b).te = s.te := rfl
@[simp] theorem State.setStopOrder_rg : (s.setStopOrder b).rg = s.rg := rfl
@[simp] theorem State.setStopOrder_es : (s.setStopOrder b).es = s.es := rfl
@[simp] theorem State.setStopOrder_wt : (s.setStopOrder b).wt = s.wt := rfl
@[simp] theorem State.setStopOrder_cc : (s.setStopOrder b).cc = s.cc := rfl
@[simp] theorem State.setStopOrder_link : (s.setStopOrder b).link = s.link := rfl
@[simp] theorem State.setStopOrder_pending : (s.setStopOrder b).pending = s.pending := rfl
end setStopOrder

section halt
variable (s : State)
@[simp] theorem State.halt_clock : (s.halt).clock = s.clock := by
  simp [State.halt]
@[simp] theorem State.halt_lines : (s.halt).lines = s.lines := by
  simp [State.halt]
@[simp] theorem State.halt_ds : (s.halt).ds = s.ds := by
  simp [State.halt]
@[simp] theorem State.halt_efe : (s.halt).efe = s.efe := by
  simp [State.halt]
@[simp] theorem State.halt_pm : (s.halt).pm = s.pm := by
  simp [State.halt]
@[simp] theorem State.halt_cc : (s.halt).cc = s.cc := by
  simp [State.halt]
@[simp] theorem State.halt_pending : (s.halt).pending = s.pending := by
  simp [State.halt]
end halt

section trip
variable (s : State) (r : ServiceReturn) (k : FaultKind)
@[simp] theorem State.trip_clock : (s.trip r k).clock = s.clock := by
  simp [State.trip]
@[simp] theorem State.trip_lines : (s.trip r k).lines = s.lines := by
  simp [State.trip]
@[simp] theorem State.trip_ds : (s.trip r k).ds = s.ds := by
  simp [State.trip]
@[simp] theorem State.trip_efe : (s.trip r k).efe = s.efe := by
  simp [State.trip]
@[simp] theorem State.trip_pm : (s.trip r k).pm = s.pm := by
  simp [State.trip]
@[simp] theorem State.trip_cc : (s.trip r k).cc = s.cc := by
  simp [State.trip]
@[simp] theorem State.trip_pending : (s.trip r k).pending = s.pending := by
  simp [State.trip]
end trip

section lock
variable (s : State) (k : FaultKind)
@[simp] theorem State.lock_clock : (s.lock k).clock = s.clock := by
  simp [State.lock]
@[simp] theorem State.lock_lines : (s.lock k).lines = s.lines := by
  simp [State.lock]
@[simp] theorem State.lock_ds : (s.lock k).ds = s.ds := by
  simp [State.lock]
@[simp] theorem State.lock_efe : (s.lock k).efe = s.efe := by
  simp [State.lock]
@[simp] theorem State.lock_pm : (s.lock k).pm = s.pm := by
  simp [State.lock]
@[simp] theorem State.lock_cc : (s.lock k).cc = s.cc := by
  simp [State.lock]
@[simp] theorem State.lock_pending : (s.lock k).pending = s.pending := by
  simp [State.lock]
end lock

section emergency
variable (s : State) (k : FaultKind)
@[simp] theorem State.emergency_clock : (s.emergency k).clock = s.clock := by
  unfold State.emergency; split <;> simp
@[simp] theorem State.emergency_lines : (s.emergency k).lines = s.lines := by
  unfold State.emergency; split <;> simp
@[simp] theorem State.emergency_ds : (s.emergency k).ds = s.ds := by
  unfold State.emergency; split <;> simp
@[simp] theorem State.emergency_efe : (s.emergency k).efe = s.efe := by
  unfold State.emergency; split <;> simp
@[simp] theorem State.emergency_pm : (s.emergency k).pm = s.pm := by
  unfold State.emergency; split <;> simp
@[simp] theorem State.emergency_cc : (s.emergency k).cc = s.cc := by
  unfold State.emergency; split <;> simp
@[simp] theorem State.emergency_pending : (s.emergency k).pending = s.pending := by
  unfold State.emergency; split <;> simp
end emergency

section lockout
variable (s : State) (k : FaultKind)
@[simp] theorem State.lockout_clock : (s.lockout k).clock = s.clock := by
  unfold State.lockout; split <;> simp
@[simp] theorem State.lockout_lines : (s.lockout k).lines = s.lines := by
  unfold State.lockout; split <;> simp
@[simp] theorem State.lockout_ds : (s.lockout k).ds = s.ds := by
  unfold State.lockout; split <;> simp
@[simp] theorem State.lockout_efe : (s.lockout k).efe = s.efe := by
  unfold State.lockout; split <;> simp
@[simp] theorem State.lockout_pm : (s.lockout k).pm = s.pm := by
  unfold State.lockout; split <;> simp
@[simp] theorem State.lockout_cc : (s.lockout k).cc = s.cc := by
  unfold State.lockout; split <;> simp
@[simp] theorem State.lockout_pending : (s.lockout k).pending = s.pending := by
  unfold State.lockout; split <;> simp
end lockout

section controlledStop
variable (s : State) (k : FaultKind)
@[simp] theorem State.controlledStop_clock : (s.controlledStop k).clock = s.clock := by
  unfold State.controlledStop; repeat' split
  all_goals simp
@[simp] theorem State.controlledStop_lines : (s.controlledStop k).lines = s.lines := by
  unfold State.controlledStop; repeat' split
  all_goals simp
@[simp] theorem State.controlledStop_ds : (s.controlledStop k).ds = s.ds := by
  unfold State.controlledStop; repeat' split
  all_goals simp
@[simp] theorem State.controlledStop_efe : (s.controlledStop k).efe = s.efe := by
  unfold State.controlledStop; repeat' split
  all_goals simp
@[simp] theorem State.controlledStop_pm : (s.controlledStop k).pm = s.pm := by
  unfold State.controlledStop; repeat' split
  all_goals simp
@[simp] theorem State.controlledStop_cc : (s.controlledStop k).cc = s.cc := by
  unfold State.controlledStop; repeat' split
  all_goals simp
@[simp] theorem State.controlledStop_pending : (s.controlledStop k).pending = s.pending := by
  unfold State.controlledStop; repeat' split
  all_goals simp
end controlledStop

section forcedStop
variable (s : State) (i : Nat)
@[simp] theorem State.forcedStop_clock : (s.forcedStop i).clock = s.clock := by
  unfold State.forcedStop; split <;> simp
@[simp] theorem State.forcedStop_lines : (s.forcedStop i).lines = s.lines := by
  unfold State.forcedStop; split <;> simp
@[simp] theorem State.forcedStop_ds : (s.forcedStop i).ds = s.ds := by
  unfold State.forcedStop; split <;> simp
@[simp] theorem State.forcedStop_efe : (s.forcedStop i).efe = s.efe := by
  unfold State.forcedStop; split <;> simp
@[simp] theorem State.forcedStop_pm : (s.forcedStop i).pm = s.pm := by
  unfold State.forcedStop; split <;> simp
@[simp] theorem State.forcedStop_tq : (s.forcedStop i).tq = s.tq := by
  unfold State.forcedStop; split <;> simp
@[simp] theorem State.forcedStop_wt : (s.forcedStop i).wt = s.wt := by
  unfold State.forcedStop; split <;> simp
@[simp] theorem State.forcedStop_cc : (s.forcedStop i).cc = s.cc := by
  unfold State.forcedStop; split <;> simp
@[simp] theorem State.forcedStop_pending : (s.forcedStop i).pending = s.pending := by
  unfold State.forcedStop; split <;> simp
end forcedStop

section order
variable (s : State) (k : FaultKind) (v : Severity)
@[simp] theorem State.order_clock : (s.order k v).clock = s.clock := by
  unfold State.order; split <;> simp
@[simp] theorem State.order_lines : (s.order k v).lines = s.lines := by
  unfold State.order; split <;> simp
@[simp] theorem State.order_ds : (s.order k v).ds = s.ds := by
  unfold State.order; split <;> simp
@[simp] theorem State.order_efe : (s.order k v).efe = s.efe := by
  unfold State.order; split <;> simp
@[simp] theorem State.order_pm : (s.order k v).pm = s.pm := by
  unfold State.order; split <;> simp
@[simp] theorem State.order_cc : (s.order k v).cc = s.cc := by
  unfold State.order; split <;> simp
@[simp] theorem State.order_pending : (s.order k v).pending = s.pending := by
  unfold State.order; split <;> simp
end order

section setInForce
variable (s : State) (v : Severity)
@[simp] theorem State.setInForce_clock : (s.setInForce v).clock = s.clock := by
  unfold State.setInForce; split <;> simp
@[simp] theorem State.setInForce_lines : (s.setInForce v).lines = s.lines := by
  unfold State.setInForce; split <;> simp
@[simp] theorem State.setInForce_ds : (s.setInForce v).ds = s.ds := by
  unfold State.setInForce; split <;> simp
@[simp] theorem State.setInForce_efe : (s.setInForce v).efe = s.efe := by
  unfold State.setInForce; split <;> simp
@[simp] theorem State.setInForce_pm : (s.setInForce v).pm = s.pm := by
  unfold State.setInForce; split <;> simp
@[simp] theorem State.setInForce_tq : (s.setInForce v).tq = s.tq := by
  unfold State.setInForce; split <;> simp
@[simp] theorem State.setInForce_te : (s.setInForce v).te = s.te := by
  unfold State.setInForce; split <;> simp
@[simp] theorem State.setInForce_rg : (s.setInForce v).rg = s.rg := by
  unfold State.setInForce; split <;> simp
@[simp] theorem State.setInForce_es : (s.setInForce v).es = s.es := by
  unfold State.setInForce; split <;> simp
@[simp] theorem State.setInForce_wt : (s.setInForce v).wt = s.wt := by
  unfold State.setInForce; split <;> simp
@[simp] theorem State.setInForce_cc : (s.setInForce v).cc = s.cc := by
  unfold State.setInForce; split <;> simp
@[simp] theorem State.setInForce_link : (s.setInForce v).link = s.link := by
  unfold State.setInForce; split <;> simp
@[simp] theorem State.setInForce_pending : (s.setInForce v).pending = s.pending := by
  unfold State.setInForce; split <;> simp
end setInForce

section respond
variable (s : State) (k : FaultKind) (v : Severity)
@[simp] theorem State.respond_clock : (s.respond k v).clock = s.clock := by
  unfold State.respond; split <;> simp
@[simp] theorem State.respond_lines : (s.respond k v).lines = s.lines := by
  unfold State.respond; split <;> simp
@[simp] theorem State.respond_ds : (s.respond k v).ds = s.ds := by
  unfold State.respond; split <;> simp
@[simp] theorem State.respond_efe : (s.respond k v).efe = s.efe := by
  unfold State.respond; split <;> simp
@[simp] theorem State.respond_pm : (s.respond k v).pm = s.pm := by
  unfold State.respond; split <;> simp
@[simp] theorem State.respond_cc : (s.respond k v).cc = s.cc := by
  unfold State.respond; split <;> simp
@[simp] theorem State.respond_pending : (s.respond k v).pending = s.pending := by
  unfold State.respond; split <;> simp
end respond

section log
variable (s : State) (r : Report) (v : Severity)
@[simp] theorem State.log_clock : (s.log r v).clock = s.clock := rfl
@[simp] theorem State.log_lines : (s.log r v).lines = s.lines := rfl
@[simp] theorem State.log_ds : (s.log r v).ds = s.ds := rfl
@[simp] theorem State.log_efe : (s.log r v).efe = s.efe := rfl
@[simp] theorem State.log_pm : (s.log r v).pm = s.pm := rfl
@[simp] theorem State.log_tq : (s.log r v).tq = s.tq := rfl
@[simp] theorem State.log_te : (s.log r v).te = s.te := rfl
@[simp] theorem State.log_rg : (s.log r v).rg = s.rg := rfl
@[simp] theorem State.log_es : (s.log r v).es = s.es := rfl
@[simp] theorem State.log_wt : (s.log r v).wt = s.wt := rfl
@[simp] theorem State.log_cc : (s.log r v).cc = s.cc := rfl
@[simp] theorem State.log_link : (s.log r v).link = s.link := rfl
@[simp] theorem State.log_pending : (s.log r v).pending = s.pending := rfl
end log

section setPending
variable (s : State) (k : FaultKind) (b : Bool)
@[simp] theorem State.setPending_clock : (s.setPending k b).clock = s.clock := rfl
@[simp] theorem State.setPending_lines : (s.setPending k b).lines = s.lines := rfl
@[simp] theorem State.setPending_ds : (s.setPending k b).ds = s.ds := rfl
@[simp] theorem State.setPending_efe : (s.setPending k b).efe = s.efe := rfl
@[simp] theorem State.setPending_pm : (s.setPending k b).pm = s.pm := rfl
@[simp] theorem State.setPending_tq : (s.setPending k b).tq = s.tq := rfl
@[simp] theorem State.setPending_te : (s.setPending k b).te = s.te := rfl
@[simp] theorem State.setPending_rg : (s.setPending k b).rg = s.rg := rfl
@[simp] theorem State.setPending_es : (s.setPending k b).es = s.es := rfl
@[simp] theorem State.setPending_wt : (s.setPending k b).wt = s.wt := rfl
@[simp] theorem State.setPending_cc : (s.setPending k b).cc = s.cc := rfl
@[simp] theorem State.setPending_link : (s.setPending k b).link = s.link := rfl
@[simp] theorem State.setPending_pending : (s.setPending k b).pending = s.pending := rfl
end setPending

section countReport
variable (s : State) (k : FaultKind)
@[simp] theorem State.countReport_clock : (s.countReport k).clock = s.clock := rfl
@[simp] theorem State.countReport_lines : (s.countReport k).lines = s.lines := rfl
@[simp] theorem State.countReport_ds : (s.countReport k).ds = s.ds := rfl
@[simp] theorem State.countReport_efe : (s.countReport k).efe = s.efe := rfl
@[simp] theorem State.countReport_pm : (s.countReport k).pm = s.pm := rfl
@[simp] theorem State.countReport_tq : (s.countReport k).tq = s.tq := rfl
@[simp] theorem State.countReport_te : (s.countReport k).te = s.te := rfl
@[simp] theorem State.countReport_rg : (s.countReport k).rg = s.rg := rfl
@[simp] theorem State.countReport_es : (s.countReport k).es = s.es := rfl
@[simp] theorem State.countReport_wt : (s.countReport k).wt = s.wt := rfl
@[simp] theorem State.countReport_cc : (s.countReport k).cc = s.cc := rfl
@[simp] theorem State.countReport_link : (s.countReport k).link = s.link := rfl
@[simp] theorem State.countReport_pending : (s.countReport k).pending = s.pending := rfl
end countReport

section report
variable (s : State) (r : Report)
@[simp] theorem State.report_clock : (s.report r).clock = s.clock := by
  unfold State.report; split <;> simp
@[simp] theorem State.report_lines : (s.report r).lines = s.lines := by
  unfold State.report; split <;> simp
@[simp] theorem State.report_ds : (s.report r).ds = s.ds := by
  unfold State.report; split <;> simp
@[simp] theorem State.report_efe : (s.report r).efe = s.efe := by
  unfold State.report; split <;> simp
@[simp] theorem State.report_pm : (s.report r).pm = s.pm := by
  unfold State.report; split <;> simp
@[simp] theorem State.report_cc : (s.report r).cc = s.cc := by
  unfold State.report; split <;> simp
@[simp] theorem State.report_pending : (s.report r).pending = s.pending := by
  unfold State.report; split <;> simp
end report

end Sys2Proof.Machine
end

