-- ==== Sys2Proof/Laws/Plan.lean ====
section
/-! SUPPORT. What the operations of Machine/Position.lean, Plan.lean, Watch.lean, Envelope.lean and Clutch.lean
leave unchanged. -/

namespace Sys2Proof.Machine

open Sys2Proof

/-- What every step of a fold keeps, the fold keeps. -/
theorem keeps_foldl {α β γ : Type} (g : α → γ) (f : α → β → α) (h : ∀ a b, g (f a b) = g a) (l : List β)
    (a : α) : g (l.foldl f a) = g a := by
  induction l generalizing a with
  | nil => rfl
  | cons b l ih => rw [List.foldl_cons, ih, h]

section redepth
variable (s : State) (c : Conv)
@[simp] theorem State.redepth_clock : (s.redepth c).clock = s.clock := rfl
@[simp] theorem State.redepth_lines : (s.redepth c).lines = s.lines := rfl
@[simp] theorem State.redepth_ds : (s.redepth c).ds = s.ds := rfl
@[simp] theorem State.redepth_efe : (s.redepth c).efe = s.efe := rfl
@[simp] theorem State.redepth_tq : (s.redepth c).tq = s.tq := rfl
@[simp] theorem State.redepth_te : (s.redepth c).te = s.te := rfl
@[simp] theorem State.redepth_rg : (s.redepth c).rg = s.rg := rfl
@[simp] theorem State.redepth_es : (s.redepth c).es = s.es := rfl
@[simp] theorem State.redepth_wt : (s.redepth c).wt = s.wt := rfl
@[simp] theorem State.redepth_cc : (s.redepth c).cc = s.cc := rfl
@[simp] theorem State.redepth_fm : (s.redepth c).fm = s.fm := rfl
@[simp] theorem State.redepth_link : (s.redepth c).link = s.link := rfl
@[simp] theorem State.redepth_pending : (s.redepth c).pending = s.pending := rfl
end redepth

section setLoadClass
variable (s : State) (c : Conv) (k : LoadClass)
@[simp] theorem State.setLoadClass_clock : (s.setLoadClass c k).clock = s.clock := by
  simp [State.setLoadClass, apply_ite State.clock]
@[simp] theorem State.setLoadClass_lines : (s.setLoadClass c k).lines = s.lines := by
  simp [State.setLoadClass, apply_ite State.lines]
@[simp] theorem State.setLoadClass_ds : (s.setLoadClass c k).ds = s.ds := by
  simp [State.setLoadClass, apply_ite State.ds]
@[simp] theorem State.setLoadClass_efe : (s.setLoadClass c k).efe = s.efe := by
  simp [State.setLoadClass, apply_ite State.efe]
@[simp] theorem State.setLoadClass_tq : (s.setLoadClass c k).tq = s.tq := by
  simp [State.setLoadClass, apply_ite State.tq]
@[simp] theorem State.setLoadClass_te : (s.setLoadClass c k).te = s.te := by
  simp [State.setLoadClass, apply_ite State.te]
@[simp] theorem State.setLoadClass_rg : (s.setLoadClass c k).rg = s.rg := by
  simp [State.setLoadClass, apply_ite State.rg]
@[simp] theorem State.setLoadClass_es : (s.setLoadClass c k).es = s.es := by
  simp [State.setLoadClass, apply_ite State.es]
@[simp] theorem State.setLoadClass_wt : (s.setLoadClass c k).wt = s.wt := by
  simp [State.setLoadClass, apply_ite State.wt]
@[simp] theorem State.setLoadClass_cc : (s.setLoadClass c k).cc = s.cc := by
  simp [State.setLoadClass, apply_ite State.cc]
@[simp] theorem State.setLoadClass_fm : (s.setLoadClass c k).fm = s.fm := by
  simp [State.setLoadClass, apply_ite State.fm]
@[simp] theorem State.setLoadClass_link : (s.setLoadClass c k).link = s.link := by
  simp [State.setLoadClass, apply_ite State.link]
@[simp] theorem State.setLoadClass_pending : (s.setLoadClass c k).pending = s.pending := by
  simp [State.setLoadClass, apply_ite State.pending]
end setLoadClass

section takeHeads
variable (s : State) (h : Heads)
@[simp] theorem State.takeHeads_clock : (s.takeHeads h).clock = s.clock := rfl
@[simp] theorem State.takeHeads_lines : (s.takeHeads h).lines = s.lines := rfl
@[simp] theorem State.takeHeads_ds : (s.takeHeads h).ds = s.ds := rfl
@[simp] theorem State.takeHeads_pm : (s.takeHeads h).pm = s.pm := rfl
@[simp] theorem State.takeHeads_tq : (s.takeHeads h).tq = s.tq := rfl
@[simp] theorem State.takeHeads_te : (s.takeHeads h).te = s.te := rfl
@[simp] theorem State.takeHeads_rg : (s.takeHeads h).rg = s.rg := rfl
@[simp] theorem State.takeHeads_es : (s.takeHeads h).es = s.es := rfl
@[simp] theorem State.takeHeads_wt : (s.takeHeads h).wt = s.wt := rfl
@[simp] theorem State.takeHeads_cc : (s.takeHeads h).cc = s.cc := rfl
@[simp] theorem State.takeHeads_fm : (s.takeHeads h).fm = s.fm := rfl
@[simp] theorem State.takeHeads_link : (s.takeHeads h).link = s.link := rfl
@[simp] theorem State.takeHeads_pending : (s.takeHeads h).pending = s.pending := rfl
end takeHeads

section crossCheck
variable (s : State) (c : Conv)
@[simp] theorem State.crossCheck_clock : (s.crossCheck c).clock = s.clock := by
  unfold State.crossCheck; dsimp only; (repeat' split) <;> simp
@[simp] theorem State.crossCheck_lines : (s.crossCheck c).lines = s.lines := by
  unfold State.crossCheck; dsimp only; (repeat' split) <;> simp
@[simp] theorem State.crossCheck_ds : (s.crossCheck c).ds = s.ds := by
  unfold State.crossCheck; dsimp only; (repeat' split) <;> simp
@[simp] theorem State.crossCheck_cc : (s.crossCheck c).cc = s.cc := by
  unfold State.crossCheck; dsimp only; (repeat' split) <;> simp
@[simp] theorem State.crossCheck_pending : (s.crossCheck c).pending = s.pending := by
  unfold State.crossCheck; dsimp only; (repeat' split) <;> simp
end crossCheck

section degrade
variable (s : State) (c : Conv)
@[simp] theorem State.degrade_clock : (s.degrade c).clock = s.clock := by
  simp [State.degrade, apply_ite State.clock]
@[simp] theorem State.degrade_lines : (s.degrade c).lines = s.lines := by
  simp [State.degrade, apply_ite State.lines]
@[simp] theorem State.degrade_ds : (s.degrade c).ds = s.ds := by
  simp [State.degrade, apply_ite State.ds]
@[simp] theorem State.degrade_efe : (s.degrade c).efe = s.efe := by
  simp [State.degrade, apply_ite State.efe]
@[simp] theorem State.degrade_tq : (s.degrade c).tq = s.tq := by
  simp [State.degrade, apply_ite State.tq]
@[simp] theorem State.degrade_te : (s.degrade c).te = s.te := by
  simp [State.degrade, apply_ite State.te]
@[simp] theorem State.degrade_rg : (s.degrade c).rg = s.rg := by
  simp [State.degrade, apply_ite State.rg]
@[simp] theorem State.degrade_es : (s.degrade c).es = s.es := by
  simp [State.degrade, apply_ite State.es]
@[simp] theorem State.degrade_wt : (s.degrade c).wt = s.wt := by
  simp [State.degrade, apply_ite State.wt]
@[simp] theorem State.degrade_cc : (s.degrade c).cc = s.cc := by
  simp [State.degrade, apply_ite State.cc]
@[simp] theorem State.degrade_fm : (s.degrade c).fm = s.fm := by
  simp [State.degrade, apply_ite State.fm]
@[simp] theorem State.degrade_pending : (s.degrade c).pending = s.pending := by
  simp [State.degrade, apply_ite State.pending]
end degrade

section loseRun
variable (s : State) (c : Conv)
@[simp] theorem State.loseRun_clock : (s.loseRun c).clock = s.clock := by
  simp [State.loseRun, apply_ite State.clock]
@[simp] theorem State.loseRun_lines : (s.loseRun c).lines = s.lines := by
  simp [State.loseRun, apply_ite State.lines]
@[simp] theorem State.loseRun_ds : (s.loseRun c).ds = s.ds := by
  simp [State.loseRun, apply_ite State.ds]
@[simp] theorem State.loseRun_efe : (s.loseRun c).efe = s.efe := by
  simp [State.loseRun, apply_ite State.efe]
@[simp] theorem State.loseRun_cc : (s.loseRun c).cc = s.cc := by
  simp [State.loseRun, apply_ite State.cc]
@[simp] theorem State.loseRun_pending : (s.loseRun c).pending = s.pending := by
  simp [State.loseRun, apply_ite State.pending]
end loseRun

section compareLength
variable (s : State) (c : Conv) (d : Int)
@[simp] theorem State.compareLength_clock : (s.compareLength c d).clock = s.clock := by
  simp [State.compareLength, apply_ite State.clock]
@[simp] theorem State.compareLength_lines : (s.compareLength c d).lines = s.lines := by
  simp [State.compareLength, apply_ite State.lines]
@[simp] theorem State.compareLength_ds : (s.compareLength c d).ds = s.ds := by
  simp [State.compareLength, apply_ite State.ds]
@[simp] theorem State.compareLength_efe : (s.compareLength c d).efe = s.efe := by
  simp [State.compareLength, apply_ite State.efe]
@[simp] theorem State.compareLength_cc : (s.compareLength c d).cc = s.cc := by
  simp [State.compareLength, apply_ite State.cc]
@[simp] theorem State.compareLength_pending : (s.compareLength c d).pending = s.pending := by
  simp [State.compareLength, apply_ite State.pending]
end compareLength

section measure
variable (s : State) (c : Conv) (t : Nat)
@[simp] theorem State.measure_clock : (s.measure c t).clock = s.clock := by
  simp [State.measure, apply_ite State.clock]
@[simp] theorem State.measure_lines : (s.measure c t).lines = s.lines := by
  simp [State.measure, apply_ite State.lines]
@[simp] theorem State.measure_ds : (s.measure c t).ds = s.ds := by
  simp [State.measure, apply_ite State.ds]
@[simp] theorem State.measure_efe : (s.measure c t).efe = s.efe := by
  simp [State.measure, apply_ite State.efe]
@[simp] theorem State.measure_cc : (s.measure c t).cc = s.cc := by
  simp [State.measure, apply_ite State.cc]
@[simp] theorem State.measure_pending : (s.measure c t).pending = s.pending := by
  simp [State.measure, apply_ite State.pending]
end measure

section holdSample
variable (s : State) (c : Conv)
@[simp] theorem State.holdSample_clock : (s.holdSample c).clock = s.clock := by simp [State.holdSample]
@[simp] theorem State.holdSample_lines : (s.holdSample c).lines = s.lines := by simp [State.holdSample]
@[simp] theorem State.holdSample_ds : (s.holdSample c).ds = s.ds := by simp [State.holdSample]
@[simp] theorem State.holdSample_efe : (s.holdSample c).efe = s.efe := by simp [State.holdSample]
@[simp] theorem State.holdSample_tq : (s.holdSample c).tq = s.tq := by simp [State.holdSample]
@[simp] theorem State.holdSample_te : (s.holdSample c).te = s.te := by simp [State.holdSample]
@[simp] theorem State.holdSample_rg : (s.holdSample c).rg = s.rg := by simp [State.holdSample]
@[simp] theorem State.holdSample_es : (s.holdSample c).es = s.es := by simp [State.holdSample]
@[simp] theorem State.holdSample_wt : (s.holdSample c).wt = s.wt := by simp [State.holdSample]
@[simp] theorem State.holdSample_cc : (s.holdSample c).cc = s.cc := by simp [State.holdSample]
@[simp] theorem State.holdSample_fm : (s.holdSample c).fm = s.fm := by simp [State.holdSample]
@[simp] theorem State.holdSample_pending : (s.holdSample c).pending = s.pending := by simp [State.holdSample]
end holdSample

section runSample
variable (s : State) (c : Conv) (t : Nat) (b : Bool)
@[simp] theorem State.runSample_clock : (s.runSample c t b).clock = s.clock := by
  simp [State.runSample, apply_ite State.clock]
@[simp] theorem State.runSample_lines : (s.runSample c t b).lines = s.lines := by
  simp [State.runSample, apply_ite State.lines]
@[simp] theorem State.runSample_ds : (s.runSample c t b).ds = s.ds := by
  simp [State.runSample, apply_ite State.ds]
@[simp] theorem State.runSample_efe : (s.runSample c t b).efe = s.efe := by
  simp [State.runSample, apply_ite State.efe]
@[simp] theorem State.runSample_cc : (s.runSample c t b).cc = s.cc := by
  simp [State.runSample, apply_ite State.cc]
@[simp] theorem State.runSample_pending : (s.runSample c t b).pending = s.pending := by
  simp [State.runSample, apply_ite State.pending]
end runSample

section lostSample
variable (s : State) (c : Conv)
@[simp] theorem State.lostSample_clock : (s.lostSample c).clock = s.clock := rfl
@[simp] theorem State.lostSample_lines : (s.lostSample c).lines = s.lines := rfl
@[simp] theorem State.lostSample_ds : (s.lostSample c).ds = s.ds := rfl
@[simp] theorem State.lostSample_efe : (s.lostSample c).efe = s.efe := rfl
@[simp] theorem State.lostSample_tq : (s.lostSample c).tq = s.tq := rfl
@[simp] theorem State.lostSample_te : (s.lostSample c).te = s.te := rfl
@[simp] theorem State.lostSample_rg : (s.lostSample c).rg = s.rg := rfl
@[simp] theorem State.lostSample_es : (s.lostSample c).es = s.es := rfl
@[simp] theorem State.lostSample_wt : (s.lostSample c).wt = s.wt := rfl
@[simp] theorem State.lostSample_cc : (s.lostSample c).cc = s.cc := rfl
@[simp] theorem State.lostSample_fm : (s.lostSample c).fm = s.fm := rfl
@[simp] theorem State.lostSample_link : (s.lostSample c).link = s.link := rfl
@[simp] theorem State.lostSample_pending : (s.lostSample c).pending = s.pending := rfl
end lostSample

section position
variable (s : State) (c : Conv) (t : Nat) (b : Bool)
@[simp] theorem State.position_clock : (s.position c t b).clock = s.clock := by
  simp [State.position, apply_ite State.clock]
@[simp] theorem State.position_lines : (s.position c t b).lines = s.lines := by
  simp [State.position, apply_ite State.lines]
@[simp] theorem State.position_ds : (s.position c t b).ds = s.ds := by
  simp [State.position, apply_ite State.ds]
@[simp] theorem State.position_efe : (s.position c t b).efe = s.efe := by
  simp [State.position, apply_ite State.efe]
@[simp] theorem State.position_cc : (s.position c t b).cc = s.cc := by
  simp [State.position, apply_ite State.cc]
@[simp] theorem State.position_pending : (s.position c t b).pending = s.pending := by
  simp [State.position, apply_ite State.pending]
end position

section setPassage
variable (s : State) (i : Nat) (p : Passage)
@[simp] theorem State.setPassage_clock : (s.setPassage i p).clock = s.clock := rfl
@[simp] theorem State.setPassage_lines : (s.setPassage i p).lines = s.lines := rfl
@[simp] theorem State.setPassage_ds : (s.setPassage i p).ds = s.ds := rfl
@[simp] theorem State.setPassage_efe : (s.setPassage i p).efe = s.efe := rfl
@[simp] theorem State.setPassage_tq : (s.setPassage i p).tq = s.tq := rfl
@[simp] theorem State.setPassage_te : (s.setPassage i p).te = s.te := rfl
@[simp] theorem State.setPassage_rg : (s.setPassage i p).rg = s.rg := rfl
@[simp] theorem State.setPassage_es : (s.setPassage i p).es = s.es := rfl
@[simp] theorem State.setPassage_wt : (s.setPassage i p).wt = s.wt := rfl
@[simp] theorem State.setPassage_cc : (s.setPassage i p).cc = s.cc := rfl
@[simp] theorem State.setPassage_fm : (s.setPassage i p).fm = s.fm := rfl
@[simp] theorem State.setPassage_link : (s.setPassage i p).link = s.link := rfl
@[simp] theorem State.setPassage_pending : (s.setPassage i p).pending = s.pending := rfl
end setPassage

section passMark
variable (s : State) (old : Both Int) (i : Nat)
@[simp] theorem State.passMark_clock : (s.passMark old i).clock = s.clock := by
  unfold State.passMark; (repeat' split) <;> simp
@[simp] theorem State.passMark_lines : (s.passMark old i).lines = s.lines := by
  unfold State.passMark; (repeat' split) <;> simp
@[simp] theorem State.passMark_ds : (s.passMark old i).ds = s.ds := by
  unfold State.passMark; (repeat' split) <;> simp
@[simp] theorem State.passMark_efe : (s.passMark old i).efe = s.efe := by
  unfold State.passMark; (repeat' split) <;> simp
@[simp] theorem State.passMark_cc : (s.passMark old i).cc = s.cc := by
  unfold State.passMark; (repeat' split) <;> simp
@[simp] theorem State.passMark_pending : (s.passMark old i).pending = s.pending := by
  unfold State.passMark; (repeat' split) <;> simp
end passMark

section passMarks
variable (s : State) (old : Both Int)
@[simp] theorem State.passMarks_clock : (s.passMarks old).clock = s.clock := keeps_foldl State.clock _ (fun t i => t.passMark_clock old i) _ s
@[simp] theorem State.passMarks_lines : (s.passMarks old).lines = s.lines := keeps_foldl State.lines _ (fun t i => t.passMark_lines old i) _ s
@[simp] theorem State.passMarks_ds : (s.passMarks old).ds = s.ds := keeps_foldl State.ds _ (fun t i => t.passMark_ds old i) _ s
@[simp] theorem State.passMarks_efe : (s.passMarks old).efe = s.efe := keeps_foldl State.efe _ (fun t i => t.passMark_efe old i) _ s
@[simp] theorem State.passMarks_cc : (s.passMarks old).cc = s.cc := keeps_foldl State.cc _ (fun t i => t.passMark_cc old i) _ s
@[simp] theorem State.passMarks_pending : (s.passMarks old).pending = s.pending := keeps_foldl State.pending _ (fun t i => t.passMark_pending old i) _ s
end passMarks

section correct
variable (s : State) (i : Nat) (m : Mark) (t : Nat)
@[simp] theorem State.correct_clock : (s.correct i m t).clock = s.clock := by
  simp [State.correct, apply_ite State.clock]
@[simp] theorem State.correct_lines : (s.correct i m t).lines = s.lines := by
  simp [State.correct, apply_ite State.lines]
@[simp] theorem State.correct_ds : (s.correct i m t).ds = s.ds := by
  simp [State.correct, apply_ite State.ds]
@[simp] theorem State.correct_efe : (s.correct i m t).efe = s.efe := by
  simp [State.correct, apply_ite State.efe]
@[simp] theorem State.correct_cc : (s.correct i m t).cc = s.cc := by
  simp [State.correct, apply_ite State.cc]
@[simp] theorem State.correct_pending : (s.correct i m t).pending = s.pending := by
  simp [State.correct, apply_ite State.pending]
end correct

section redatum
variable (s : State) (m : Mark) (t : Nat)
@[simp] theorem State.redatum_clock : (s.redatum m t).clock = s.clock := by
  simp [State.redatum, apply_ite State.clock]
@[simp] theorem State.redatum_lines : (s.redatum m t).lines = s.lines := by
  simp [State.redatum, apply_ite State.lines]
@[simp] theorem State.redatum_ds : (s.redatum m t).ds = s.ds := by
  simp [State.redatum, apply_ite State.ds]
@[simp] theorem State.redatum_efe : (s.redatum m t).efe = s.efe := by
  simp [State.redatum, apply_ite State.efe]
@[simp] theorem State.redatum_tq : (s.redatum m t).tq = s.tq := by
  simp [State.redatum, apply_ite State.tq]
@[simp] theorem State.redatum_te : (s.redatum m t).te = s.te := by
  simp [State.redatum, apply_ite State.te]
@[simp] theorem State.redatum_rg : (s.redatum m t).rg = s.rg := by
  simp [State.redatum, apply_ite State.rg]
@[simp] theorem State.redatum_es : (s.redatum m t).es = s.es := by
  simp [State.redatum, apply_ite State.es]
@[simp] theorem State.redatum_wt : (s.redatum m t).wt = s.wt := by
  simp [State.redatum, apply_ite State.wt]
@[simp] theorem State.redatum_cc : (s.redatum m t).cc = s.cc := by
  simp [State.redatum, apply_ite State.cc]
@[simp] theorem State.redatum_fm : (s.redatum m t).fm = s.fm := by
  simp [State.redatum, apply_ite State.fm]
@[simp] theorem State.redatum_pending : (s.redatum m t).pending = s.pending := by
  simp [State.redatum, apply_ite State.pending]
end redatum

section takeEdge
variable (s : State) (l : Fin 24) (t : Nat)
@[simp] theorem State.takeEdge_clock : (s.takeEdge l t).clock = s.clock := by
  unfold State.takeEdge; (repeat' split) <;> simp
@[simp] theorem State.takeEdge_lines : (s.takeEdge l t).lines = s.lines := by
  unfold State.takeEdge; (repeat' split) <;> simp
@[simp] theorem State.takeEdge_ds : (s.takeEdge l t).ds = s.ds := by
  unfold State.takeEdge; (repeat' split) <;> simp
@[simp] theorem State.takeEdge_efe : (s.takeEdge l t).efe = s.efe := by
  unfold State.takeEdge; (repeat' split) <;> simp
@[simp] theorem State.takeEdge_cc : (s.takeEdge l t).cc = s.cc := by
  unfold State.takeEdge; (repeat' split) <;> simp
@[simp] theorem State.takeEdge_pending : (s.takeEdge l t).pending = s.pending := by
  unfold State.takeEdge; (repeat' split) <;> simp
end takeEdge

section adopt
variable (s : State) (b : Built)
@[simp] theorem State.adopt_clock : (s.adopt b).clock = s.clock := rfl
@[simp] theorem State.adopt_lines : (s.adopt b).lines = s.lines := rfl
@[simp] theorem State.adopt_ds : (s.adopt b).ds = s.ds := rfl
@[simp] theorem State.adopt_efe : (s.adopt b).efe = s.efe := rfl
@[simp] theorem State.adopt_pm : (s.adopt b).pm = s.pm := rfl
@[simp] theorem State.adopt_tq : (s.adopt b).tq = s.tq := rfl
@[simp] theorem State.adopt_te : (s.adopt b).te = s.te := rfl
@[simp] theorem State.adopt_es : (s.adopt b).es = s.es := rfl
@[simp] theorem State.adopt_cc : (s.adopt b).cc = s.cc := rfl
@[simp] theorem State.adopt_fm : (s.adopt b).fm = s.fm := rfl
@[simp] theorem State.adopt_link : (s.adopt b).link = s.link := rfl
@[simp] theorem State.adopt_pending : (s.adopt b).pending = s.pending := rfl
end adopt

section onPlan
variable (s : State) (p : Option (List PlanPoint))
@[simp] theorem State.onPlan_clock : (s.onPlan p).clock = s.clock := rfl
@[simp] theorem State.onPlan_lines : (s.onPlan p).lines = s.lines := rfl
@[simp] theorem State.onPlan_ds : (s.onPlan p).ds = s.ds := rfl
@[simp] theorem State.onPlan_efe : (s.onPlan p).efe = s.efe := rfl
@[simp] theorem State.onPlan_pm : (s.onPlan p).pm = s.pm := rfl
@[simp] theorem State.onPlan_tq : (s.onPlan p).tq = s.tq := rfl
@[simp] theorem State.onPlan_te : (s.onPlan p).te = s.te := rfl
@[simp] theorem State.onPlan_es : (s.onPlan p).es = s.es := rfl
@[simp] theorem State.onPlan_wt : (s.onPlan p).wt = s.wt := rfl
@[simp] theorem State.onPlan_cc : (s.onPlan p).cc = s.cc := rfl
@[simp] theorem State.onPlan_fm : (s.onPlan p).fm = s.fm := rfl
@[simp] theorem State.onPlan_link : (s.onPlan p).link = s.link := rfl
@[simp] theorem State.onPlan_pending : (s.onPlan p).pending = s.pending := rfl
end onPlan

section takeReference
variable (s : State) (t : Nat) (p : Option (List PlanPoint))
@[simp] theorem State.takeReference_clock : (s.takeReference t p).clock = s.clock := by
  simp [State.takeReference, apply_ite State.clock]
@[simp] theorem State.takeReference_lines : (s.takeReference t p).lines = s.lines := by
  simp [State.takeReference, apply_ite State.lines]
@[simp] theorem State.takeReference_ds : (s.takeReference t p).ds = s.ds := by
  simp [State.takeReference, apply_ite State.ds]
@[simp] theorem State.takeReference_efe : (s.takeReference t p).efe = s.efe := by
  simp [State.takeReference, apply_ite State.efe]
@[simp] theorem State.takeReference_pm : (s.takeReference t p).pm = s.pm := by
  simp [State.takeReference, apply_ite State.pm]
@[simp] theorem State.takeReference_tq : (s.takeReference t p).tq = s.tq := by
  simp [State.takeReference, apply_ite State.tq]
@[simp] theorem State.takeReference_wt : (s.takeReference t p).wt = s.wt := by
  simp [State.takeReference, apply_ite State.wt]
@[simp] theorem State.takeReference_cc : (s.takeReference t p).cc = s.cc := by
  simp [State.takeReference, apply_ite State.cc]
@[simp] theorem State.takeReference_fm : (s.takeReference t p).fm = s.fm := by
  simp [State.takeReference, apply_ite State.fm]
@[simp] theorem State.takeReference_link : (s.takeReference t p).link = s.link := by
  simp [State.takeReference, apply_ite State.link]
@[simp] theorem State.takeReference_pending : (s.takeReference t p).pending = s.pending := by
  simp [State.takeReference, apply_ite State.pending]
end takeReference

section insertSlow
variable (s : State) (id cap : Nat) (x : Int)
@[simp] theorem State.insertSlow_clock : (s.insertSlow id cap x).1.clock = s.clock := by
  unfold State.insertSlow; dsimp only; (repeat' split) <;> simp
@[simp] theorem State.insertSlow_lines : (s.insertSlow id cap x).1.lines = s.lines := by
  unfold State.insertSlow; dsimp only; (repeat' split) <;> simp
@[simp] theorem State.insertSlow_ds : (s.insertSlow id cap x).1.ds = s.ds := by
  unfold State.insertSlow; dsimp only; (repeat' split) <;> simp
@[simp] theorem State.insertSlow_efe : (s.insertSlow id cap x).1.efe = s.efe := by
  unfold State.insertSlow; dsimp only; (repeat' split) <;> simp
@[simp] theorem State.insertSlow_pm : (s.insertSlow id cap x).1.pm = s.pm := by
  unfold State.insertSlow; dsimp only; (repeat' split) <;> simp
@[simp] theorem State.insertSlow_tq : (s.insertSlow id cap x).1.tq = s.tq := by
  unfold State.insertSlow; dsimp only; (repeat' split) <;> simp
@[simp] theorem State.insertSlow_te : (s.insertSlow id cap x).1.te = s.te := by
  unfold State.insertSlow; dsimp only; (repeat' split) <;> simp
@[simp] theorem State.insertSlow_es : (s.insertSlow id cap x).1.es = s.es := by
  unfold State.insertSlow; dsimp only; (repeat' split) <;> simp
@[simp] theorem State.insertSlow_wt : (s.insertSlow id cap x).1.wt = s.wt := by
  unfold State.insertSlow; dsimp only; (repeat' split) <;> simp
@[simp] theorem State.insertSlow_cc : (s.insertSlow id cap x).1.cc = s.cc := by
  unfold State.insertSlow; dsimp only; (repeat' split) <;> simp
@[simp] theorem State.insertSlow_fm : (s.insertSlow id cap x).1.fm = s.fm := by
  unfold State.insertSlow; dsimp only; (repeat' split) <;> simp
@[simp] theorem State.insertSlow_link : (s.insertSlow id cap x).1.link = s.link := by
  unfold State.insertSlow; dsimp only; (repeat' split) <;> simp
@[simp] theorem State.insertSlow_pending : (s.insertSlow id cap x).1.pending = s.pending := by
  unfold State.insertSlow; dsimp only; (repeat' split) <;> simp
end insertSlow

section setWatch
variable (s : State) (i : Nat) (w : Option WatchEntry)
@[simp] theorem State.setWatch_clock : (s.setWatch i w).clock = s.clock := rfl
@[simp] theorem State.setWatch_lines : (s.setWatch i w).lines = s.lines := rfl
@[simp] theorem State.setWatch_ds : (s.setWatch i w).ds = s.ds := rfl
@[simp] theorem State.setWatch_efe : (s.setWatch i w).efe = s.efe := rfl
@[simp] theorem State.setWatch_pm : (s.setWatch i w).pm = s.pm := rfl
@[simp] theorem State.setWatch_tq : (s.setWatch i w).tq = s.tq := rfl
@[simp] theorem State.setWatch_te : (s.setWatch i w).te = s.te := rfl
@[simp] theorem State.setWatch_rg : (s.setWatch i w).rg = s.rg := rfl
@[simp] theorem State.setWatch_es : (s.setWatch i w).es = s.es := rfl
@[simp] theorem State.setWatch_cc : (s.setWatch i w).cc = s.cc := rfl
@[simp] theorem State.setWatch_fm : (s.setWatch i w).fm = s.fm := rfl
@[simp] theorem State.setWatch_link : (s.setWatch i w).link = s.link := rfl
@[simp] theorem State.setWatch_pending : (s.setWatch i w).pending = s.pending := rfl
end setWatch

section fire
variable (s : State) (id : Nat) (w : WatchEntry) (k : Nat)
@[simp] theorem State.fire_clock : (s.fire id w k).clock = s.clock := rfl
@[simp] theorem State.fire_lines : (s.fire id w k).lines = s.lines := rfl
@[simp] theorem State.fire_ds : (s.fire id w k).ds = s.ds := rfl
@[simp] theorem State.fire_efe : (s.fire id w k).efe = s.efe := rfl
@[simp] theorem State.fire_pm : (s.fire id w k).pm = s.pm := rfl
@[simp] theorem State.fire_tq : (s.fire id w k).tq = s.tq := rfl
@[simp] theorem State.fire_te : (s.fire id w k).te = s.te := rfl
@[simp] theorem State.fire_rg : (s.fire id w k).rg = s.rg := rfl
@[simp] theorem State.fire_es : (s.fire id w k).es = s.es := rfl
@[simp] theorem State.fire_cc : (s.fire id w k).cc = s.cc := rfl
@[simp] theorem State.fire_fm : (s.fire id w k).fm = s.fm := rfl
@[simp] theorem State.fire_pending : (s.fire id w k).pending = s.pending := rfl
end fire

section fireSlow
variable (s : State) (id cap : Nat) (w : WatchEntry)
@[simp] theorem State.fireSlow_clock : (s.fireSlow id cap w).clock = s.clock := by
  simp [State.fireSlow, apply_ite State.clock]
@[simp] theorem State.fireSlow_lines : (s.fireSlow id cap w).lines = s.lines := by
  simp [State.fireSlow, apply_ite State.lines]
@[simp] theorem State.fireSlow_ds : (s.fireSlow id cap w).ds = s.ds := by
  simp [State.fireSlow, apply_ite State.ds]
@[simp] theorem State.fireSlow_efe : (s.fireSlow id cap w).efe = s.efe := by
  simp [State.fireSlow, apply_ite State.efe]
@[simp] theorem State.fireSlow_pm : (s.fireSlow id cap w).pm = s.pm := by
  simp [State.fireSlow, apply_ite State.pm]
@[simp] theorem State.fireSlow_tq : (s.fireSlow id cap w).tq = s.tq := by
  simp [State.fireSlow, apply_ite State.tq]
@[simp] theorem State.fireSlow_cc : (s.fireSlow id cap w).cc = s.cc := by
  simp [State.fireSlow, apply_ite State.cc]
@[simp] theorem State.fireSlow_pending : (s.fireSlow id cap w).pending = s.pending := by
  simp [State.fireSlow, apply_ite State.pending]
end fireSlow

section fireForced
variable (s : State) (id : Nat) (w : WatchEntry) (f : WinderState)
@[simp] theorem State.fireForced_clock : (s.fireForced id w f).clock = s.clock := by
  unfold State.fireForced; (repeat' split) <;> simp
@[simp] theorem State.fireForced_lines : (s.fireForced id w f).lines = s.lines := by
  unfold State.fireForced; (repeat' split) <;> simp
@[simp] theorem State.fireForced_ds : (s.fireForced id w f).ds = s.ds := by
  unfold State.fireForced; (repeat' split) <;> simp
@[simp] theorem State.fireForced_efe : (s.fireForced id w f).efe = s.efe := by
  unfold State.fireForced; (repeat' split) <;> simp
@[simp] theorem State.fireForced_pm : (s.fireForced id w f).pm = s.pm := by
  unfold State.fireForced; (repeat' split) <;> simp
@[simp] theorem State.fireForced_tq : (s.fireForced id w f).tq = s.tq := by
  unfold State.fireForced; (repeat' split) <;> simp
@[simp] theorem State.fireForced_cc : (s.fireForced id w f).cc = s.cc := by
  unfold State.fireForced; (repeat' split) <;> simp
@[simp] theorem State.fireForced_pending : (s.fireForced id w f).pending = s.pending := by
  unfold State.fireForced; (repeat' split) <;> simp
end fireForced

section fireBound
variable (s : State) (id : Nat) (w : WatchEntry)
@[simp] theorem State.fireBound_clock : (s.fireBound id w).clock = s.clock := by
  unfold State.fireBound; (repeat' split) <;> simp
@[simp] theorem State.fireBound_lines : (s.fireBound id w).lines = s.lines := by
  unfold State.fireBound; (repeat' split) <;> simp
@[simp] theorem State.fireBound_ds : (s.fireBound id w).ds = s.ds := by
  unfold State.fireBound; (repeat' split) <;> simp
@[simp] theorem State.fireBound_efe : (s.fireBound id w).efe = s.efe := by
  unfold State.fireBound; (repeat' split) <;> simp
@[simp] theorem State.fireBound_pm : (s.fireBound id w).pm = s.pm := by
  unfold State.fireBound; (repeat' split) <;> simp
@[simp] theorem State.fireBound_tq : (s.fireBound id w).tq = s.tq := by
  unfold State.fireBound; (repeat' split) <;> simp
@[simp] theorem State.fireBound_te : (s.fireBound id w).te = s.te := by
  unfold State.fireBound; (repeat' split) <;> simp
@[simp] theorem State.fireBound_rg : (s.fireBound id w).rg = s.rg := by
  unfold State.fireBound; (repeat' split) <;> simp
@[simp] theorem State.fireBound_es : (s.fireBound id w).es = s.es := by
  unfold State.fireBound; (repeat' split) <;> simp
@[simp] theorem State.fireBound_cc : (s.fireBound id w).cc = s.cc := by
  unfold State.fireBound; (repeat' split) <;> simp
@[simp] theorem State.fireBound_fm : (s.fireBound id w).fm = s.fm := by
  unfold State.fireBound; (repeat' split) <;> simp
@[simp] theorem State.fireBound_pending : (s.fireBound id w).pending = s.pending := by
  unfold State.fireBound; (repeat' split) <;> simp
end fireBound

section testWatch
variable (s : State) (f : WinderState) (id : Nat)
@[simp] theorem State.testWatch_clock : (State.testWatch f s id).clock = s.clock := by
  unfold State.testWatch; (repeat' split) <;> simp
@[simp] theorem State.testWatch_lines : (State.testWatch f s id).lines = s.lines := by
  unfold State.testWatch; (repeat' split) <;> simp
@[simp] theorem State.testWatch_ds : (State.testWatch f s id).ds = s.ds := by
  unfold State.testWatch; (repeat' split) <;> simp
@[simp] theorem State.testWatch_efe : (State.testWatch f s id).efe = s.efe := by
  unfold State.testWatch; (repeat' split) <;> simp
@[simp] theorem State.testWatch_pm : (State.testWatch f s id).pm = s.pm := by
  unfold State.testWatch; (repeat' split) <;> simp
@[simp] theorem State.testWatch_tq : (State.testWatch f s id).tq = s.tq := by
  unfold State.testWatch; (repeat' split) <;> simp
@[simp] theorem State.testWatch_cc : (State.testWatch f s id).cc = s.cc := by
  unfold State.testWatch; (repeat' split) <;> simp
@[simp] theorem State.testWatch_pending : (State.testWatch f s id).pending = s.pending := by
  unfold State.testWatch; (repeat' split) <;> simp
end testWatch

section takeWatch
variable (s : State)
@[simp] theorem State.takeWatch_clock : s.takeWatch.clock = s.clock := by
  unfold State.takeWatch; split
  · exact keeps_foldl State.clock _ (fun t i => t.testWatch_clock _ i) _ s
  · rfl
@[simp] theorem State.takeWatch_lines : s.takeWatch.lines = s.lines := by
  unfold State.takeWatch; split
  · exact keeps_foldl State.lines _ (fun t i => t.testWatch_lines _ i) _ s
  · rfl
@[simp] theorem State.takeWatch_ds : s.takeWatch.ds = s.ds := by
  unfold State.takeWatch; split
  · exact keeps_foldl State.ds _ (fun t i => t.testWatch_ds _ i) _ s
  · rfl
@[simp] theorem State.takeWatch_efe : s.takeWatch.efe = s.efe := by
  unfold State.takeWatch; split
  · exact keeps_foldl State.efe _ (fun t i => t.testWatch_efe _ i) _ s
  · rfl
@[simp] theorem State.takeWatch_pm : s.takeWatch.pm = s.pm := by
  unfold State.takeWatch; split
  · exact keeps_foldl State.pm _ (fun t i => t.testWatch_pm _ i) _ s
  · rfl
@[simp] theorem State.takeWatch_tq : s.takeWatch.tq = s.tq := by
  unfold State.takeWatch; split
  · exact keeps_foldl State.tq _ (fun t i => t.testWatch_tq _ i) _ s
  · rfl
@[simp] theorem State.takeWatch_cc : s.takeWatch.cc = s.cc := by
  unfold State.takeWatch; split
  · exact keeps_foldl State.cc _ (fun t i => t.testWatch_cc _ i) _ s
  · rfl
@[simp] theorem State.takeWatch_pending : s.takeWatch.pending = s.pending := by
  unfold State.takeWatch; split
  · exact keeps_foldl State.pending _ (fun t i => t.testWatch_pending _ i) _ s
  · rfl
end takeWatch

section watchReached
variable (s : State) (d : Int)
@[simp] theorem State.watchReached_clock : (s.watchReached d).clock = s.clock := rfl
@[simp] theorem State.watchReached_lines : (s.watchReached d).lines = s.lines := rfl
@[simp] theorem State.watchReached_ds : (s.watchReached d).ds = s.ds := rfl
@[simp] theorem State.watchReached_efe : (s.watchReached d).efe = s.efe := rfl
@[simp] theorem State.watchReached_pm : (s.watchReached d).pm = s.pm := rfl
@[simp] theorem State.watchReached_tq : (s.watchReached d).tq = s.tq := rfl
@[simp] theorem State.watchReached_te : (s.watchReached d).te = s.te := rfl
@[simp] theorem State.watchReached_rg : (s.watchReached d).rg = s.rg := rfl
@[simp] theorem State.watchReached_es : (s.watchReached d).es = s.es := rfl
@[simp] theorem State.watchReached_cc : (s.watchReached d).cc = s.cc := rfl
@[simp] theorem State.watchReached_fm : (s.watchReached d).fm = s.fm := rfl
@[simp] theorem State.watchReached_link : (s.watchReached d).link = s.link := rfl
@[simp] theorem State.watchReached_pending : (s.watchReached d).pending = s.pending := rfl
end watchReached

section reportAll
variable (s : State) (rs : List Report)
@[simp] theorem State.reportAll_clock : (s.reportAll rs).clock = s.clock := keeps_foldl State.clock _ (fun t r => t.report_clock r) rs s
@[simp] theorem State.reportAll_lines : (s.reportAll rs).lines = s.lines := keeps_foldl State.lines _ (fun t r => t.report_lines r) rs s
@[simp] theorem State.reportAll_ds : (s.reportAll rs).ds = s.ds := keeps_foldl State.ds _ (fun t r => t.report_ds r) rs s
@[simp] theorem State.reportAll_efe : (s.reportAll rs).efe = s.efe := keeps_foldl State.efe _ (fun t r => t.report_efe r) rs s
@[simp] theorem State.reportAll_pm : (s.reportAll rs).pm = s.pm := keeps_foldl State.pm _ (fun t r => t.report_pm r) rs s
@[simp] theorem State.reportAll_cc : (s.reportAll rs).cc = s.cc := keeps_foldl State.cc _ (fun t r => t.report_cc r) rs s
@[simp] theorem State.reportAll_pending : (s.reportAll rs).pending = s.pending := keeps_foldl State.pending _ (fun t r => t.report_pending r) rs s
end reportAll

section takeEnvelope
variable (s : State) (t : Nat) (r : ReferenceGenerator)
@[simp] theorem State.takeEnvelope_clock : (s.takeEnvelope t r).clock = s.clock := by
  simp [State.takeEnvelope]
@[simp] theorem State.takeEnvelope_lines : (s.takeEnvelope t r).lines = s.lines := by
  simp [State.takeEnvelope]
@[simp] theorem State.takeEnvelope_ds : (s.takeEnvelope t r).ds = s.ds := by
  simp [State.takeEnvelope]
@[simp] theorem State.takeEnvelope_efe : (s.takeEnvelope t r).efe = s.efe := by
  simp [State.takeEnvelope]
@[simp] theorem State.takeEnvelope_pm : (s.takeEnvelope t r).pm = s.pm := by
  simp [State.takeEnvelope]
@[simp] theorem State.takeEnvelope_cc : (s.takeEnvelope t r).cc = s.cc := by
  simp [State.takeEnvelope]
@[simp] theorem State.takeEnvelope_pending : (s.takeEnvelope t r).pending = s.pending := by
  simp [State.takeEnvelope]
end takeEnvelope

section setClutch
variable (s : State) (c : ClutchState) (p : ClutchStep) (t : Option Nat)
@[simp] theorem State.setClutch_clock : (s.setClutch c p t).clock = s.clock := rfl
@[simp] theorem State.setClutch_lines : (s.setClutch c p t).lines = s.lines := rfl
@[simp] theorem State.setClutch_ds : (s.setClutch c p t).ds = s.ds := rfl
@[simp] theorem State.setClutch_efe : (s.setClutch c p t).efe = s.efe := rfl
@[simp] theorem State.setClutch_pm : (s.setClutch c p t).pm = s.pm := rfl
@[simp] theorem State.setClutch_tq : (s.setClutch c p t).tq = s.tq := rfl
@[simp] theorem State.setClutch_te : (s.setClutch c p t).te = s.te := rfl
@[simp] theorem State.setClutch_rg : (s.setClutch c p t).rg = s.rg := rfl
@[simp] theorem State.setClutch_wt : (s.setClutch c p t).wt = s.wt := rfl
@[simp] theorem State.setClutch_fm : (s.setClutch c p t).fm = s.fm := rfl
@[simp] theorem State.setClutch_link : (s.setClutch c p t).link = s.link := rfl
@[simp] theorem State.setClutch_pending : (s.setClutch c p t).pending = s.pending := rfl
end setClutch

section raiseClutch
variable (s : State) (c : ClutchState) (o : Nat)
@[simp] theorem State.raiseClutch_clock : (s.raiseClutch c o).clock = s.clock := rfl
@[simp] theorem State.raiseClutch_lines : (s.raiseClutch c o).lines = s.lines := rfl
@[simp] theorem State.raiseClutch_ds : (s.raiseClutch c o).ds = s.ds := rfl
@[simp] theorem State.raiseClutch_efe : (s.raiseClutch c o).efe = s.efe := rfl
@[simp] theorem State.raiseClutch_pm : (s.raiseClutch c o).pm = s.pm := rfl
@[simp] theorem State.raiseClutch_tq : (s.raiseClutch c o).tq = s.tq := rfl
@[simp] theorem State.raiseClutch_te : (s.raiseClutch c o).te = s.te := rfl
@[simp] theorem State.raiseClutch_rg : (s.raiseClutch c o).rg = s.rg := rfl
@[simp] theorem State.raiseClutch_es : (s.raiseClutch c o).es = s.es := rfl
@[simp] theorem State.raiseClutch_wt : (s.raiseClutch c o).wt = s.wt := rfl
@[simp] theorem State.raiseClutch_cc : (s.raiseClutch c o).cc = s.cc := rfl
@[simp] theorem State.raiseClutch_fm : (s.raiseClutch c o).fm = s.fm := rfl
@[simp] theorem State.raiseClutch_pending : (s.raiseClutch c o).pending = s.pending := rfl
end raiseClutch

section releaseComplete
variable (s : State)
@[simp] theorem State.releaseComplete_clock : s.releaseComplete.clock = s.clock := rfl
@[simp] theorem State.releaseComplete_lines : s.releaseComplete.lines = s.lines := rfl
@[simp] theorem State.releaseComplete_ds : s.releaseComplete.ds = s.ds := rfl
@[simp] theorem State.releaseComplete_efe : s.releaseComplete.efe = s.efe := rfl
@[simp] theorem State.releaseComplete_pm : s.releaseComplete.pm = s.pm := rfl
@[simp] theorem State.releaseComplete_tq : s.releaseComplete.tq = s.tq := rfl
@[simp] theorem State.releaseComplete_te : s.releaseComplete.te = s.te := rfl
@[simp] theorem State.releaseComplete_rg : s.releaseComplete.rg = s.rg := rfl
@[simp] theorem State.releaseComplete_wt : s.releaseComplete.wt = s.wt := rfl
@[simp] theorem State.releaseComplete_fm : s.releaseComplete.fm = s.fm := rfl
@[simp] theorem State.releaseComplete_pending : s.releaseComplete.pending = s.pending := rfl
end releaseComplete

section beginOpening
variable (s : State)
@[simp] theorem State.beginOpening_clock : s.beginOpening.clock = s.clock := by
  simp [State.beginOpening, apply_ite State.clock]
@[simp] theorem State.beginOpening_lines : s.beginOpening.lines = s.lines := by
  simp [State.beginOpening, apply_ite State.lines]
@[simp] theorem State.beginOpening_ds : s.beginOpening.ds = s.ds := by
  simp [State.beginOpening, apply_ite State.ds]
@[simp] theorem State.beginOpening_efe : s.beginOpening.efe = s.efe := by
  simp [State.beginOpening, apply_ite State.efe]
@[simp] theorem State.beginOpening_pm : s.beginOpening.pm = s.pm := by
  simp [State.beginOpening, apply_ite State.pm]
@[simp] theorem State.beginOpening_tq : s.beginOpening.tq = s.tq := by
  simp [State.beginOpening, apply_ite State.tq]
@[simp] theorem State.beginOpening_te : s.beginOpening.te = s.te := by
  simp [State.beginOpening, apply_ite State.te]
@[simp] theorem State.beginOpening_rg : s.beginOpening.rg = s.rg := by
  simp [State.beginOpening, apply_ite State.rg]
@[simp] theorem State.beginOpening_wt : s.beginOpening.wt = s.wt := by
  simp [State.beginOpening, apply_ite State.wt]
@[simp] theorem State.beginOpening_fm : s.beginOpening.fm = s.fm := by
  simp [State.beginOpening, apply_ite State.fm]
@[simp] theorem State.beginOpening_pending : s.beginOpening.pending = s.pending := by
  simp [State.beginOpening, apply_ite State.pending]
end beginOpening

section beginRelease
variable (s : State)
@[simp] theorem State.beginRelease_clock : s.beginRelease.clock = s.clock := by
  unfold State.beginRelease; dsimp only; split <;> simp
@[simp] theorem State.beginRelease_lines : s.beginRelease.lines = s.lines := by
  unfold State.beginRelease; dsimp only; split <;> simp
@[simp] theorem State.beginRelease_ds : s.beginRelease.ds = s.ds := by
  unfold State.beginRelease; dsimp only; split <;> simp
@[simp] theorem State.beginRelease_efe : s.beginRelease.efe = s.efe := by
  unfold State.beginRelease; dsimp only; split <;> simp
@[simp] theorem State.beginRelease_pm : s.beginRelease.pm = s.pm := by
  unfold State.beginRelease; dsimp only; split <;> simp
@[simp] theorem State.beginRelease_tq : s.beginRelease.tq = s.tq := by
  unfold State.beginRelease; dsimp only; split <;> simp
@[simp] theorem State.beginRelease_te : s.beginRelease.te = s.te := by
  unfold State.beginRelease; dsimp only; split <;> simp
@[simp] theorem State.beginRelease_rg : s.beginRelease.rg = s.rg := by
  unfold State.beginRelease; dsimp only; split <;> simp
@[simp] theorem State.beginRelease_wt : s.beginRelease.wt = s.wt := by
  unfold State.beginRelease; dsimp only; split <;> simp
@[simp] theorem State.beginRelease_fm : s.beginRelease.fm = s.fm := by
  unfold State.beginRelease; dsimp only; split <;> simp
@[simp] theorem State.beginRelease_pending : s.beginRelease.pending = s.pending := by
  unfold State.beginRelease; dsimp only; split <;> simp
end beginRelease

section releaseFail
variable (s : State)
@[simp] theorem State.releaseFail_clock : s.releaseFail.clock = s.clock := by simp [State.releaseFail]
@[simp] theorem State.releaseFail_lines : s.releaseFail.lines = s.lines := by simp [State.releaseFail]
@[simp] theorem State.releaseFail_ds : s.releaseFail.ds = s.ds := by simp [State.releaseFail]
@[simp] theorem State.releaseFail_efe : s.releaseFail.efe = s.efe := by simp [State.releaseFail]
@[simp] theorem State.releaseFail_pm : s.releaseFail.pm = s.pm := by simp [State.releaseFail]
@[simp] theorem State.releaseFail_pending : s.releaseFail.pending = s.pending := by simp [State.releaseFail]
end releaseFail

section engageComplete
variable (s : State)
@[simp] theorem State.engageComplete_clock : s.engageComplete.clock = s.clock := rfl
@[simp] theorem State.engageComplete_lines : s.engageComplete.lines = s.lines := rfl
@[simp] theorem State.engageComplete_ds : s.engageComplete.ds = s.ds := rfl
@[simp] theorem State.engageComplete_efe : s.engageComplete.efe = s.efe := rfl
@[simp] theorem State.engageComplete_pm : s.engageComplete.pm = s.pm := rfl
@[simp] theorem State.engageComplete_tq : s.engageComplete.tq = s.tq := rfl
@[simp] theorem State.engageComplete_te : s.engageComplete.te = s.te := rfl
@[simp] theorem State.engageComplete_rg : s.engageComplete.rg = s.rg := rfl
@[simp] theorem State.engageComplete_es : s.engageComplete.es = s.es := rfl
@[simp] theorem State.engageComplete_wt : s.engageComplete.wt = s.wt := rfl
@[simp] theorem State.engageComplete_fm : s.engageComplete.fm = s.fm := rfl
@[simp] theorem State.engageComplete_pending : s.engageComplete.pending = s.pending := rfl
end engageComplete

section beginClosing
variable (s : State)
@[simp] theorem State.beginClosing_clock : s.beginClosing.clock = s.clock := by
  simp [State.beginClosing, apply_ite State.clock]
@[simp] theorem State.beginClosing_lines : s.beginClosing.lines = s.lines := by
  simp [State.beginClosing, apply_ite State.lines]
@[simp] theorem State.beginClosing_ds : s.beginClosing.ds = s.ds := by
  simp [State.beginClosing, apply_ite State.ds]
@[simp] theorem State.beginClosing_efe : s.beginClosing.efe = s.efe := by
  simp [State.beginClosing, apply_ite State.efe]
@[simp] theorem State.beginClosing_pm : s.beginClosing.pm = s.pm := by
  simp [State.beginClosing, apply_ite State.pm]
@[simp] theorem State.beginClosing_tq : s.beginClosing.tq = s.tq := by
  simp [State.beginClosing, apply_ite State.tq]
@[simp] theorem State.beginClosing_te : s.beginClosing.te = s.te := by
  simp [State.beginClosing, apply_ite State.te]
@[simp] theorem State.beginClosing_rg : s.beginClosing.rg = s.rg := by
  simp [State.beginClosing, apply_ite State.rg]
@[simp] theorem State.beginClosing_wt : s.beginClosing.wt = s.wt := by
  simp [State.beginClosing, apply_ite State.wt]
@[simp] theorem State.beginClosing_fm : s.beginClosing.fm = s.fm := by
  simp [State.beginClosing, apply_ite State.fm]
@[simp] theorem State.beginClosing_pending : s.beginClosing.pending = s.pending := by
  simp [State.beginClosing, apply_ite State.pending]
end beginClosing

section engageFail
variable (s : State)
@[simp] theorem State.engageFail_clock : s.engageFail.clock = s.clock := by simp [State.engageFail]
@[simp] theorem State.engageFail_lines : s.engageFail.lines = s.lines := by simp [State.engageFail]
@[simp] theorem State.engageFail_ds : s.engageFail.ds = s.ds := by simp [State.engageFail]
@[simp] theorem State.engageFail_efe : s.engageFail.efe = s.efe := by simp [State.engageFail]
@[simp] theorem State.engageFail_pm : s.engageFail.pm = s.pm := by simp [State.engageFail]
@[simp] theorem State.engageFail_pending : s.engageFail.pending = s.pending := by simp [State.engageFail]
end engageFail

section superviseSwitches
variable (s : State) (b : Bool) (n : Nat)
@[simp] theorem State.superviseSwitches_clock : (s.superviseSwitches b n).clock = s.clock := by
  simp [State.superviseSwitches, apply_ite State.clock]
@[simp] theorem State.superviseSwitches_lines : (s.superviseSwitches b n).lines = s.lines := by
  simp [State.superviseSwitches, apply_ite State.lines]
@[simp] theorem State.superviseSwitches_ds : (s.superviseSwitches b n).ds = s.ds := by
  simp [State.superviseSwitches, apply_ite State.ds]
@[simp] theorem State.superviseSwitches_efe : (s.superviseSwitches b n).efe = s.efe := by
  simp [State.superviseSwitches, apply_ite State.efe]
@[simp] theorem State.superviseSwitches_pm : (s.superviseSwitches b n).pm = s.pm := by
  simp [State.superviseSwitches, apply_ite State.pm]
@[simp] theorem State.superviseSwitches_pending : (s.superviseSwitches b n).pending = s.pending := by
  simp [State.superviseSwitches, apply_ite State.pending]
end superviseSwitches

section switchChange
variable (s : State)
@[simp] theorem State.switchChange_clock : s.switchChange.clock = s.clock := by
  unfold State.switchChange; (repeat' split) <;> simp
@[simp] theorem State.switchChange_lines : s.switchChange.lines = s.lines := by
  unfold State.switchChange; (repeat' split) <;> simp
@[simp] theorem State.switchChange_ds : s.switchChange.ds = s.ds := by
  unfold State.switchChange; (repeat' split) <;> simp
@[simp] theorem State.switchChange_efe : s.switchChange.efe = s.efe := by
  unfold State.switchChange; (repeat' split) <;> simp
@[simp] theorem State.switchChange_pm : s.switchChange.pm = s.pm := by
  unfold State.switchChange; (repeat' split) <;> simp
@[simp] theorem State.switchChange_pending : s.switchChange.pending = s.pending := by
  unfold State.switchChange; (repeat' split) <;> simp
end switchChange

section readClutch
variable (s : State)
@[simp] theorem State.readClutch_clock : s.readClutch.clock = s.clock := by
  simp [State.readClutch, apply_ite State.clock]
@[simp] theorem State.readClutch_lines : s.readClutch.lines = s.lines := by
  simp [State.readClutch, apply_ite State.lines]
@[simp] theorem State.readClutch_ds : s.readClutch.ds = s.ds := by
  simp [State.readClutch, apply_ite State.ds]
@[simp] theorem State.readClutch_efe : s.readClutch.efe = s.efe := by
  simp [State.readClutch, apply_ite State.efe]
@[simp] theorem State.readClutch_pm : s.readClutch.pm = s.pm := by
  simp [State.readClutch, apply_ite State.pm]
@[simp] theorem State.readClutch_pending : s.readClutch.pending = s.pending := by
  simp [State.readClutch, apply_ite State.pending]
end readClutch

section testDrift
variable (s : State)
@[simp] theorem State.testDrift_clock : s.testDrift.clock = s.clock := by
  unfold State.testDrift; (repeat' split) <;> simp
@[simp] theorem State.testDrift_lines : s.testDrift.lines = s.lines := by
  unfold State.testDrift; (repeat' split) <;> simp
@[simp] theorem State.testDrift_ds : s.testDrift.ds = s.ds := by
  unfold State.testDrift; (repeat' split) <;> simp
@[simp] theorem State.testDrift_efe : s.testDrift.efe = s.efe := by
  unfold State.testDrift; (repeat' split) <;> simp
@[simp] theorem State.testDrift_pm : s.testDrift.pm = s.pm := by
  unfold State.testDrift; (repeat' split) <;> simp
@[simp] theorem State.testDrift_pending : s.testDrift.pending = s.pending := by
  unfold State.testDrift; (repeat' split) <;> simp
end testDrift

section testDiscrepancy
variable (s : State)
@[simp] theorem State.testDiscrepancy_clock : s.testDiscrepancy.clock = s.clock := by
  unfold State.testDiscrepancy; (repeat' split) <;> simp
@[simp] theorem State.testDiscrepancy_lines : s.testDiscrepancy.lines = s.lines := by
  unfold State.testDiscrepancy; (repeat' split) <;> simp
@[simp] theorem State.testDiscrepancy_ds : s.testDiscrepancy.ds = s.ds := by
  unfold State.testDiscrepancy; (repeat' split) <;> simp
@[simp] theorem State.testDiscrepancy_efe : s.testDiscrepancy.efe = s.efe := by
  unfold State.testDiscrepancy; (repeat' split) <;> simp
@[simp] theorem State.testDiscrepancy_pm : s.testDiscrepancy.pm = s.pm := by
  unfold State.testDiscrepancy; (repeat' split) <;> simp
@[simp] theorem State.testDiscrepancy_pending : s.testDiscrepancy.pending = s.pending := by
  unfold State.testDiscrepancy; (repeat' split) <;> simp
end testDiscrepancy

section takeClutch
variable (s : State)
@[simp] theorem State.takeClutch_clock : s.takeClutch.clock = s.clock := by
  simp [State.takeClutch, apply_ite State.clock]
@[simp] theorem State.takeClutch_lines : s.takeClutch.lines = s.lines := by
  simp [State.takeClutch, apply_ite State.lines]
@[simp] theorem State.takeClutch_ds : s.takeClutch.ds = s.ds := by
  simp [State.takeClutch, apply_ite State.ds]
@[simp] theorem State.takeClutch_efe : s.takeClutch.efe = s.efe := by
  simp [State.takeClutch, apply_ite State.efe]
@[simp] theorem State.takeClutch_pm : s.takeClutch.pm = s.pm := by
  simp [State.takeClutch, apply_ite State.pm]
@[simp] theorem State.takeClutch_pending : s.takeClutch.pending = s.pending := by
  simp [State.takeClutch, apply_ite State.pending]
end takeClutch

end Sys2Proof.Machine
end

