-- ==== Sys2Proof/Laws/Sequences.lean ====
section
/-! SUPPORT. What the operations of Machine/Sequences.lean leave unchanged, and each block's taking of a Sample
record. -/

namespace Sys2Proof.Machine

open Sys2Proof

section phaseFail
variable (s : State) (r : Report)
@[simp] theorem State.phaseFail_clock : (s.phaseFail r).clock = s.clock := by simp [State.phaseFail]
@[simp] theorem State.phaseFail_lines : (s.phaseFail r).lines = s.lines := by simp [State.phaseFail]
@[simp] theorem State.phaseFail_ds : (s.phaseFail r).ds = s.ds := by simp [State.phaseFail]
@[simp] theorem State.phaseFail_efe : (s.phaseFail r).efe = s.efe := by simp [State.phaseFail]
@[simp] theorem State.phaseFail_pm : (s.phaseFail r).pm = s.pm := by simp [State.phaseFail]
@[simp] theorem State.phaseFail_cc : (s.phaseFail r).cc = s.cc := by simp [State.phaseFail]
@[simp] theorem State.phaseFail_pending : (s.phaseFail r).pending = s.pending := by simp [State.phaseFail]
end phaseFail

section beginLeg
variable (s : State) (y : Cause)
@[simp] theorem State.beginLeg_clock : (s.beginLeg y).clock = s.clock := by simp [State.beginLeg]
@[simp] theorem State.beginLeg_lines : (s.beginLeg y).lines = s.lines := by simp [State.beginLeg]
@[simp] theorem State.beginLeg_ds : (s.beginLeg y).ds = s.ds := by simp [State.beginLeg]
@[simp] theorem State.beginLeg_efe : (s.beginLeg y).efe = s.efe := by simp [State.beginLeg]
@[simp] theorem State.beginLeg_pm : (s.beginLeg y).pm = s.pm := by simp [State.beginLeg]
@[simp] theorem State.beginLeg_tq : (s.beginLeg y).tq = s.tq := by simp [State.beginLeg]
@[simp] theorem State.beginLeg_wt : (s.beginLeg y).wt = s.wt := by simp [State.beginLeg]
@[simp] theorem State.beginLeg_cc : (s.beginLeg y).cc = s.cc := by simp [State.beginLeg]
@[simp] theorem State.beginLeg_fm : (s.beginLeg y).fm = s.fm := by simp [State.beginLeg, State.enter]
@[simp] theorem State.beginLeg_pending : (s.beginLeg y).pending = s.pending := by simp [State.beginLeg]
end beginLeg

section settleEnd
variable (s : State)
@[simp] theorem State.settleEnd_clock : s.settleEnd.clock = s.clock := by
  simp [State.settleEnd, apply_ite State.clock]
@[simp] theorem State.settleEnd_lines : s.settleEnd.lines = s.lines := by
  simp [State.settleEnd, apply_ite State.lines]
@[simp] theorem State.settleEnd_ds : s.settleEnd.ds = s.ds := by
  simp [State.settleEnd, apply_ite State.ds]
@[simp] theorem State.settleEnd_efe : s.settleEnd.efe = s.efe := by
  simp [State.settleEnd, apply_ite State.efe]
@[simp] theorem State.settleEnd_pm : s.settleEnd.pm = s.pm := by
  simp [State.settleEnd, apply_ite State.pm]
@[simp] theorem State.settleEnd_tq : s.settleEnd.tq = s.tq := by
  simp [State.settleEnd, apply_ite State.tq]
@[simp] theorem State.settleEnd_wt : s.settleEnd.wt = s.wt := by
  simp [State.settleEnd, apply_ite State.wt]
@[simp] theorem State.settleEnd_cc : s.settleEnd.cc = s.cc := by
  simp [State.settleEnd, apply_ite State.cc]
@[simp] theorem State.settleEnd_pending : s.settleEnd.pending = s.pending := by
  simp [State.settleEnd, apply_ite State.pending]
end settleEnd

section enterSettle
variable (s : State)
@[simp] theorem State.enterSettle_clock : s.enterSettle.clock = s.clock := by
  simp [State.enterSettle, apply_ite State.clock]
@[simp] theorem State.enterSettle_lines : s.enterSettle.lines = s.lines := by
  simp [State.enterSettle, apply_ite State.lines]
@[simp] theorem State.enterSettle_ds : s.enterSettle.ds = s.ds := by
  simp [State.enterSettle, apply_ite State.ds]
@[simp] theorem State.enterSettle_efe : s.enterSettle.efe = s.efe := by
  simp [State.enterSettle, apply_ite State.efe]
@[simp] theorem State.enterSettle_pm : s.enterSettle.pm = s.pm := by
  simp [State.enterSettle, apply_ite State.pm]
@[simp] theorem State.enterSettle_tq : s.enterSettle.tq = s.tq := by
  simp [State.enterSettle, apply_ite State.tq]
@[simp] theorem State.enterSettle_wt : s.enterSettle.wt = s.wt := by
  simp [State.enterSettle, apply_ite State.wt]
@[simp] theorem State.enterSettle_cc : s.enterSettle.cc = s.cc := by
  simp [State.enterSettle, apply_ite State.cc]
@[simp] theorem State.enterSettle_pending : s.enterSettle.pending = s.pending := by
  simp [State.enterSettle, apply_ite State.pending]
end enterSettle

section releaseEnd
variable (s : State)
@[simp] theorem State.releaseEnd_clock : s.releaseEnd.clock = s.clock := by
  simp [State.releaseEnd, apply_ite State.clock]
@[simp] theorem State.releaseEnd_lines : s.releaseEnd.lines = s.lines := by
  simp [State.releaseEnd, apply_ite State.lines]
@[simp] theorem State.releaseEnd_ds : s.releaseEnd.ds = s.ds := by
  simp [State.releaseEnd, apply_ite State.ds]
@[simp] theorem State.releaseEnd_efe : s.releaseEnd.efe = s.efe := by
  simp [State.releaseEnd, apply_ite State.efe]
@[simp] theorem State.releaseEnd_pm : s.releaseEnd.pm = s.pm := by
  simp [State.releaseEnd, apply_ite State.pm]
@[simp] theorem State.releaseEnd_cc : s.releaseEnd.cc = s.cc := by
  simp [State.releaseEnd, apply_ite State.cc]
@[simp] theorem State.releaseEnd_pending : s.releaseEnd.pending = s.pending := by
  simp [State.releaseEnd, apply_ite State.pending]
end releaseEnd

section enterRelease
variable (s : State)
@[simp] theorem State.enterRelease_clock : s.enterRelease.clock = s.clock := by
  simp [State.enterRelease, apply_ite State.clock]
@[simp] theorem State.enterRelease_lines : s.enterRelease.lines = s.lines := by
  simp [State.enterRelease, apply_ite State.lines]
@[simp] theorem State.enterRelease_ds : s.enterRelease.ds = s.ds := by
  simp [State.enterRelease, apply_ite State.ds]
@[simp] theorem State.enterRelease_efe : s.enterRelease.efe = s.efe := by
  simp [State.enterRelease, apply_ite State.efe]
@[simp] theorem State.enterRelease_pm : s.enterRelease.pm = s.pm := by
  simp [State.enterRelease, apply_ite State.pm]
@[simp] theorem State.enterRelease_cc : s.enterRelease.cc = s.cc := by
  simp [State.enterRelease, apply_ite State.cc]
@[simp] theorem State.enterRelease_pending : s.enterRelease.pending = s.pending := by
  simp [State.enterRelease, apply_ite State.pending]
end enterRelease

section torqueEnd
variable (s : State)
@[simp] theorem State.torqueEnd_clock : s.torqueEnd.clock = s.clock := by
  simp [State.torqueEnd, apply_ite State.clock]
@[simp] theorem State.torqueEnd_lines : s.torqueEnd.lines = s.lines := by
  simp [State.torqueEnd, apply_ite State.lines]
@[simp] theorem State.torqueEnd_ds : s.torqueEnd.ds = s.ds := by
  simp [State.torqueEnd, apply_ite State.ds]
@[simp] theorem State.torqueEnd_efe : s.torqueEnd.efe = s.efe := by
  simp [State.torqueEnd, apply_ite State.efe]
@[simp] theorem State.torqueEnd_pm : s.torqueEnd.pm = s.pm := by
  simp [State.torqueEnd, apply_ite State.pm]
@[simp] theorem State.torqueEnd_cc : s.torqueEnd.cc = s.cc := by
  simp [State.torqueEnd, apply_ite State.cc]
@[simp] theorem State.torqueEnd_pending : s.torqueEnd.pending = s.pending := by
  simp [State.torqueEnd, apply_ite State.pending]
end torqueEnd

section enterTorque
variable (s : State)
@[simp] theorem State.enterTorque_clock : s.enterTorque.clock = s.clock := by
  simp [State.enterTorque, apply_ite State.clock]
@[simp] theorem State.enterTorque_lines : s.enterTorque.lines = s.lines := by
  simp [State.enterTorque, apply_ite State.lines]
@[simp] theorem State.enterTorque_ds : s.enterTorque.ds = s.ds := by
  simp [State.enterTorque, apply_ite State.ds]
@[simp] theorem State.enterTorque_efe : s.enterTorque.efe = s.efe := by
  simp [State.enterTorque, apply_ite State.efe]
@[simp] theorem State.enterTorque_pm : s.enterTorque.pm = s.pm := by
  simp [State.enterTorque, apply_ite State.pm]
@[simp] theorem State.enterTorque_cc : s.enterTorque.cc = s.cc := by
  simp [State.enterTorque, apply_ite State.cc]
@[simp] theorem State.enterTorque_pending : s.enterTorque.pending = s.pending := by
  simp [State.enterTorque, apply_ite State.pending]
end enterTorque

section enterDwell
variable (s : State) (k : DwellKind)
@[simp] theorem State.enterDwell_clock : (s.enterDwell k).clock = s.clock := by simp [State.enterDwell]
@[simp] theorem State.enterDwell_lines : (s.enterDwell k).lines = s.lines := by simp [State.enterDwell]
@[simp] theorem State.enterDwell_ds : (s.enterDwell k).ds = s.ds := by simp [State.enterDwell]
@[simp] theorem State.enterDwell_efe : (s.enterDwell k).efe = s.efe := by simp [State.enterDwell]
@[simp] theorem State.enterDwell_pm : (s.enterDwell k).pm = s.pm := by simp [State.enterDwell]
@[simp] theorem State.enterDwell_wt : (s.enterDwell k).wt = s.wt := by simp [State.enterDwell]
@[simp] theorem State.enterDwell_cc : (s.enterDwell k).cc = s.cc := by simp [State.enterDwell]
@[simp] theorem State.enterDwell_fm : (s.enterDwell k).fm = s.fm := by simp [State.enterDwell, State.enter]
@[simp] theorem State.enterDwell_pending : (s.enterDwell k).pending = s.pending := by simp [State.enterDwell]
end enterDwell

section gatesTest
variable (s : State)
@[simp] theorem State.gatesTest_clock : s.gatesTest.clock = s.clock := by
  unfold State.gatesTest; (repeat' split) <;> simp
@[simp] theorem State.gatesTest_lines : s.gatesTest.lines = s.lines := by
  unfold State.gatesTest; (repeat' split) <;> simp
@[simp] theorem State.gatesTest_ds : s.gatesTest.ds = s.ds := by
  unfold State.gatesTest; (repeat' split) <;> simp
@[simp] theorem State.gatesTest_efe : s.gatesTest.efe = s.efe := by
  unfold State.gatesTest; (repeat' split) <;> simp
@[simp] theorem State.gatesTest_pm : s.gatesTest.pm = s.pm := by
  unfold State.gatesTest; (repeat' split) <;> simp
@[simp] theorem State.gatesTest_cc : s.gatesTest.cc = s.cc := by
  unfold State.gatesTest; (repeat' split) <;> simp
@[simp] theorem State.gatesTest_pending : s.gatesTest.pending = s.pending := by
  unfold State.gatesTest; (repeat' split) <;> simp
end gatesTest

section enterGates
variable (s : State)
@[simp] theorem State.enterGates_clock : s.enterGates.clock = s.clock := by simp [State.enterGates]
@[simp] theorem State.enterGates_lines : s.enterGates.lines = s.lines := by simp [State.enterGates]
@[simp] theorem State.enterGates_ds : s.enterGates.ds = s.ds := by simp [State.enterGates]
@[simp] theorem State.enterGates_efe : s.enterGates.efe = s.efe := by simp [State.enterGates]
@[simp] theorem State.enterGates_pm : s.enterGates.pm = s.pm := by simp [State.enterGates]
@[simp] theorem State.enterGates_cc : s.enterGates.cc = s.cc := by simp [State.enterGates]
@[simp] theorem State.enterGates_pending : s.enterGates.pending = s.pending := by simp [State.enterGates]
end enterGates

section enterSignal
variable (s : State)
@[simp] theorem State.enterSignal_clock : s.enterSignal.clock = s.clock := by
  simp [State.enterSignal, apply_ite State.clock]
@[simp] theorem State.enterSignal_lines : s.enterSignal.lines = s.lines := by
  simp [State.enterSignal, apply_ite State.lines]
@[simp] theorem State.enterSignal_ds : s.enterSignal.ds = s.ds := by
  simp [State.enterSignal, apply_ite State.ds]
@[simp] theorem State.enterSignal_efe : s.enterSignal.efe = s.efe := by
  simp [State.enterSignal, apply_ite State.efe]
@[simp] theorem State.enterSignal_pm : s.enterSignal.pm = s.pm := by
  simp [State.enterSignal, apply_ite State.pm]
@[simp] theorem State.enterSignal_cc : s.enterSignal.cc = s.cc := by
  simp [State.enterSignal, apply_ite State.cc]
@[simp] theorem State.enterSignal_pending : s.enterSignal.pending = s.pending := by
  simp [State.enterSignal, apply_ite State.pending]
end enterSignal

section enterPreparing
variable (s : State) (p : Phase) (y : Cause)
@[simp] theorem State.enterPreparing_clock : (s.enterPreparing p y).clock = s.clock := by
  unfold State.enterPreparing; dsimp only; (repeat' split) <;> simp
@[simp] theorem State.enterPreparing_lines : (s.enterPreparing p y).lines = s.lines := by
  unfold State.enterPreparing; dsimp only; (repeat' split) <;> simp
@[simp] theorem State.enterPreparing_ds : (s.enterPreparing p y).ds = s.ds := by
  unfold State.enterPreparing; dsimp only; (repeat' split) <;> simp
@[simp] theorem State.enterPreparing_efe : (s.enterPreparing p y).efe = s.efe := by
  unfold State.enterPreparing; dsimp only; (repeat' split) <;> simp
@[simp] theorem State.enterPreparing_pm : (s.enterPreparing p y).pm = s.pm := by
  unfold State.enterPreparing; dsimp only; (repeat' split) <;> simp
@[simp] theorem State.enterPreparing_cc : (s.enterPreparing p y).cc = s.cc := by
  unfold State.enterPreparing; dsimp only; (repeat' split) <;> simp
@[simp] theorem State.enterPreparing_pending : (s.enterPreparing p y).pending = s.pending := by
  unfold State.enterPreparing; dsimp only; (repeat' split) <;> simp
end enterPreparing

section laterLeg
variable (s : State)
@[simp] theorem State.laterLeg_clock : s.laterLeg.clock = s.clock := by
  unfold State.laterLeg; dsimp only; (repeat' split) <;> simp
@[simp] theorem State.laterLeg_lines : s.laterLeg.lines = s.lines := by
  unfold State.laterLeg; dsimp only; (repeat' split) <;> simp
@[simp] theorem State.laterLeg_ds : s.laterLeg.ds = s.ds := by
  unfold State.laterLeg; dsimp only; (repeat' split) <;> simp
@[simp] theorem State.laterLeg_efe : s.laterLeg.efe = s.efe := by
  unfold State.laterLeg; dsimp only; (repeat' split) <;> simp
@[simp] theorem State.laterLeg_pm : s.laterLeg.pm = s.pm := by
  unfold State.laterLeg; dsimp only; (repeat' split) <;> simp
@[simp] theorem State.laterLeg_cc : s.laterLeg.cc = s.cc := by
  unfold State.laterLeg; dsimp only; (repeat' split) <;> simp
@[simp] theorem State.laterLeg_pending : s.laterLeg.pending = s.pending := by
  unfold State.laterLeg; dsimp only; (repeat' split) <;> simp
end laterLeg

section skipLoaded
variable (s : State)
@[simp] theorem State.skipLoaded_clock : s.skipLoaded.clock = s.clock := by simp [State.skipLoaded]
@[simp] theorem State.skipLoaded_lines : s.skipLoaded.lines = s.lines := by simp [State.skipLoaded]
@[simp] theorem State.skipLoaded_ds : s.skipLoaded.ds = s.ds := by simp [State.skipLoaded]
@[simp] theorem State.skipLoaded_efe : s.skipLoaded.efe = s.efe := by simp [State.skipLoaded]
@[simp] theorem State.skipLoaded_cc : s.skipLoaded.cc = s.cc := by simp [State.skipLoaded]
@[simp] theorem State.skipLoaded_pending : s.skipLoaded.pending = s.pending := by simp [State.skipLoaded]
end skipLoaded

section skipDumped
variable (s : State)
@[simp] theorem State.skipDumped_clock : s.skipDumped.clock = s.clock := by
  unfold State.skipDumped; dsimp only; (repeat' split) <;> simp
@[simp] theorem State.skipDumped_lines : s.skipDumped.lines = s.lines := by
  unfold State.skipDumped; dsimp only; (repeat' split) <;> simp
@[simp] theorem State.skipDumped_ds : s.skipDumped.ds = s.ds := by
  unfold State.skipDumped; dsimp only; (repeat' split) <;> simp
@[simp] theorem State.skipDumped_efe : s.skipDumped.efe = s.efe := by
  unfold State.skipDumped; dsimp only; (repeat' split) <;> simp
@[simp] theorem State.skipDumped_cc : s.skipDumped.cc = s.cc := by
  unfold State.skipDumped; dsimp only; (repeat' split) <;> simp
@[simp] theorem State.skipDumped_pending : s.skipDumped.pending = s.pending := by
  unfold State.skipDumped; dsimp only; (repeat' split) <;> simp
end skipDumped

section raiseHeld
variable (s : State) (w : Option Nat)
@[simp] theorem State.raiseHeld_clock : (s.raiseHeld w).clock = s.clock := rfl
@[simp] theorem State.raiseHeld_lines : (s.raiseHeld w).lines = s.lines := rfl
@[simp] theorem State.raiseHeld_ds : (s.raiseHeld w).ds = s.ds := rfl
@[simp] theorem State.raiseHeld_efe : (s.raiseHeld w).efe = s.efe := rfl
@[simp] theorem State.raiseHeld_pm : (s.raiseHeld w).pm = s.pm := rfl
@[simp] theorem State.raiseHeld_tq : (s.raiseHeld w).tq = s.tq := rfl
@[simp] theorem State.raiseHeld_te : (s.raiseHeld w).te = s.te := rfl
@[simp] theorem State.raiseHeld_rg : (s.raiseHeld w).rg = s.rg := rfl
@[simp] theorem State.raiseHeld_es : (s.raiseHeld w).es = s.es := rfl
@[simp] theorem State.raiseHeld_wt : (s.raiseHeld w).wt = s.wt := rfl
@[simp] theorem State.raiseHeld_cc : (s.raiseHeld w).cc = s.cc := rfl
@[simp] theorem State.raiseHeld_fm : (s.raiseHeld w).fm = s.fm := rfl
@[simp] theorem State.raiseHeld_pending : (s.raiseHeld w).pending = s.pending := rfl
end raiseHeld

section actDeferred
variable (s : State) (d : DeferredStop)
@[simp] theorem State.actDeferred_clock : (s.actDeferred d).clock = s.clock := by
  simp [State.actDeferred, apply_ite State.clock]
@[simp] theorem State.actDeferred_lines : (s.actDeferred d).lines = s.lines := by
  simp [State.actDeferred, apply_ite State.lines]
@[simp] theorem State.actDeferred_ds : (s.actDeferred d).ds = s.ds := by
  simp [State.actDeferred, apply_ite State.ds]
@[simp] theorem State.actDeferred_efe : (s.actDeferred d).efe = s.efe := by
  simp [State.actDeferred, apply_ite State.efe]
@[simp] theorem State.actDeferred_pm : (s.actDeferred d).pm = s.pm := by
  simp [State.actDeferred, apply_ite State.pm]
@[simp] theorem State.actDeferred_cc : (s.actDeferred d).cc = s.cc := by
  simp [State.actDeferred, apply_ite State.cc]
@[simp] theorem State.actDeferred_pending : (s.actDeferred d).pending = s.pending := by
  simp [State.actDeferred, apply_ite State.pending]
end actDeferred

section landingEnd
variable (s : State)
@[simp] theorem State.landingEnd_clock : s.landingEnd.clock = s.clock := by
  unfold State.landingEnd; dsimp only; (repeat' split) <;> simp
@[simp] theorem State.landingEnd_lines : s.landingEnd.lines = s.lines := by
  unfold State.landingEnd; dsimp only; (repeat' split) <;> simp
@[simp] theorem State.landingEnd_ds : s.landingEnd.ds = s.ds := by
  unfold State.landingEnd; dsimp only; (repeat' split) <;> simp
@[simp] theorem State.landingEnd_efe : s.landingEnd.efe = s.efe := by
  unfold State.landingEnd; dsimp only; (repeat' split) <;> simp
@[simp] theorem State.landingEnd_pm : s.landingEnd.pm = s.pm := by
  unfold State.landingEnd; dsimp only; (repeat' split) <;> simp
@[simp] theorem State.landingEnd_cc : s.landingEnd.cc = s.cc := by
  unfold State.landingEnd; dsimp only; (repeat' split) <;> simp
@[simp] theorem State.landingEnd_pending : s.landingEnd.pending = s.pending := by
  unfold State.landingEnd; dsimp only; (repeat' split) <;> simp
end landingEnd

section stopEnd
variable (s : State)
@[simp] theorem State.stopEnd_clock : s.stopEnd.clock = s.clock := by
  unfold State.stopEnd; split <;> simp
@[simp] theorem State.stopEnd_lines : s.stopEnd.lines = s.lines := by
  unfold State.stopEnd; split <;> simp
@[simp] theorem State.stopEnd_ds : s.stopEnd.ds = s.ds := by
  unfold State.stopEnd; split <;> simp
@[simp] theorem State.stopEnd_efe : s.stopEnd.efe = s.efe := by
  unfold State.stopEnd; split <;> simp
@[simp] theorem State.stopEnd_pm : s.stopEnd.pm = s.pm := by
  unfold State.stopEnd; split <;> simp
@[simp] theorem State.stopEnd_cc : s.stopEnd.cc = s.cc := by
  unfold State.stopEnd; split <;> simp
@[simp] theorem State.stopEnd_pending : s.stopEnd.pending = s.pending := by
  unfold State.stopEnd; split <;> simp
end stopEnd

section brakesConfirmed
variable (s : State)
@[simp] theorem State.brakesConfirmed_clock : s.brakesConfirmed.clock = s.clock := by
  unfold State.brakesConfirmed; split <;> simp
@[simp] theorem State.brakesConfirmed_lines : s.brakesConfirmed.lines = s.lines := by
  unfold State.brakesConfirmed; split <;> simp
@[simp] theorem State.brakesConfirmed_ds : s.brakesConfirmed.ds = s.ds := by
  unfold State.brakesConfirmed; split <;> simp
@[simp] theorem State.brakesConfirmed_efe : s.brakesConfirmed.efe = s.efe := by
  unfold State.brakesConfirmed; split <;> simp
@[simp] theorem State.brakesConfirmed_pm : s.brakesConfirmed.pm = s.pm := by
  unfold State.brakesConfirmed; split <;> simp
@[simp] theorem State.brakesConfirmed_cc : s.brakesConfirmed.cc = s.cc := by
  unfold State.brakesConfirmed; split <;> simp
@[simp] theorem State.brakesConfirmed_pending : s.brakesConfirmed.pending = s.pending := by
  unfold State.brakesConfirmed; split <;> simp
end brakesConfirmed

section beginBrakeConfirm
variable (s : State)
@[simp] theorem State.beginBrakeConfirm_clock : s.beginBrakeConfirm.clock = s.clock := by
  unfold State.beginBrakeConfirm; dsimp only; split <;> simp
@[simp] theorem State.beginBrakeConfirm_lines : s.beginBrakeConfirm.lines = s.lines := by
  unfold State.beginBrakeConfirm; dsimp only; split <;> simp
@[simp] theorem State.beginBrakeConfirm_ds : s.beginBrakeConfirm.ds = s.ds := by
  unfold State.beginBrakeConfirm; dsimp only; split <;> simp
@[simp] theorem State.beginBrakeConfirm_efe : s.beginBrakeConfirm.efe = s.efe := by
  unfold State.beginBrakeConfirm; dsimp only; split <;> simp
@[simp] theorem State.beginBrakeConfirm_pm : s.beginBrakeConfirm.pm = s.pm := by
  unfold State.beginBrakeConfirm; dsimp only; split <;> simp
@[simp] theorem State.beginBrakeConfirm_cc : s.beginBrakeConfirm.cc = s.cc := by
  unfold State.beginBrakeConfirm; dsimp only; split <;> simp
@[simp] theorem State.beginBrakeConfirm_pending : s.beginBrakeConfirm.pending = s.pending := by
  unfold State.beginBrakeConfirm; dsimp only; split <;> simp
end beginBrakeConfirm

section restTest
variable (s : State)
@[simp] theorem State.restTest_clock : s.restTest.clock = s.clock := by
  simp [State.restTest, apply_ite State.clock]
@[simp] theorem State.restTest_lines : s.restTest.lines = s.lines := by
  simp [State.restTest, apply_ite State.lines]
@[simp] theorem State.restTest_ds : s.restTest.ds = s.ds := by
  simp [State.restTest, apply_ite State.ds]
@[simp] theorem State.restTest_efe : s.restTest.efe = s.efe := by
  simp [State.restTest, apply_ite State.efe]
@[simp] theorem State.restTest_pm : s.restTest.pm = s.pm := by
  simp [State.restTest, apply_ite State.pm]
@[simp] theorem State.restTest_cc : s.restTest.cc = s.cc := by
  simp [State.restTest, apply_ite State.cc]
@[simp] theorem State.restTest_pending : s.restTest.pending = s.pending := by
  simp [State.restTest, apply_ite State.pending]
end restTest

section takeExecutive
variable (s : State) (r : RestStep)
@[simp] theorem State.takeExecutive_clock : (s.takeExecutive r).clock = s.clock := by
  simp [State.takeExecutive, apply_ite State.clock]
@[simp] theorem State.takeExecutive_lines : (s.takeExecutive r).lines = s.lines := by
  simp [State.takeExecutive, apply_ite State.lines]
@[simp] theorem State.takeExecutive_ds : (s.takeExecutive r).ds = s.ds := by
  simp [State.takeExecutive, apply_ite State.ds]
@[simp] theorem State.takeExecutive_efe : (s.takeExecutive r).efe = s.efe := by
  simp [State.takeExecutive, apply_ite State.efe]
@[simp] theorem State.takeExecutive_pm : (s.takeExecutive r).pm = s.pm := by
  simp [State.takeExecutive, apply_ite State.pm]
@[simp] theorem State.takeExecutive_cc : (s.takeExecutive r).cc = s.cc := by
  simp [State.takeExecutive, apply_ite State.cc]
@[simp] theorem State.takeExecutive_pending : (s.takeExecutive r).pending = s.pending := by
  simp [State.takeExecutive, apply_ite State.pending]
end takeExecutive

section takeBlock
variable (s : State) (t : Nat) (r : RestStep) (p : ReferenceGenerator) (b : SampleBlock)
@[simp] theorem State.takeBlock_clock : (State.takeBlock t r p s b).clock = s.clock := by
  cases b <;> simp [State.takeBlock]
@[simp] theorem State.takeBlock_lines : (State.takeBlock t r p s b).lines = s.lines := by
  cases b <;> simp [State.takeBlock]
@[simp] theorem State.takeBlock_ds : (State.takeBlock t r p s b).ds = s.ds := by
  cases b <;> simp [State.takeBlock]
@[simp] theorem State.takeBlock_efe : (State.takeBlock t r p s b).efe = s.efe := by
  cases b <;> simp [State.takeBlock]
@[simp] theorem State.takeBlock_pm : (State.takeBlock t r p s b).pm = s.pm := by
  cases b <;> simp [State.takeBlock]
@[simp] theorem State.takeBlock_pending : (State.takeBlock t r p s b).pending = s.pending := by
  cases b <;> simp [State.takeBlock]
end takeBlock

section takeRecord
variable (s : State) (h : Heads)
@[simp] theorem State.takeRecord_clock : (s.takeRecord h).clock = s.clock := by simp [State.takeRecord]
@[simp] theorem State.takeRecord_lines : (s.takeRecord h).lines = s.lines := by simp [State.takeRecord]
@[simp] theorem State.takeRecord_ds : (s.takeRecord h).ds = s.ds := by simp [State.takeRecord]
@[simp] theorem State.takeRecord_cc : (s.takeRecord h).cc = s.cc := by simp [State.takeRecord]
@[simp] theorem State.takeRecord_pending : (s.takeRecord h).pending = s.pending := by simp [State.takeRecord]
end takeRecord

end Sys2Proof.Machine
end

