-- ==== Sys2Proof/Laws/Lines.lean ====
section
/-! SUPPORT. When a command of the line path changes a line, and what it does then. -/

namespace Sys2Proof

section lines
variable (l : InputLines)
@[simp] theorem InputLines.signalOk_same : { l with signalOk := true } = l ↔ l.signalOk = true := by
  cases l; simp [eq_comm]
@[simp] theorem InputLines.shaftStop_same : { l with shaftStop := true } = l ↔ l.shaftStop = true := by
  cases l; simp [eq_comm]
@[simp] theorem InputLines.emergencyIn_same :
    { l with emergencyIn := false } = l ↔ l.emergencyIn = false := by cases l; simp [eq_comm]
@[simp] theorem InputLines.brakeApplied_same :
    { l with brakeApplied := true } = l ↔ l.brakeApplied = true := by cases l; simp [eq_comm]
@[simp] theorem InputLines.bBrakeApplied_same :
    { l with bBrakeApplied := true } = l ↔ l.bBrakeApplied = true := by cases l; simp [eq_comm]
@[simp] theorem InputLines.skipLoaded_same : { l with skipLoaded := true } = l ↔ l.skipLoaded = true := by
  cases l; simp [eq_comm]
@[simp] theorem InputLines.skipDumped_same : { l with skipDumped := true } = l ↔ l.skipDumped = true := by
  cases l; simp [eq_comm]
@[simp] theorem InputLines.clutch_same (opened closed : Bool) :
    { l with clutchOpen := opened, clutchClosed := closed } = l ↔
      l.clutchOpen = opened ∧ l.clutchClosed = closed := by cases l; simp [eq_comm]
@[simp] theorem InputLines.gate_same (g : Fin 16) :
    { l with gates := l.gates.setIfInBounds g false } = l ↔ l.gates[g.val] = false := by
  constructor
  · intro h
    have := congrArg (fun x : InputLines => x.gates[g.val]) h
    simpa using this.symm
  · intro h
    have : l.gates.setIfInBounds g false = l.gates := by
      ext i hi
      rw [Vector.getElem_setIfInBounds]
      split
      · subst_vars; exact h.symm
      · rfl
    rw [this]
end lines

end Sys2Proof

namespace Sys2Proof.Machine

open Sys2Proof

section onChange
variable (s : State) (change : InputLines → InputLines) (act : State → State)

/-- What leaves the lines as they are is no change (R1). -/
theorem State.onChange_same (h : change s.lines = s.lines) : s.onChange change act = s := by
  simp [State.onChange, h]

/-- A change is made in the lines, and acted on. -/
theorem State.onChange_changed (h : change s.lines ≠ s.lines) :
    s.onChange change act = act (s.modLines change) := by simp [State.onChange, h]
end onChange

end Sys2Proof.Machine
end

