-- ==== Sys2Proof/Laws/Readers.lean ====
section
/-! SUPPORT. What the readers of the state see past the passing of time and past the port's return to
HUNTING, and how an answer becomes a reply. -/

namespace Sys2Proof.Machine

open Sys2Proof

section elapse
variable (s : State) (e : Elapse) (c : Conv) (i : Nat) (k : FaultKind) (b : TripBody) (r : TripRecord)
  (g : Fin 16)
@[simp] theorem State.elapse_conv : (s.elapse e).conv c = s.conv c := rfl
@[simp] theorem State.elapse_drum : (s.elapse e).drum c = s.drum c := rfl
@[simp] theorem State.elapse_front : (s.elapse e).front c = s.front c := rfl
@[simp] theorem State.elapse_convRec : (s.elapse e).convRec c = s.convRec c := rfl
@[simp] theorem State.elapse_level : (s.elapse e).level i = s.level i := rfl
@[simp] theorem State.elapse_levelDepth : (s.elapse e).levelDepth i = s.levelDepth i := rfl
@[simp] theorem State.elapse_mark : (s.elapse e).mark i = s.mark i := rfl
@[simp] theorem State.elapse_watch : (s.elapse e).watch i = s.watch i := rfl
@[simp] theorem State.elapse_severity : (s.elapse e).severity k = s.severity k := rfl
@[simp] theorem State.elapse_isPending : (s.elapse e).isPending k = s.isPending k := rfl
@[simp] theorem State.elapse_convAtRest : (s.elapse e).convAtRest c = s.convAtRest c := rfl
@[simp] theorem State.elapse_finalDepth : (s.elapse e).finalDepth b = s.finalDepth b := rfl
@[simp] theorem State.elapse_tripLimit : (s.elapse e).tripLimit r = s.tripLimit r := rfl
@[simp] theorem State.elapse_build : (s.elapse e).build r = s.build r := rfl
@[simp] theorem State.elapse_passiveFits : (s.elapse e).passiveFits b = s.passiveFits b := rfl
@[simp] theorem State.elapse_passage : (s.elapse e).passage i = s.passage i := rfl
@[simp] theorem State.elapse_layers : (s.elapse e).layers c = s.layers c := rfl
@[simp] theorem State.elapse_gateSupervised : (s.elapse e).gateSupervised g = s.gateSupervised g := rfl
@[simp] theorem State.elapse_limits : (s.elapse e).limits = s.limits := rfl
@[simp] theorem State.elapse_activeHead : (s.elapse e).activeHead = s.activeHead := rfl
@[simp] theorem State.elapse_activeId : (s.elapse e).activeId = s.activeId := rfl
@[simp] theorem State.elapse_pendingKinds : (s.elapse e).pendingKinds = s.pendingKinds := rfl
@[simp] theorem State.elapse_atStandstill : (s.elapse e).atStandstill = s.atStandstill := rfl
@[simp] theorem State.elapse_guideDepth : (s.elapse e).guideDepth = s.guideDepth := rfl
@[simp] theorem State.elapse_guideSpeed : (s.elapse e).guideSpeed = s.guideSpeed := rfl
@[simp] theorem State.elapse_distanceToGo : (s.elapse e).distanceToGo = s.distanceToGo := rfl
@[simp] theorem State.elapse_skipLight : (s.elapse e).skipLight = s.skipLight := rfl
@[simp] theorem State.elapse_manCertain : (s.elapse e).manCertain = s.manCertain := rfl
@[simp] theorem State.elapse_gravePending : (s.elapse e).gravePending = s.gravePending := rfl
@[simp] theorem State.elapse_alignment : (s.elapse e).alignment = s.alignment := rfl
@[simp] theorem State.elapse_aligned : (s.elapse e).aligned = s.aligned := rfl
@[simp] theorem State.elapse_rg_plan : (s.elapse e).rg.plan = s.rg.plan := rfl
@[simp] theorem State.elapse_rg_guide : (s.elapse e).rg.guide = s.rg.guide := rfl
@[simp] theorem State.elapse_rg_travel : (s.elapse e).rg.travel = s.rg.travel := rfl
@[simp] theorem State.elapse_rg_refPrev : (s.elapse e).rg.refPrev = s.rg.refPrev := rfl
@[simp] theorem State.elapse_rg_limit : (s.elapse e).rg.limit = s.rg.limit := rfl
@[simp] theorem State.elapse_rg_latch : (s.elapse e).rg.latch = s.rg.latch := rfl
@[simp] theorem State.elapse_rg_label : (s.elapse e).rg.label = s.rg.label := rfl
@[simp] theorem State.elapse_rg_legTime : (s.elapse e).rg.legTime = s.rg.legTime := rfl
@[simp] theorem State.elapse_rg_seq : (s.elapse e).rg.seq = s.rg.seq := rfl
@[simp] theorem State.elapse_rg_refSent : (s.elapse e).rg.refSent = s.rg.refSent := rfl
@[simp] theorem State.elapse_takesFrame : (s.elapse e).takesFrame = s.takesFrame := rfl
end elapse

section hunt
variable (s : State) (c : Conv) (i : Nat) (k : FaultKind) (b : TripBody) (r : TripRecord) (g : Fin 16)
@[simp] theorem State.hunt_clock : s.hunt.clock = s.clock := rfl
@[simp] theorem State.hunt_lines : s.hunt.lines = s.lines := rfl
@[simp] theorem State.hunt_ds : s.hunt.ds = s.ds := rfl
@[simp] theorem State.hunt_efe : s.hunt.efe = s.efe := rfl
@[simp] theorem State.hunt_pm : s.hunt.pm = s.pm := rfl
@[simp] theorem State.hunt_tq : s.hunt.tq = s.tq := rfl
@[simp] theorem State.hunt_te : s.hunt.te = s.te := rfl
@[simp] theorem State.hunt_rg : s.hunt.rg = s.rg := rfl
@[simp] theorem State.hunt_es : s.hunt.es = s.es := rfl
@[simp] theorem State.hunt_wt : s.hunt.wt = s.wt := rfl
@[simp] theorem State.hunt_cc : s.hunt.cc = s.cc := rfl
@[simp] theorem State.hunt_fm : s.hunt.fm = s.fm := rfl
@[simp] theorem State.hunt_pending : s.hunt.pending = s.pending := rfl
@[simp] theorem State.hunt_conv : (s.hunt).conv c = s.conv c := rfl
@[simp] theorem State.hunt_drum : (s.hunt).drum c = s.drum c := rfl
@[simp] theorem State.hunt_front : (s.hunt).front c = s.front c := rfl
@[simp] theorem State.hunt_convRec : (s.hunt).convRec c = s.convRec c := rfl
@[simp] theorem State.hunt_level : (s.hunt).level i = s.level i := rfl
@[simp] theorem State.hunt_levelDepth : (s.hunt).levelDepth i = s.levelDepth i := rfl
@[simp] theorem State.hunt_mark : (s.hunt).mark i = s.mark i := rfl
@[simp] theorem State.hunt_watch : (s.hunt).watch i = s.watch i := rfl
@[simp] theorem State.hunt_severity : (s.hunt).severity k = s.severity k := rfl
@[simp] theorem State.hunt_isPending : (s.hunt).isPending k = s.isPending k := rfl
@[simp] theorem State.hunt_convAtRest : (s.hunt).convAtRest c = s.convAtRest c := rfl
@[simp] theorem State.hunt_finalDepth : (s.hunt).finalDepth b = s.finalDepth b := rfl
@[simp] theorem State.hunt_tripLimit : (s.hunt).tripLimit r = s.tripLimit r := rfl
@[simp] theorem State.hunt_build : (s.hunt).build r = s.build r := rfl
@[simp] theorem State.hunt_passiveFits : (s.hunt).passiveFits b = s.passiveFits b := rfl
@[simp] theorem State.hunt_passage : (s.hunt).passage i = s.passage i := rfl
@[simp] theorem State.hunt_layers : (s.hunt).layers c = s.layers c := rfl
@[simp] theorem State.hunt_gateSupervised : (s.hunt).gateSupervised g = s.gateSupervised g := rfl
@[simp] theorem State.hunt_limits : (s.hunt).limits = s.limits := rfl
@[simp] theorem State.hunt_activeHead : (s.hunt).activeHead = s.activeHead := rfl
@[simp] theorem State.hunt_activeId : (s.hunt).activeId = s.activeId := rfl
@[simp] theorem State.hunt_pendingKinds : (s.hunt).pendingKinds = s.pendingKinds := rfl
@[simp] theorem State.hunt_atStandstill : (s.hunt).atStandstill = s.atStandstill := rfl
@[simp] theorem State.hunt_guideDepth : (s.hunt).guideDepth = s.guideDepth := rfl
@[simp] theorem State.hunt_guideSpeed : (s.hunt).guideSpeed = s.guideSpeed := rfl
@[simp] theorem State.hunt_distanceToGo : (s.hunt).distanceToGo = s.distanceToGo := rfl
@[simp] theorem State.hunt_skipLight : (s.hunt).skipLight = s.skipLight := rfl
@[simp] theorem State.hunt_manCertain : (s.hunt).manCertain = s.manCertain := rfl
@[simp] theorem State.hunt_gravePending : (s.hunt).gravePending = s.gravePending := rfl
@[simp] theorem State.hunt_alignment : (s.hunt).alignment = s.alignment := rfl
@[simp] theorem State.hunt_aligned : (s.hunt).aligned = s.aligned := rfl
end hunt

section port
variable (s : State) (tag k : Byte) (c : ResultCode) (d : List Byte)

/-- The first check fails, or the rest decide. -/
@[simp] theorem firstRefusal_cons (b : Bool) (rest : List (Bool × ResultCode)) :
    firstRefusal ((b, c) :: rest) = if b then firstRefusal rest else some c := rfl

/-- No checks refuse nothing. -/
@[simp] theorem firstRefusal_nil : firstRefusal [] = none := rfl

/-- An owner's answer as a reply: the state it leaves, with the port as the reply makes it (R197). -/
theorem State.reply_answer : State.reply tag k (answer c d s) = { s with
    link := { s.link with
      replyState := .pending, reply := frameBytes s.link.address tag k (le8 c.code ++ d) } } := rfl

/-- A refusal as a reply: nothing but the port changes (R199). -/
theorem State.reply_refuse : State.reply tag k (refuse c s) = { s with
    link := { s.link with
      replyState := .pending, reply := frameBytes s.link.address tag k (le8 c.code) } } := by
  simp [State.reply, refuse, State.modLink]
end port

end Sys2Proof.Machine
end

