-- ==== Sys2Proof/Laws/Serve.lean ====
section
/-! SUPPORT. The port: what serving a request comes to in each case, and every request as one of its owners'
(R193 to R197). -/

namespace Sys2Proof.Machine

open Sys2Proof

/-- The answers of the blocks that own the listed request kinds (R198). -/
inductive Owner : (List Byte → State → Answered) → Prop
  | putLevel : Owner (whenStoreIdle putLevel)
  | askLevel : Owner askLevel
  | putMark : Owner (whenStoreIdle putMark)
  | askMark : Owner askMark
  | putDrum : Owner (whenStoreIdle putDrum)
  | askDrum : Owner askDrum
  | putConveyance : Owner (whenStoreIdle putConveyance)
  | askConveyance : Owner askConveyance
  | putLimits : Owner (whenStoreIdle putLimits)
  | askLimits : Owner askLimits
  | putSeverity : Owner (whenStoreIdle putSeverity)
  | commit : Owner (whenStoreIdle commit)
  | setDatum : Owner datumRequest
  | setService : Owner setService
  | setMode : Owner setMode
  | queueTrip : Owner queueTrip
  | queueSkip : Owner queueSkip
  | withdraw : Owner withdraw
  | prepare : Owner prepare
  | start : Owner start
  | stop : Owner stop
  | retarget : Owner retarget
  | resetTrip : Owner resetRequest
  | clearLockout : Owner clearLockout
  | restart : Owner restart
  | askIdentity : Owner askIdentity
  | askStatus : Owner askStatus
  | askPosition : Owner askPosition
  | askQueue : Owner askQueue
  | takeEvents : Owner takeEvents
  | askFaults : Owner askFaults
  | readFaultLog : Owner readFaultLog
  | ackFault : Owner ackFault
  | clearFaultLog : Owner clearFaultLog
  | askWatch : Owner askWatch
  | setWatch : Owner setWatchPoint
  | clearWatch : Owner clearWatch
  | clutchOut : Owner clutchOut
  | clutchIn : Owner clutchIn

/-- The kinds of R198 as numbers. -/
theorem requestKinds_toNat : ∀ k ∈ requestKinds, k.toNat ∈
    [0x01, 0x02, 0x03, 0x04, 0x05, 0x06, 0x07, 0x08, 0x09, 0x0A, 0x10, 0x11, 0x12, 0x13, 0x14, 0x15, 0x16,
     0x17, 0x18, 0x19, 0x1A, 0x1B, 0x1C, 0x20, 0x21, 0x22, 0x23, 0x24, 0x25, 0x26, 0x27, 0x28, 0x29, 0x2A,
     0x2B, 0x2C, 0x2D, 0x2E, 0x2F] := by decide

/-- Every request is an owner's, served by class and form, or one of an unlisted kind. -/
theorem State.request_cases {P : State → Prop} (kind tag : Byte) (p : List Byte) (s : State)
    (served : ∀ k cls form owner, Owner owner → P (State.serve k cls form owner tag p s))
    (unknown : kind ∉ requestKinds → P (s.reqUnknown kind tag)) : P (s.request kind tag p) := by
  unfold State.request
  split
  · exact served _ _ _ _ .askIdentity
  · exact served _ _ _ _ .askStatus
  · exact served _ _ _ _ .askPosition
  · exact served _ _ _ _ .askQueue
  · exact served _ _ _ _ .takeEvents
  · exact served _ _ _ _ .askFaults
  · exact served _ _ _ _ .readFaultLog
  · exact served _ _ _ _ .ackFault
  · exact served _ _ _ _ .clearFaultLog
  · exact served _ _ _ _ .askWatch
  · exact served _ _ _ _ .putLevel
  · exact served _ _ _ _ .askLevel
  · exact served _ _ _ _ .putMark
  · exact served _ _ _ _ .askMark
  · exact served _ _ _ _ .putDrum
  · exact served _ _ _ _ .askDrum
  · exact served _ _ _ _ .putConveyance
  · exact served _ _ _ _ .askConveyance
  · exact served _ _ _ _ .putLimits
  · exact served _ _ _ _ .askLimits
  · exact served _ _ _ _ .putSeverity
  · exact served _ _ _ _ .commit
  · exact served _ _ _ _ .setDatum
  · exact served _ _ _ _ .setService
  · exact served _ _ _ _ .setMode
  · exact served _ _ _ _ .queueTrip
  · exact served _ _ _ _ .queueSkip
  · exact served _ _ _ _ .withdraw
  · exact served _ _ _ _ .prepare
  · exact served _ _ _ _ .start
  · exact served _ _ _ _ .stop
  · exact served _ _ _ _ .retarget
  · exact served _ _ _ _ .setWatch
  · exact served _ _ _ _ .clearWatch
  · exact served _ _ _ _ .clutchOut
  · exact served _ _ _ _ .clutchIn
  · exact served _ _ _ _ .resetTrip
  · exact served _ _ _ _ .clearLockout
  · exact served _ _ _ _ .restart
  · refine unknown fun hm => ?_
    have hk := requestKinds_toNat kind hm
    simp only [List.mem_cons, List.not_mem_nil, or_false] at hk
    rcases hk with h | h | h | h | h | h | h | h | h | h | h | h | h | h | h | h | h | h | h | h | h | h | h | h | h | h | h | h | h | h | h | h | h | h | h | h | h | h | h <;> contradiction

variable (s : State) (k tag : Byte) (cls : RequestClass) (form : List Byte → Bool)
  (owner : List Byte → State → Answered) (p : List Byte)

/-- A request that the port does not take leaves the receiver HUNTING and nothing else. -/
theorem State.serve_busy (h : s.takesFrame = false) : State.serve k cls form owner tag p s = s.hunt := by
  simp [State.serve, h]

/-- A request of bad form is refused. -/
theorem State.serve_badForm (h : s.takesFrame = true) (hf : form p = false) :
    State.serve k cls form owner tag p s = State.reply tag (k + 0x80) (refuse .badForm s.hunt) := by
  simp [State.serve, h, checked, hf, replyKind]

/-- A request that the class check refuses. -/
theorem State.serve_class {c : ResultCode} (h : s.takesFrame = true) (hf : form p = true)
    (hc : classRefusal cls s.te.winder = some c) :
    State.serve k cls form owner tag p s = State.reply tag (k + 0x80) (refuse c s.hunt) := by
  simp [State.serve, h, checked, hf, replyKind, State.hunt, hc]

/-- A request that passes the port's checks is its owner's. -/
theorem State.serve_owner (h : s.takesFrame = true) (hf : form p = true)
    (hc : classRefusal cls s.te.winder = none) :
    State.serve k cls form owner tag p s = State.reply tag (k + 0x80) (owner p s.hunt) := by
  simp [State.serve, h, checked, hf, replyKind, State.hunt, hc]

end Sys2Proof.Machine
end

