-- ==== Sys2Proof/Tests/Slice0.lean ====
section
/-! SUPPORT. Tests of the model. The worked figures of the manual come first; after them stands, for each
statement that has hypotheses, a state and operands that meet them, at the ends of their ranges. -/

namespace Sys2Proof.Tests

set_option Elab.async false

open Sys2Proof Sys2Proof.Machine

/-! ### A small installation -/

/-- No time passes and no line changes. -/
def quick : Elapse := { micros := 0, quiet := [] }

/-- Every mode is permitted. -/
def openModes : ModeSet := ⟨true, true, true, true⟩

/-- A level in service without a gate. -/
def place (k : LevelKind) (c : Conv) (d : Int) : Level :=
  { kind := k, serves := c, depth := d, modes := openModes, inService := true, gate := none, label := [] }

/-- The two layers of drum A of the worked case (R29). -/
def layersA : List Layer := [⟨0, 824000⟩, ⟨1200000, 851000⟩]

/-- The two layers of drum B of the worked case (section 8.12). -/
def layersB : List Layer := [⟨0, 824000⟩, ⟨1150000, 848000⟩]

/-- The cage of the worked cases. -/
def cage : Conveyance :=
  { kind := .cage, decks := 2, spacing := 4500, top := -12000, bottom := 3322000, ropeOffset := 95000,
    stretch := .perClass 1200 1500 1500 1800 }

/-- A skip beside it. -/
def skip : Conveyance := { cage with kind := .skip, decks := 1, bottom := 3318000 }

/-- A level whose gate is line 3. -/
def gated : Level := { place .station .a 1306000 with gate := some 3 }

/-- A mark at 3,000 mm on line 7, at place 2. -/
def mark : Mark := { conv := .a, depth := 3000, facing := .either, line := 7 }

/-- A described shaft with a bank, two stations, a pocket and a tipple. -/
def shaft : Description :=
  { emptyDescription with
    levels := ((((emptyDescription.levels.setIfInBounds 0 (some (place .bank .a 0))).setIfInBounds 5
      (some gated)).setIfInBounds 8 (some (place .station .a 1420000))).setIfInBounds 20
      (some (place .pocket .b 3290000))).setIfInBounds 21 (some (place .tipple .b (-9000)))
    marks := emptyDescription.marks.setIfInBounds 2 (some mark)
    drums := ⟨{ emptyDrum with layers := layersA }, { emptyDrum with layers := layersB }⟩
    convs := ⟨cage, skip⟩ }

/-- Everything made, closed and asserted that a trip waits for. -/
def ready : InputLines :=
  { resetLines with
    signalOk := true, torqueOk := true, brakeApplied := true, clutchClosed := true,
    gates := Vector.replicate 16 true }

/-- A conveyance that stands still with its position certain. -/
def placed : ConvModel := { resetConvModel with certainty := .certain }

/-- A head that delivers count 0. -/
def counting : DrumFront :=
  { resetDrumFront with primary := { resetHead with valid := true }, check := { resetHead with valid := true } }

/-- The device in a winder state, its shaft described, both positions certain. -/
def at_ (w : WinderState) : State :=
  { State.reset with
    lines := ready
    ds := { State.reset.ds with desc := shaft, loaded := true }
    efe := { State.reset.efe with drums := ⟨counting, counting⟩ }
    pm := { State.reset.pm with convs := ⟨placed, placed⟩ }
    te := { State.reset.te with winder := w }
    cc := { State.reset.cc with read := true } }

/-- A trip of the cage to level 5. -/
def trip (active : Bool) : TripRecord :=
  { id := 101, body := .cage .man (.station 5 1) 1306000, override := none, active := active,
    interrupted := false }

/-- Two skip cycles, the first on its way. -/
def cycles (leg : Leg) (left : Nat) : TripRecord :=
  { id := 102, body := .skip 20 21 2 left leg, override := none, active := true, interrupted := false }

/-- The plan of the trip: a slow point and the stop point. -/
def points : List PlanPoint :=
  [{ kind := .slow 4000, depth := 900000, origin := .tagged, watchId := some 3 },
   { kind := .stop, depth := 1306000, origin := .target, watchId := none }]

/-- The device in a state of an active trip. -/
def busy (w : WinderState) (r : TripRecord) : State :=
  { at_ w with
    tq := [r]
    rg := { State.reset.rg with plan := some points, guide := r.body.guide, limit := 12000 } }

/-- What a meaning left, or nothing where it stopped. -/
def after (o : Answer) : Option State :=
  match o with
  | .next t => some t
  | _ => none

/-! ### Well-formedness refuses what no plant sends -/

theorem test_blocks_once :
    wellFormed (.sample quick ⟨⟨.missing, .missing⟩, ⟨.missing, .missing⟩⟩
        [.reference, .envelope, .watch, .clutch, .executive]) = true ∧
      wellFormed (.sample quick ⟨⟨.missing, .missing⟩, ⟨.missing, .missing⟩⟩
        [.reference, .reference, .watch, .clutch, .executive]) = false := by decide +kernel

theorem test_age_fits :
    wellFormed (.markEdge quick 0 (2 ^ 31 - 1)) = true ∧ wellFormed (.markEdge quick 0 (2 ^ 31)) = false := by
  decide +kernel

theorem test_unknown_kind_is_unlisted :
    wellFormed (.unknownKind quick 0 0x7F []) = true ∧ wellFormed (.unknownKind quick 0 0x02 []) = false := by
  decide +kernel

theorem test_payload_fits :
    wellFormed (.askStatus quick 0 (List.replicate 200 0)) = true ∧
      wellFormed (.askStatus quick 0 (List.replicate 201 0)) = false := by decide +kernel

theorem test_no_word_spells_a_command : decodeTableWord 32 0 = none := by decide

/-! ### The figures that the manual works out -/

/-- The check value of the characters 31h to 39h (R88, R207). -/
theorem test_crc16 :
    crc16 [0x31, 0x32, 0x33, 0x34, 0x35, 0x36, 0x37, 0x38, 0x39] = 0x29B1 := by decide +kernel

/-- The three counts worked in R29. -/
theorem test_paid_out :
    paidOut layersA 1500000 = 1244100000000 ∧ paidOut layersA 1200000 = 988800000000 ∧
      paidOut layersA (-10000) = -8240000000 := by decide +kernel

/-- An ASK_STATUS frame of section 10.9 is taken from its bytes: A5h 05h 02h 3Ch 02h and the check value. -/
theorem test_ask_status_frame :
    let s := { at_ .idle with link := { resetLink with address := 5 } }
    (s.receiveBytes (frameBytes 5 0x3C 0x02 [])).link.replyState = .pending ∧
      (s.receiveBytes (frameBytes 5 0x3C 0x02 [])).link.reply.length = 61 ∧
      (frameBytes 5 0x3C 0x02 []).take 5 = [0xA5, 0x05, 0x02, 0x3C, 0x02] := by decide +kernel

/-- Cage A on its way to level 5, as the manual's worked cases have it: class PERSONS, S_datum 114 (sections
2.10, 4.9 and 5.10). -/
def worked : State :=
  { busy .winding (trip true) with
    pm := { State.reset.pm with
      drums := ⟨{ resetDrumModel with lastValid := some (1499943, 0) }, resetDrumModel⟩
      convs := ⟨{ placed with sDatum := 114, loadClass := .persons, speed := 9701 }, placed⟩ }
    rg := { State.reset.rg with plan := some (points.drop 1), limit := 12000, refPrev := 9360 }
    es := { State.reset.es with legStart := some 0 } }

/-- A Sample record 5 ms after the last, with a word of drum A. -/
def sampled (a : HeadWord) : Instr :=
  .sample { micros := 5000, quiet := [] } ⟨⟨a, .word 0 false⟩, ⟨.missing, .missing⟩⟩
    [.reference, .envelope, .watch, .clutch, .executive]

/-- Sample s0 of sections 2.10, 4.9 and 5.10: depth, speed, reference, label, envelope, margin and tiers. -/
theorem test_sample_s0 :
    (after (exec (sampled (.word 1500000 false)) worked)).map
        (fun t => ([(t.conv .a).depth, (t.conv .a).speed, t.rg.refSent, t.es.env, t.es.margin, t.es.tier1,
          t.es.tier2], t.rg.label)) =
      some ([1245994, 9701, 9341, 10230, 511, 10741, 11252], .decel) := by decide +kernel

/-- Section 5.10 makes no report at s0 about the guide. -/
theorem test_sample_s0_reports_nothing_of_the_guide :
    (after (exec (sampled (.word 1500000 false)) worked)).map
        (fun t => [FaultKind.overspeed, .envelopeExceeded, .overtravel, .overwind, .overwindApproach].map
          t.isPending) = some [false, false, false, false, false] := by decide +kernel

/-- The edge of mark 2 of section 2.10, 2,000 µs after s0. -/
theorem test_mark_edge :
    let m : Mark := { conv := .a, depth := 1246400, facing := .down, line := 7 }
    let s : State := { worked with
      ds := { worked.ds with desc := { shaft with marks := shaft.marks.setIfInBounds 2 (some m) } }
      pm := { worked.pm with convs := worked.pm.convs.set .a { worked.conv .a with depth := 1245994 } } }
    (after (exec (.markEdge { micros := 2000, quiet := [] } 7 0) s)).map
        (fun t => ((t.conv .a).correction, (t.conv .a).depth, t.passage 2)) =
      some (387, 1246381, .taken) := by decide +kernel

/-- Sample s2 of section 2.10: the first of a run. -/
theorem test_sample_extrapolates :
    let s : State := { worked with
      lines := { ready with brakeApplied := false }
      pm := { worked.pm with
        drums := worked.pm.drums.set .a
          { resetDrumModel with paidOut := 1244148507000, lastValid := some (1500057, 0) }
        convs := worked.pm.convs.set .a { worked.conv .a with depth := 1246429, correction := 387 } } }
    (after (exec (sampled .missing) s)).map
        (fun t => ((t.drum .a).paidOut, (t.conv .a).depth, (t.conv .a).certainty, (t.conv .a).degraded)) =
      some (1244197012000, 1246478, .degraded, 1) := by decide +kernel

/-- Sample s5 of section 2.10: the primary returns. -/
theorem test_sample_ends_the_run :
    let s : State := { worked with
      clock := 15000
      efe := { worked.efe with sampleTime := 15000 }
      pm := { worked.pm with
        drums := worked.pm.drums.set .a { resetDrumModel with
          paidOut := 1244294022000, lastValid := some (1500057, 0), run := .run }
        convs := worked.pm.convs.set .a { worked.conv .a with
          depth := 1246575, correction := 387, certainty := .degraded, degraded := 3 } } }
    (after (exec (sampled (.word 1500250 false)) s)).map
        (fun t => ((t.conv .a).depth, (t.conv .a).speed, (t.conv .a).certainty, (t.conv .a).degraded,
          (t.drum .a).run)) =
      some (1246593, 8212, .certain, 0, .none) := by decide +kernel

/-- The cage of section 4.9 after s0. -/
def approaching : State :=
  { worked with
    pm := { worked.pm with convs := worked.pm.convs.set .a { worked.conv .a with depth := 1245994 } }
    rg := { worked.rg with refPrev := 9341 } }

/-- The forced slow point of section 4.9. -/
theorem test_forced_slow_point :
    ((approaching.insertSlow 3 4000 1245994).1.rg.points.map fun p => (p.kind, p.depth)) =
      [(.slow 4000, 1293497), (.stop, 1306000)] := by decide +kernel

/-- The two requests RETARGET of section 4.9: TOO_LATE with s_req and the distance, then OK. -/
theorem test_retarget :
    let ask (level deck : Byte) :=
      (after (exec (.retarget quick 9 (le16 101 ++ [0, level, deck] ++ leInt 0)) approaching)).map
        fun t => (t.link.reply.drop 5).dropLast.dropLast
    ask 5 2 = some (le8 ResultCode.tooLate.code ++ leNat32 60003 ++ leInt 55506) ∧
      ask 8 1 = some (le8 ResultCode.ok.code) ∧
      (approaching.build { trip true with body := .cage .man (.station 8 1) 1420000 }).legTime = 33635 := by
  decide +kernel

/-- A point that the Watch Table places at a record counts for the reference from the next one on, whatever the
order of the blocks (R82), and for the envelope where it is placed before the check (R91, R113): from
the reference 9,360 to the cap 5,000 it lies 41,740 mm ahead, with the envelope isqrt(2 × 900 × 41,740 + 5,000²) of
10,006; from 9,341, 41,503 mm and 9,985. -/
theorem test_forced_slow_point_counts_from_the_next_record :
    let w : WatchEntry :=
      { conv := .a, depth := 1245990, facing := .down, binding := .forced, action := .slow 5000,
        persistence := .always, trip := none, bound := none }
    let s : State := { worked with
      wt := State.reset.wt.setIfInBounds 3 (some w)
      pm := { worked.pm with convs := worked.pm.convs.set .a { worked.conv .a with depth := 1245945 } } }
    let drawn (order : List SampleBlock) :=
      (after (exec (.sample { micros := 5000, quiet := [] }
        ⟨⟨.word 1500000 false, .word 0 false⟩, ⟨.missing, .missing⟩⟩ order) s)).map
          fun t => (t.rg.refPrev, t.es.env, t.rg.points.length)
    drawn [.watch, .reference, .envelope, .clutch, .executive] = some (9341, 10006, 2) ∧
      drawn [.reference, .watch, .envelope, .clutch, .executive] = some (9341, 9985, 2) ∧
      drawn [.reference, .envelope, .watch, .clutch, .executive] = some (9341, 10230, 2) := by decide +kernel

/-- A cap at the reference 4,000 places the point at the crossing. Taken before the reference, which rises to
4,003, the point would put env at 4,000: env is that of the plan found (R79). Taken after it, the point lies
ceil(24,009 / 1,500) = 17 mm ahead, with the envelope isqrt(1,800 × 17 + 4,000²) of 4,003. -/
theorem test_reference_never_exceeds_the_envelope_of_its_record :
    let w : WatchEntry :=
      { conv := .a, depth := 1245990, facing := .down, binding := .forced, action := .slow 4000,
        persistence := .always, trip := none, bound := none }
    let s : State := { worked with
      wt := State.reset.wt.setIfInBounds 3 (some w)
      rg := { worked.rg with refPrev := 4000 }
      pm := { worked.pm with
        drums := worked.pm.drums.set .a { resetDrumModel with lastValid := some (1499977, 0) }
        convs := worked.pm.convs.set .a { worked.conv .a with depth := 1245945 } } }
    let drawn (order : List SampleBlock) :=
      (after (exec (.sample { micros := 5000, quiet := [] }
        ⟨⟨.word 1500000 false, .word 0 false⟩, ⟨.missing, .missing⟩⟩ order) s)).map
          fun t => (t.rg.refPrev, t.es.env, t.rg.points.length)
    drawn [.watch, .reference, .envelope, .clutch, .executive] = some (4003, 10230, 2) ∧
      drawn [.watch, .envelope, .reference, .clutch, .executive] = some (4003, 10230, 2) ∧
      drawn [.reference, .watch, .envelope, .clutch, .executive] = some (4003, 4003, 2) := by decide +kernel

/-- A tagged slow point at the stop point's own depth is no point of the leg (R71). -/
theorem test_slow_point_at_the_stop_is_not_of_the_leg :
    let slow : PlanPoint := { kind := .slow 200, depth := 1306000, origin := .tagged, watchId := some 1 }
    legOf (placePoint .down slow points) = points ∧ (placePoint .down slow points).length = 3 := by
  decide +kernel

/-- Both primaries lost at one record of a MAN trip: two strict runs, though the first report ends the trip
(R38). -/
theorem test_both_runs_of_one_record_are_strict :
    let s : State := { worked with lines := { ready with brakeApplied := false } }
    (after (exec (.sample quick ⟨⟨.missing, .missing⟩, ⟨.missing, .missing⟩⟩ []) s)).map
        (fun t => (t.te.winder, t.isPending .sampleInvalidStrict, t.isPending .sampleInvalid,
          (t.fm.counts.toList[FaultKind.sampleInvalidStrict.idx]?).getD 0)) =
      some (.tripped, true, false, 2) := by decide +kernel

/-- The unit times of TRIP_OVERTIME are carried unsigned (R104). -/
theorem test_overtime_items_are_unsigned :
    let r : Report :=
      { kind := .tripOvertime, subject := 1, item1 := 4294967295, item2 := 2147483648, item3 := 0 }
    ((at_ .idle).report r).fm.first.map (fun f => (f.v2.toNat, f.v3.toNat)) =
      some (4294967295, 2147483648) := by decide +kernel

/-- A drum that slips on below the standstill threshold takes a new baseline at once (R109). -/
theorem test_slipping_drum_takes_a_new_baseline :
    let s : State := { at_ .idle with
      pm := { (at_ .idle).pm with drums := ⟨{ resetDrumModel with paidOut := 51000000 }, resetDrumModel⟩ }
      es := { State.reset.es with motion := ⟨some 0, some 0⟩ } }
    (s.takeEnvelope 0 s.rg).isPending .unexpectedMotion = true ∧
      (s.takeEnvelope 0 s.rg).es.motion.a = some 51000000 := by decide +kernel

/-- CLUTCH_IN of section 8.11: refused at r = 704 with the rise and the fall, accepted at r = 1,014. -/
theorem test_clutch_in :
    let counts (a b : Int) : State := { at_ .idle with
      cc := { resetClutch with state := .released, read := true }
      lines := { ready with clutchClosed := false, clutchOpen := true }
      efe := { State.reset.efe with drums :=
        ⟨{ counting with primary := { counting.primary with count := a } },
         { counting with primary := { counting.primary with count := b } }⟩ } }
    let ask (a b : Int) := (after (exec (.clutchIn quick 9 []) (counts a b))).map
      fun t => ((t.link.reply.drop 5).dropLast.dropLast, t.cc.state)
    ask 1200000 1800000 =
        some (le8 ResultCode.notAligned.code ++ leInt 704 ++ leInt 304 ++ leInt 688, .released) ∧
      ask 1200310 1800000 =
        some (le8 ResultCode.accepted.code ++ le8 ClutchState.engaging.code ++ leInt 1014, .engaging) := by
  decide +kernel

/-- The discrepancy of section 8.12 after 166,999 counts, which is allowed, and after 167,000. -/
theorem test_discrepancy :
    let wound (n : Int) : State := { at_ .idle with
      pm := { (at_ .idle).pm with drums :=
        ⟨{ resetDrumModel with paidOut := paidOut layersA (1200000 + n) },
         { resetDrumModel with paidOut := paidOut layersB (1800000 - n) }⟩ }
      cc := { resetClutch with discrepancy := some (988800000000, 1498800000000), read := true } }
    (wound 166999).takeClutch.isPending .drumDiscrepancy = false ∧
      (wound 167000).takeClutch.isPending .drumDiscrepancy = true := by decide +kernel

/-! ### What meets the hypotheses of each statement -/

theorem witness_StepTakesFrontCommandOrIdles : State.reset.pending = [] := by decide +kernel

/-- Each state of the receiver and of the reply, with the lengths 1, 2, 202 and 203. -/
theorem witness_ReceiverAndReplyStates :
    let gathering (bs : List Byte) : State :=
      { at_ .idle with link := { resetLink with receive := .receiving, buffer := bs } }
    let replying (r : ReplyState) : State := { at_ .idle with link := { resetLink with replyState := r } }
    State.reset.te.winder = .checking ∧ (replying .sending).link.replyState = .sending ∧
    (replying .pending).link.replyState = .pending ∧ (at_ .idle).te.winder ≠ .checking ∧
    (at_ .idle).link.replyState ≠ .sending ∧ (at_ .idle).link.receive = .hunting ∧
    (gathering [0xA5]).link.receive = .receiving ∧ (gathering [0xA5]).link.replyState ≠ .sending ∧
    ((gathering [0xA5]).link.buffer ++ [1]).length < 3 ∧
    ((gathering [0xA5, 1]).link.buffer ++ [203]).length = 3 ∧
    (((gathering [0xA5, 1]).link.buffer ++ [1]).getD 2 0).toNat < 2 ∧
    202 < (((gathering [0xA5, 1]).link.buffer ++ [203]).getD 2 0).toNat ∧
    2 ≤ (((gathering [0xA5, 1]).link.buffer ++ [2]).getD 2 0).toNat ∧
    (((gathering [0xA5, 1]).link.buffer ++ [202]).getD 2 0).toNat ≤ 202 ∧
    ((gathering [0xA5, 1]).link.buffer ++ [2]).length < 2 + 5 ∧
    ((gathering [0xA5, 1, 2, 3, 4]).link.buffer ++ [5]).length < 2 + 5 := by decide +kernel

/-- A listening unit, a payload of 200 bytes, a foreign address and a spoilt check value. -/
theorem witness_WholeFrameIsTakenAndADamagedOneIsNot :
    (at_ .idle).listens ∧ (at_ .idle).link.address < 256 ∧ (List.replicate 200 (0 : Byte)).length ≤ 200 ∧
    255 ≠ (at_ .idle).link.address ∧ 1 = (at_ .idle).link.address ∧
    le16 (crc16 (le8 1 ++ le8 2 ++ [7, 2] ++ [])).toNat ≠ [0, 0] ∧
    le16 (crc16 (le8 1 ++ le8 2 ++ [7, 2] ++ [])).toNat = [0xC1, 0x25] := by
  unfold State.listens; decide +kernel

theorem witness_PortChecksKindThenFormThenClass :
    let waiting : State := { at_ .idle with link := { resetLink with replyState := .pending } }
    (at_ .idle).takesFrame = true ∧ 0x7F ∉ requestKinds ∧ 0x80 ∉ requestKinds ∧
    waiting.takesFrame = false ∧ (at_ .checking).takesFrame = false ∧ sized 0 [1] = false ∧
    sized 0 [] = true ∧ classRefusal .stood (at_ .idle).te.winder = some .notStoodDown ∧
    classRefusal .service (at_ .stoodDown).te.winder = some .notInService ∧
    classRefusal .service (at_ .lockedOut).te.winder = some .locked ∧
    classRefusal .any (at_ .lockedOut).te.winder = none := by decide +kernel

theorem witness_UntakenAndRefusedRequestsChangeNothing :
    (at_ .idle).takesFrame = true ∧ ((at_ .idle).request 0x7F 7 []).resultByte ≠ 0x00 ∧
    ((at_ .idle).request 0x7F 7 []).resultByte ≠ 0x01 ∧ (at_ .checking).takesFrame = false := by
  decide +kernel

/-- The last value inside each range and the first outside it. -/
theorem witness_QuestionsAnswerOrRefuseTheirParameter :
    (at_ .idle).takesFrame = true ∧ (at_ .idle).admits .service = true ∧ (15 : Byte).toNat ≤ 15 ∧
    (47 : Byte).toNat < 48 ∧ (23 : Byte).toNat < 24 ∧ 15 < (16 : Byte).toNat ∧ 48 ≤ (48 : Byte).toNat ∧
    24 ≤ (24 : Byte).toNat ∧ (0 : Byte) ≠ 1 ∧ (0 : Byte) ≠ 2 ∧ (3 : Byte) ≠ 1 ∧ (3 : Byte) ≠ 2 ∧
    (16 : Byte) ≠ 0xFF := by decide +kernel

theorem witness_IdentityAndStatusFields :
    let s := worked
    resetLink.address < 256 ∧ s.takesFrame = true ∧ s.activeId < 2 ^ 16 ∧ s.es.tier2 < 2 ^ 16 ∧
    s.es.env ≤ s.es.tier2 ∧
    s.es.margin ≤ s.es.tier2 ∧ s.es.tier1 ≤ s.es.tier2 ∧ s.link.events.length ≤ 32 ∧
    (depthInRange (s.conv .a).depth = true ∧ mag (s.conv .a).speed ≤ 65535) ∧
    (depthInRange (s.conv .b).depth = true ∧ mag (s.conv .b).speed ≤ 65535) ∧
    mag s.rg.refSent ≤ 65535 ∧ mag s.distanceToGo < 2 ^ 31 := by decide +kernel

/-- The ends of the fields: a record at its limits, a full count, and a log with a later record. -/
theorem witness_RepliesCarryWhatTheyShow :
    let far (x : Int) : State := { at_ .idle with
      pm := { State.reset.pm with convs := ⟨{ placed with depth := x, degraded := 2 ^ 32 - 1 }, placed⟩ } }
    let late : LaterFault := { kind := .gateOpen, severity := 3, time := 2 ^ 32 - 1, depth := -2 ^ 31, trip := none }
    let f : FaultManager := { resetFaults with later := List.replicate 15 late }
    let w : WatchEntry :=
      { conv := .b, depth := -200000, facing := .up, binding := .tagged, action := .slow 65535,
        persistence := .always, trip := some 65535, bound := some (.slow, 3400000) }
    ((far (-2 ^ 31)).conv .a).depth = -2 ^ 31 ∧ ((far 0).conv .a).degraded < 2 ^ 32 ∧
    ((far 0).front .a).offset = none ∧ ((far 0).drum .a).paidOut.tdiv 1000000 < 2 ^ 31 ∧
    ({ trip true with id := 65535, override := some 65535 } : TripRecord).id < 2 ^ 16 ∧
    (trip true).body = .cage .man (.station 5 1) 1306000 ∧
    (cycles .toPocket 2).body = .skip 20 21 2 2 .toPocket ∧ 0 < [trip true].length ∧
    (∀ n ∈ resetFaults.counts.toList, n ≤ 255) ∧ f.later.length ≤ 15 ∧ late.time < 2 ^ 32 ∧
    w.trip.getD 0 < 2 ^ 16 ∧ depthInRange w.depth = true ∧ w.action = .slow 65535 ∧ 65535 < 2 ^ 16 ∧
    w.bound = some (.slow, 3400000) ∧ depthInRange 3400000 = true ∧ 0 < [(15, w)].length ∧
    late.trip.getD 0 < 2 ^ 16 ∧ f.first = none ∧ 8 - 1 + 7 < f.later.length := by decide +kernel

theorem witness_TakeEventsCarriesTheOldestRecords :
    let r : EventRecord :=
      { kind := .fault, trip := 65535, time := 2 ^ 32 - 1, v1 := 0, v2 := 0, v3 := 0, v4 := 0 }
    r.trip < 2 ^ 16 ∧ r.time < 2 ^ 32 ∧ (at_ .idle).takesFrame = true ∧ 8 < (9 : Byte).toNat ∧
    1 ≤ (1 : Byte).toNat ∧ (8 : Byte).toNat ≤ 8 := by decide +kernel

/-- One kind pending, ENCODER_DISAGREE pending, and none pending. -/
theorem witness_AcknowledgementAndClearingOfTheLog :
    let marked (k : FaultKind) : State := { at_ .idle with
      fm := { resetFaults with pending := resetFaults.pending.setIfInBounds k.idx true } }
    (at_ .idle).takesFrame = true ∧ (marked .gateOpen).isPending .gateOpen = true ∧
    (marked .encoderDisagree).isPending .encoderDisagree = true ∧
    (at_ .idle).pendingKinds = [] ∧ 31 < (32 : Byte).toNat ∧ (32 : Byte) ≠ 0xFF ∧
    31 < (254 : Byte).toNat ∧ (254 : Byte) ≠ 0xFF := by decide +kernel

/-- A full label, four layers, a skip and the default limits are in range. -/
theorem witness_RecordsReadBack :
    let twelve : Level := { place .station .a 3400000 with label := List.replicate 12 0x7E }
    let full : Drum := { sense := .minus, tolerance := 1000, layers :=
      [⟨0, 824000⟩, ⟨1, 824000⟩, ⟨2, 824000⟩, ⟨3, 824000⟩] }
    let entry : WatchEntry :=
      { conv := .a, depth := -200000, facing := .up, binding := .tagged, action := .slow 100,
        persistence := .once, trip := some 65535, bound := none }
    LevelInRange twelve ∧ depthInRange mark.depth = true ∧ DrumInRange full ∧ ConveyanceInRange .b skip ∧
    LimitsInRange defaultLimits ∧ depthInRange entry.depth = true ∧ entry.bound = none ∧
    (∃ t, entry.trip = some t ∧ 1 ≤ t ∧ t ≤ 65535) := by
  refine ⟨?_, by decide, ?_, ?_, ?_, by decide, rfl, 65535, rfl, by decide, by decide⟩
  · unfold LevelInRange; decide +kernel
  · unfold DrumInRange; decide +kernel
  · unfold ConveyanceInRange
    refine ⟨by decide, by decide, by decide, by decide, by decide, by decide, by decide, by decide, ?_⟩
    show _ ≤ _ ∧ _ ≤ _ ∧ _ ≤ _ ∧ _ ≤ _
    decide
  · unfold LimitsInRange; decide +kernel

/-- A record of each kind that is read; for each request a payload of its form with the first value outside the
range of its place, code, record or value. -/
theorem witness_OnlyRecordsInRangeAreRead :
    let deep (d : Int) : List Byte := levelBytes 47 (some { gated with depth := d })
    (levelOf (levelBytes 0 (some gated))).isSome = true ∧ (markOf (markBytes 0 (some mark))).isSome = true ∧
    (drumOf (drumBytes .a shaft.drums.a)).isSome = true ∧
    (conveyanceOf .a (conveyanceBytes .a cage)).isSome = true ∧
    (limitsOf (limitsBytes defaultLimits)).isSome = true ∧
    (watchOf (watchEntryBytes 0
      { conv := .a, depth := 0, facing := .up, binding := .forced, action := .stop, persistence := .once,
        trip := none, bound := none })).isSome = true ∧
    (at_ .stoodDown).admits .stood = true ∧ (at_ .stoodDown).ds.storeState = .idle ∧
    formPutLevel (levelBytes 48 none) = true ∧ 47 < octet (levelBytes 48 none) 0 ∧
    formPutLevel (deep 3400001) = true ∧ octet (deep 3400001) 1 ≠ 0 ∧ levelOf (deep 3400001) = none ∧
    formPutMark (markBytes 24 none) = true ∧ 23 < octet (markBytes 24 none) 0 ∧
    octet (markBytes 0 (some { mark with depth := -200001 })) 1 ≠ 0 ∧
    markOf (markBytes 0 (some { mark with depth := -200001 })) = none ∧
    formPutDrum (drumBytes .a { emptyDrum with tolerance := 1001 }) = true ∧
    drumOf (drumBytes .a { emptyDrum with tolerance := 1001 }) = none ∧
    formPutConveyance (conveyanceBytes .b cage) = true ∧ octet (conveyanceBytes .b cage) 0 = Conv.code .b ∧
    conveyanceOf .b (conveyanceBytes .b cage) = none ∧
    (limitsBytes { defaultLimits with samplePeriod := 21 }).length = 80 ∧
    limitsOf (limitsBytes { defaultLimits with samplePeriod := 21 }) = none ∧
    31 < octet [32, 0] 0 ∧ octet [0, 0] 0 = 0 ∧ 3 < octet [1, 4] 1 := by decide +kernel

/-- The last places; a level beside no other and a level beside the bank; a mark on a line of its own and
on one that is taken. -/
theorem witness_PutLevelAndPutMarkWriteThePlace :
    let s := at_ .stoodDown
    let bare : State := { s with ds := { s.ds with desc := emptyDescription } }
    s.admits .stood = true ∧ s.ds.storeState = .idle ∧ LevelInRange (place .bank .a 999) ∧
    s.levelNear 47 (place .bank .a 999) ∧ ¬ bare.levelNear 47 (place .bank .a 0) ∧
    depthInRange mark.depth = true ∧ s.mark 2 = some mark ∧ (2 : Nat) ≠ 23 ∧
    (∀ j m', j ≠ 23 → bare.mark j = some m' → m'.line ≠ mark.line) := by
  have none_at {α : Type} (n j : Nat) : tableGet (Vector.replicate n (none : Option α)) j = none := by
    unfold tableGet
    by_cases h : j < n <;> simp [h]
  refine ⟨by decide, by decide, ?_, ⟨0, place .bank .a 0, by decide, by decide +kernel, rfl, by decide⟩, ?_,
    by decide, by decide +kernel, by decide, ?_⟩
  · unfold LevelInRange; decide +kernel
  · rintro ⟨j, l', -, h, -⟩
    exact absurd ((none_at 48 j).symm.trans h) (by simp)
  · intro j m' _ h
    exact absurd ((none_at 24 j).symm.trans h) (by simp)

theorem witness_PutDrumConveyanceLimitsAndSeverity :
    (at_ .stoodDown).admits .stood = true ∧ (at_ .stoodDown).ds.storeState = .idle ∧
    DrumInRange shaft.drums.a ∧ ConveyanceInRange .a cage ∧
    LimitsInRange { defaultLimits with vDesign := 10000 } := by
  refine ⟨by decide, by decide, ?_, ?_, ?_⟩
  · unfold DrumInRange; decide +kernel
  · unfold ConveyanceInRange
    refine ⟨by decide, by decide, by decide, by decide, by decide, by decide, by decide, by decide, ?_⟩
    show _ ≤ _ ∧ _ ≤ _ ∧ _ ≤ _ ∧ _ ≤ _
    decide
  · unfold LimitsInRange; decide +kernel

/-- A write in progress, with payloads of each form; a description that passes and one that fails. -/
theorem witness_CommitWritesTheStore :
    let s := at_ .stoodDown
    let writing : State := { s with ds := { s.ds with storeState := .writing } }
    let bare : State := { s with ds := { s.ds with desc := emptyDescription } }
    writing.admits .stood = true ∧ writing.ds.storeState = .writing ∧
    formPutLevel (levelBytes 0 (some gated)) = true ∧ formPutMark (markBytes 0 (some mark)) = true ∧
    formPutDrum (drumBytes .a shaft.drums.a) = true ∧ formPutConveyance (conveyanceBytes .a cage) = true ∧
    (limitsBytes defaultLimits).length = 80 ∧ s.ds.storeState = .idle ∧ validate s.ds.desc = none ∧
    validate bare.ds.desc = some (1, 0xFF) := by decide +kernel

/-- A description that fails each of the six checks. -/
theorem witness_ValidationStopsAtTheFirstFailure :
    let with_ (i : Nat) (l : Level) : Description :=
      { shaft with levels := shaft.levels.setIfInBounds i (some l) }
    validate shaft = none ∧ validate emptyDescription = some (1, 0xFF) ∧
    validate { shaft with levels := shaft.levels.setIfInBounds 20 none } = some (2, 0xFF) ∧
    validate (with_ 9 (place .station .a 3322000)) = some (3, 9) ∧
    validate { shaft with marks := shaft.marks.setIfInBounds 4 (some { mark with depth := -12000 }) } =
      some (4, 4) ∧
    validate { shaft with drums := ⟨shaft.drums.a, emptyDrum⟩ } = some (5, 2) ∧
    validate { shaft with convs := ⟨cage, { skip with decks := 2 }⟩ } = some (6, 0xFF) := by decide +kernel

theorem witness_DescriptionChangesOnlyStoodDown :
    exec (.attnPulseEnd quick) (at_ .idle) = .next ((at_ .idle).elapse quick) ∧
    (at_ .idle).te.winder ≠ .stoodDown ∧ (at_ .idle).te.winder ≠ .checking :=
  ⟨rfl, by decide, by decide⟩

/-- Each outcome of the self check and the loop; each state of the stored copy. -/
theorem witness_PowerOnResetsAndLoads :
    let up (test : Option Nat) (made now : Bool) : PowerUp :=
      { lines := { ready with emergencyIn := made }, addrStrap := 31, baudStrap := true, selfCheck := test,
        loadNow := now }
    let holding (c : StoredCopy) : State := { State.reset with ds := { State.reset.ds with stored := c } }
    (up none true false).selfCheck = none ∧ (up none true false).lines.emergencyIn = true ∧
    (up none true false).loadNow = false ∧ (up (some 1) true false).selfCheck = some 1 ∧
    (up none false false).lines.emergencyIn = false ∧ (up none true true).loadNow = true ∧
    (holding (.valid shaft)).te.winder = .checking ∧ (holding (.valid shaft)).ds.stored = .valid shaft ∧
    (holding .blank).ds.stored = .blank ∧ (holding .unchecked).ds.stored = .unchecked := by decide +kernel

/-- CHECKING with a kind of severity 3 pending, with one of severity 2, and with none; the load and the reading
made, and not made, with the switches in each position. -/
theorem witness_CheckingReadsTheClutchAndEnds :
    let marked (k : FaultKind) : State := { at_ .checking with
      fm := { resetFaults with pending := resetFaults.pending.setIfInBounds k.idx true } }
    (at_ .checking).ds.loaded = true ∧ (at_ .checking).cc.read = true ∧
    (at_ .checking).activeHead = none ∧ (at_ .checking).pendingKinds = [] ∧
    (marked .storeInvalid).isPending .storeInvalid = true ∧
    (marked .storeInvalid).severity .storeInvalid = 3 ∧ (marked .emergencyInput).severity .emergencyInput = 2 ∧
    (marked .emergencyInput).pendingKinds = [.emergencyInput] ∧
    State.reset.te.winder = .checking ∧ State.reset.cc.read = false ∧ State.reset.ds.loaded = false ∧
    State.reset.activeHead = none ∧ State.reset.lines.clutchOpen = false ∧
    State.reset.lines.clutchClosed = false ∧ (at_ .checking).lines.clutchClosed = true ∧
    (at_ .checking).lines.clutchOpen = false := by decide +kernel

theorem witness_PaidOutSumsThePitchesAndStandstill :
    layersWellFormed layersA = true ∧ layersWellFormed [⟨0, 824000⟩] = true ∧ (-1 : Int) < 0 := by
  decide +kernel

/-- The greatest and the least raw count that a valid head delivers. -/
theorem witness_SampleMeasuresTheRope :
    let heads : Heads := ⟨⟨.word 0x7FFFFFFF false, .word 0x80000001 false⟩, ⟨.missing, .missing⟩⟩
    heads.primary.get .a = .word 0x7FFFFFFF false ∧ (0x7FFFFFFF : Word32) ≠ 0x80000000#32 ∧
    heads.primary.get .b = .word 0x80000001 false ∧ (0x80000001 : Word32) ≠ 0x80000000#32 := by
  decide +kernel

/-- A missing word, a word with an error and the word that is never valid; a speed at the threshold and one
above it; a run at its allowance, above it, and LOST; a strict trip and none. -/
theorem witness_InvalidSampleHoldsExtrapolatesOrIsLost :
    let heads : Heads := ⟨⟨.missing, .word 0 true⟩, ⟨.missing, .missing⟩⟩
    let moving (v : Int) (n : Nat) (r : RunState) : State := { at_ .winding with
      pm := { State.reset.pm with
        drums := ⟨{ resetDrumModel with run := r }, resetDrumModel⟩
        convs := ⟨{ placed with speed := v, degraded := n }, placed⟩ } }
    heads.primary.get .a = .missing ∧ heads.primary.get .b = .word 0 true ∧
    mag ((moving 20 0 .none).conv .a).speed ≤ (moving 20 0 .none).limits.standstill ∧
    (moving 20 0 .none).lines.brakeApplied = true ∧
    (moving 21 0 .none).limits.standstill < mag ((moving 21 0 .none).conv .a).speed ∧
    resetLines.brakeApplied = false ∧
    ((moving 21 5 .lost).drum .a).run = .lost ∧ ((moving 21 5 .lost).drum .a).heldLast = false ∧
    ((moving 21 5 .run).drum .a).run = .run ∧ (moving 21 5 .run).limits.nDeg < ((moving 21 5 .run).conv .a).degraded ∧
    ((moving 21 4 .run).conv .a).degraded ≤ (moving 21 4 .run).limits.nDeg ∧
    (moving 21 4 .run).limits.nDeg < ((moving 21 4 .run).conv .a).degraded + 1 ∧
    ((moving 21 4 .run).conv .a).certainty ≠ .uncertain ∧ (State.reset.front .a).primary.valid = false ∧
    (busy .winding (trip true)).activeHead = some (trip true) ∧ (trip true).body.mode = .man ∧
    (moving 21 0 .none).activeHead = none := by decide +kernel

/-- The mark's line; a passage at the threshold, above it, UNCERTAIN with the primary valid and not, and an
error at the window and beyond it. At a record: the far line crossed and not, and each return to ARMED. -/
theorem witness_MarkEdgeCorrectsOrSetsTheDatum :
    let s (v d : Int) (c : Certainty) : State := { at_ .winding with
      pm := { State.reset.pm with convs := ⟨{ placed with speed := v, depth := d, certainty := c }, placed⟩ } }
    let record (v d p : Int) (x : Passage) : State := { at_ .winding with
      pm := { State.reset.pm with
        convs := ⟨{ placed with speed := v, depth := d, prevDepth := p }, placed⟩
        passage := State.reset.pm.passage.setIfInBounds 2 x } }
    let crossed := (record 21 3501 3500 .armed).conv .a
    let short := (record 21 3500 3499 .armed).conv .a
    let blind : State := { s 21 3000 .uncertain with efe := State.reset.efe }
    (s 20 0 .certain).markOnLine 7 = some (2, mark) ∧
    (∀ x ∈ tableEntries (s 20 0 .certain).ds.desc.marks, x.2.line ≠ 6) ∧
    mag ((s 20 0 .certain).conv .a).speed ≤ (s 20 0 .certain).limits.standstill ∧
    (s 21 0 .certain).limits.standstill < mag ((s 21 0 .certain).conv .a).speed ∧
    (s 21 0 .certain).passage 2 ≠ .taken ∧ mark.facing = .either ∧
    ((s 21 3000 .uncertain).conv .a).certainty = .uncertain ∧
    ((s 21 3000 .uncertain).front .a).primary.valid = true ∧ (blind.front .a).primary.valid = false ∧
    mag (mark.depth - ((s 21 2500 .certain).conv .a).depth) ≤ (s 21 0 .certain).limits.captureWindow ∧
    (s 21 0 .certain).limits.captureWindow < mag (mark.depth - ((s 21 2499 .certain).conv .a).depth) ∧
    (record 21 0 0 .armed).mark 2 = some mark ∧ (record 21 0 0 .armed).mark 3 = none ∧
    (record 21 0 0 .armed).passage 2 = .armed ∧ (record 21 0 0 .taken).passage 2 ≠ .armed ∧
    crossed.certainty = .certain ∧ crossed.prevDepth ≤ mark.depth + 500 ∧ mark.depth + 500 < crossed.depth ∧
    ¬ mark.depth + 500 < short.depth ∧ (record 21 0 0 .armed).limits.captureWindow = 500 ∧
    mag ((record 20 0 0 .taken).conv .a).speed ≤ (at_ .winding).limits.standstill ∧
    0 < ((record 21 0 0 .taken).conv .a).speed := by decide +kernel

/-- Each state of the two channels, of the offset and of the marks; a difference at the tolerance and beyond
it; a return of the primary. -/
theorem witness_CrossCheckAndTheReturnOfThePrimary :
    let front (n : Int) (p k : Bool) (o : Option Int) (d l : Bool) : DrumFront :=
      { primary := { resetHead with valid := p, count := n }, check := { resetHead with valid := k }
        offset := o, disagree := d, checkLost := l }
    let s (f : DrumFront) : State := { at_ .winding with efe := { State.reset.efe with drums := ⟨f, counting⟩ } }
    let present (f : DrumFront) := ((s f).front .a).primary.count - ((s f).front .a).check.count
    ((s (front 0 true false none false false)).front .a).check.valid = false ∧
    ((s (front 0 true false none false true)).front .a).checkLost = true ∧
    ((s (front 0 false true none false false)).front .a).check.valid = true ∧
    ((s (front 0 true true none true true)).front .a).offset = none ∧
    mag (present (front 64 true true (some 0) false false) - 0) ≤ (shaft.drums.get .a).tolerance ∧
    ¬ mag (present (front 65 true true (some 0) true false) - 0) ≤ (shaft.drums.get .a).tolerance ∧
    ((s (front 65 true true (some 0) true false)).front .a).disagree = true ∧
    ((s (front 65 true true (some 0) true false)).front .a).primary.valid = true := by decide +kernel

/-- The ends of the depth range and of the field. -/
theorem witness_SetDatumFixesThePosition :
    (at_ .stoodDown).takesFrame = true ∧ (-2 : Int) ^ 31 ≤ -200000 ∧ (-2 : Int) ^ 31 ≤ -2 ^ 31 ∧
    (3400000 : Int) < 2 ^ 31 ∧ (47 : Nat) < 2 ^ 32 ∧ (0 : Byte) ≠ 1 ∧ (0 : Byte) ≠ 2 ∧
    (at_ .stoodDown).level 0 = some (place .bank .a 0) ∧ (at_ .stoodDown).level 1 = none ∧
    (at_ .stoodDown).level 20 = some (place .pocket .b 3290000) := by decide +kernel

/-- A moving state before the land window and inside it, near the stop point and far from it, and one at rest. -/
theorem witness_ReferenceOfASampleRecord :
    let near : State := { approaching with
      pm := { approaching.pm with convs := approaching.pm.convs.set .a { placed with depth := 1304000 } } }
    approaching.te.winder.moving = true ∧ approaching.rg.latch = false ∧
    approaching.limits.landWindow < approaching.distanceToGo ∧
    approaching.limits.dCreep < approaching.distanceToGo ∧ near.distanceToGo = near.limits.dCreep ∧
    ({ approaching with rg := { approaching.rg with latch := true } }).rg.latch = true ∧
    (∀ p ∈ points.take 1, p.isStop = false) ∧ (∀ p ∈ points.drop 1, p.isStop = true) ∧
    (at_ .idle).te.winder.moving = false := by decide +kernel

theorem witness_ReferenceStaysUnderTheEnvelopeAndItsTiers :
    worked.te.winder.moving = true ∧ worked.limits.aDec ≤ worked.limits.aRet ∧
    worked.rg.refPrev ≤ worked.rg.limit ∧
    (after (exec (sampled (.word 1500000 false)) worked)).map (fun t => t.te.winder.moving) = some true := by
  decide +kernel

/-- A Sample record in WINDING sends a message with RUN, and one in IDLE a message without. -/
theorem witness_DriveMessagesCountOn :
    (after (exec (sampled (.word 1500000 false)) worked)).map (fun t => t.rg.sent.map DriveMessage.run) =
        some [true] ∧
      (after (exec (sampled (.word 0 false)) (at_ .idle))).map (fun t => t.rg.sent.map DriveMessage.run) =
        some [false] ∧
      ({ seq := 255, ref := -65535, run := true } : DriveMessage).ref < 2 ^ 31 := by decide +kernel

/-- The ends of the fields; an id held, a full queue, and a record that passes. -/
theorem witness_QueueTripAdmitsOrRefuses :
    let full : State := { at_ .idle with tq := List.replicate 12 { trip false with id := 7 } }
    (at_ .idle).admits .service = true ∧ (1 : Nat) ≤ 1 ∧ (65535 : Nat) < 2 ^ 16 ∧ (100 : Nat) ≤ 100 ∧
    (-2 : Int) ^ 31 ≤ 3400000 ∧ (3400000 : Int) < 2 ^ 31 ∧ (255 : Nat) < 256 ∧
    (at_ .idle).tq = [] ∧ 12 ≤ full.tq.length ∧ full.admits .service = true ∧
    (busy .prepared (trip true)).activeHead.isSome = true ∧
    (busy .prepared (trip true)).admits .service = true := by decide +kernel

/-- An absent id, the ACTIVE head and a PENDING record behind it. -/
theorem witness_SkipCyclesAdmittedAndRecordsWithdrawn :
    let s : State := { busy .prepared (cycles .toPocket 2) with tq := [cycles .toPocket 2, trip false] }
    s.admits .service = true ∧ (255 : Nat) < 256 ∧ (∀ r ∈ s.tq, r.id ≠ 65535) ∧
    s.tq = [] ++ cycles .toPocket 2 :: [trip false] ∧ (cycles .toPocket 2).active = true ∧
    s.tq = [cycles .toPocket 2] ++ trip false :: [] ∧ (trip false).active = false ∧
    (∀ q ∈ [cycles .toPocket 2], q.id ≠ (trip false).id) := by decide +kernel

/-- A build while the cage is UNCERTAIN. -/
theorem witness_PlanBuildOrdersItsPointsUnderItsLimit :
    let s : State := { at_ .idle with
      pm := { State.reset.pm with convs := ⟨resetConvModel, placed⟩ } }
    (s.conv .a).certainty = .uncertain ∧ (s.build (trip false)).limit = s.limits.uncertainSpeed ∧
    (s.build (trip false)).points.length ≤ 8 := by decide +kernel

/-- An entry that applies and lies just beyond the land window, one at it, one for another trip, and the two forms
of a leg of section 4.2. -/
theorem witness_BuildBindsTheTaggedEntries :
    let entry (a : WatchAction) (d : Int) (t : Option Nat) : WatchEntry :=
      { conv := .a, depth := d, facing := .down, binding := .tagged, action := a, persistence := .always
        trip := t, bound := none }
    let s (w : WatchEntry) : State := { at_ .idle with wt := State.reset.wt.setIfInBounds 3 (some w) }
    let bound (w : WatchEntry) := (tableGet ((s w).build (trip false)).entries 3).map WatchEntry.bound
    (s (entry .stop 51 none)).watch 3 = some (entry .stop 51 none) ∧
    (s (entry .stop 51 none)).watch 4 = none ∧
    bound (entry .stop 51 none) = some (some (.stop, 51)) ∧ bound (entry .stop 50 none) = some none ∧
    bound (entry (.slow 500) 1305949 (some 101)) = some (some (.slow, 1305949)) ∧
    bound (entry .notify 1306000 none) = some (some (.notify, 1306000)) ∧
    bound (entry .notify 1306001 none) = some none ∧ bound (entry .stop 51 (some 7)) = some none ∧
    ((s (entry .stop 51 none)).build (trip false)).points.dropLast.length = 1 ∧
    defaultLimits.dCreep < (1306000 : Int).toNat ∧ (2000 : Int).toNat ≤ defaultLimits.dCreep := by decide +kernel

theorem witness_ServiceAndModeRequests :
    (at_ .stoodDown).takesFrame = true ∧ (at_ .idle).takesFrame = true ∧
    (at_ .idle).admits .service = true ∧ (at_ .winding).admits .service = true := by decide +kernel

/-- A head that passes every check, and one for each check that it fails. -/
theorem witness_PrepareActivatesTheHead :
    let queued (r : TripRecord) : State := { at_ .idle with tq := [r] }
    let s := queued (trip false)
    let lost : State := { s with pm := { s.pm with convs := ⟨resetConvModel, placed⟩ } }
    let laden : State :=
      { s with pm := { s.pm with convs := ⟨placed, { placed with loadClass := .rock }⟩ } }
    let open_ : State := { s with cc := { s.cc with state := .released } }
    let short : State := { s with pm := { s.pm with convs := ⟨placed, { placed with depth := 1000000 }⟩ } }
    let clear : State := { s with pm := { s.pm with convs := ⟨placed, { placed with depth := 1400000 }⟩ } }
    s.admits .service = true ∧ (101 : Nat) < 2 ^ 16 ∧ s.te.winder = .idle ∧ (at_ .winding).te.winder ≠ .idle ∧
    (at_ .winding).admits .service = true ∧
    (at_ .idle).tq = [] ∧ s.tq = [trip false] ∧ (trip false).id = 101 ∧ (trip false).id ≠ 102 ∧
    (trip false).body.mode = .man ∧ s.cc.state = .engaged ∧ open_.cc.state = .released ∧
    declutchedTrip (trip false).body = false ∧ (s.conv .a).certainty ≠ .uncertain ∧
    (s.conv .b).certainty ≠ .uncertain ∧ (lost.conv .a).certainty = .uncertain ∧
    (laden.convRec .b).kind = .skip ∧ (laden.conv .b).loadClass = .rock ∧
    ¬ (short.convRec .b).top < (short.conv .b).depth - 1306000 ∧
    (clear.convRec .b).top < (clear.conv .b).depth - 1306000 ∧
    (clear.conv .b).depth - 1306000 < (clear.convRec .b).bottom ∧
    (clear.build (trip false)).points.length ≤ 8 ∧ clear.lines.shaftStop = false ∧
    (clear.conv .a).loadClass = .empty ∧ LoadClass.persons ≠ .empty := by decide +kernel

/-- Every state of the tables of START and STOP, with the head's id and another, before a landing and in one. -/
theorem witness_StartAndStopByTheStateTheyFind :
    let states : List WinderState := [.stopping, .winding, .dwell, .preparing, .prepared, .held]
    let landing : State := { busy .winding (trip true) with te := { resetExecutive with
      winder := .winding, rest := .toRest } }
    (∀ w ∈ states, (busy w (trip true)).admits .service = true ∧
      (busy w (trip true)).te.winder.tripActive = true ∧
      (busy w (trip true)).activeHead = some (trip true)) ∧
    (at_ .idle).admits .service = true ∧ (at_ .tripped).admits .service = true ∧
    (trip true).id = 101 ∧ (trip true).id ≠ 102 ∧
    ((busy .held (trip true)).build (trip true)).points.length ≤ 8 ∧
    (busy .winding (trip true)).te.rest = .none ∧ landing.te.rest ≠ .none ∧
    landing.activeHead = some (trip true) := by decide +kernel

/-- A skip, another id, a target that is refused, one behind the guide, one too near and one that fits. -/
theorem witness_RetargetRebuildsThePlan :
    let s := approaching
    let skipping := busy .winding (cycles .toTipple 2)
    let latched : State := { s with rg := { s.rg with latch := true } }
    let deferred : State := { s with te := { s.te with deferred := .request } }
    let distance (t : Target) := s.rg.travel.distance (s.conv .a).depth (s.targetDepth t)
    s.admits .service = true ∧ s.te.winder = .winding ∧ s.te.deferred = .none ∧
    s.activeHead = some (trip true) ∧ (trip true).body.guide = .a ∧ (trip true).id = 101 ∧
    (trip true).id ≠ 65535 ∧ skipping.activeHead = some (cycles .toTipple 2) ∧
    (cycles .toTipple 2).body.guide = .b ∧ deferred.te.deferred ≠ .none ∧
    (busy .stopping (trip true)).te.winder = .stopping ∧ (at_ .idle).te.winder ≠ .winding ∧
    (s.targetRefusal .man (.station 1 1)).isSome = true ∧ s.targetRefusal .man (.station 0 1) = none ∧
    s.targetRefusal .man (.station 8 1) = none ∧ latched.rg.latch = true ∧ s.rg.latch = false ∧
    distance (.station 0 1) ≤ 0 ∧ 0 < distance (.station 8 1) ∧ s.targetRefusal .man (.station 5 2) = none ∧
    0 < distance (.station 5 2) ∧ distance (.station 5 2) < 60003 ∧ 60003 ≤ distance (.station 8 1) ∧
    (s.level 1).isNone = true ∧ s.convRec .a = cage ∧
    ((s.level 8).map fun v => (v.inService, v.modes.permits .man, v.serves)) = some (true, true, .a) ∧
    s.levelDepth 8 = 1420000 ∧ cage.top < 1420000 ∧ 1420000 < cage.bottom ∧ 1 ≤ cage.decks ∧
    s.rg.refPrev ≤ (s.build { trip true with body := .cage .man (.station 8 1) 1420000 }).limit := by
  decide +kernel

/-- Phase SIGNAL with SIGNAL_OK to come and there already; an open supervised gate and none, for a cage trip and
for a record in a dwell. -/
theorem witness_SignalOkEndsTheSignalPhase :
    let s := busy .preparing (trip true)
    let waiting : State := { s with lines := { ready with signalOk := false } }
    let opened : State := { s with lines := { ready with gates := ready.gates.setIfInBounds 3 false } }
    let loading := busy .preparing (cycles .loading 2)
    s.te.winder = .preparing ∧ s.te.phase = .signal ∧ (at_ .idle).te.winder ≠ .preparing ∧
    (waiting.elapse quick).lines.signalOk = false ∧ (s.elapse quick).lines.signalOk = true ∧
    opened.level 5 = some gated ∧ gated.inService = true ∧ gated.gate = some 3 ∧
    opened.lines.gates[3] = false ∧ (∀ g : Fin 16, s.lines.gates[g.val] = true) ∧
    s.activeHead = some (trip true) ∧ dwellOf (trip true).body = none ∧
    loading.activeHead = some (cycles .loading 2) ∧
    dwellOf (cycles .loading 2).body = some .loading ∧
    dwellOf (cycles .dumping 2).body = some .dumping := by decide +kernel

theorem witness_ReadinessDwellAndBrakeTimers :
    let timed (p : Phase) : State := { busy .preparing (trip true) with
      te := { resetExecutive with winder := .preparing, phase := p, readiness := some 5000 } }
    let dwelling (k : DwellKind) : State := { busy .dwell (cycles .loading 2) with
      te := { resetExecutive with winder := .dwell, dwell := k, dwellTimer := some 5000 } }
    let braking : State := { busy .winding (trip true) with
      te := { resetExecutive with winder := .winding, rest := .brakeConfirm, brake := some 5000 } }
    (∀ p ∈ [Phase.signal, .torque, .release, .settle],
      (timed p).te.winder = .preparing ∧ (timed p).te.readiness = some 5000 ∧ (timed p).te.phase = p) ∧
    (cycles .toPocket 2).active = true ∧ (dwelling .loading).tq = [cycles .loading 2] ∧
    (∀ k ∈ [DwellKind.loading, .dumping],
      (dwelling k).te.winder = .dwell ∧ (dwelling k).te.dwellTimer = some 5000 ∧ (dwelling k).te.dwell = k) ∧
    braking.te.brake = some 5000 := by decide +kernel

/-- A landing at each origin of a stop point, and a stop; and a state in which no brake is waited for. -/
theorem witness_BrakesConfirmedEndTheLandingOrStop :
    let braking (w : WinderState) (o : Origin) : State := { busy w (trip true) with
      lines := { ready with brakeApplied := false }
      te := { resetExecutive with winder := w, rest := .brakeConfirm, brake := some 5000 }
      rg := { State.reset.rg with
        plan := some [{ kind := .stop, depth := 1306000, origin := o, watchId := some 3 }] } }
    (∀ o ∈ [Origin.target, .pocket, .tipple, .tagged],
      (braking .winding o).te.rest = .brakeConfirm ∧ (braking .winding o).te.brake.isSome = true ∧
      ((braking .winding o).elapse quick).lines.brakeApplied = false ∧
      (braking .winding o).te.winder = .winding ∧ ((braking .winding o).rg.stop.map PlanPoint.origin) = some o) ∧
    (braking .stopping .target).te.winder = .stopping ∧ (at_ .idle).te.rest ≠ .brakeConfirm := by
  decide +kernel

/-- A landing and a stop at standstill, with BRAKE_APPLIED and without, and one above the threshold, with a LOST run
and without. -/
theorem witness_ExecutiveTestsStandstill :
    let s (w : WinderState) (r : RestStep) (v : Int) (state : RunState) (brake : Bool) : State :=
      { busy w (trip true) with
        lines := { ready with brakeApplied := brake }
        te := { resetExecutive with winder := w, rest := r }
        pm := { State.reset.pm with
          drums := ⟨{ resetDrumModel with run := state }, resetDrumModel⟩
          convs := ⟨{ placed with speed := v }, placed⟩ } }
    let confirming : State := { s .stopping .brakeConfirm 0 .none false with
      te := { resetExecutive with winder := .stopping, rest := .brakeConfirm, brake := some 5000 } }
    (s .winding .toRest 20 .none false).te.brakeExpired = false ∧
    (s .winding .toRest 20 .none false).te.rest = .toRest ∧
    (s .winding .toRest 20 .none false).atStandstill = true ∧
    (s .winding .toRest 20 .none false).lines.brakeApplied = false ∧
    (s .stopping .none 20 .none true).te.rest = .none ∧
    (s .stopping .none 20 .none true).lines.brakeApplied = true ∧
    (s .stopping .none 21 .none true).atStandstill = false ∧
    ((s .stopping .none 21 .lost true).drum .a).run = .lost ∧ (at_ .idle).te.winder ≠ .winding ∧
    (confirming.elapse quick).lines.brakeApplied = false ∧ confirming.te.rest = .brakeConfirm ∧
    confirming.te.brake.isSome = true := by decide +kernel

theorem witness_SkipSignalsEndTheDwell :
    let dwelling (k : DwellKind) (left : Nat) : State := { busy .dwell (cycles .loading left) with
      te := { resetExecutive with winder := .dwell, dwell := k, dwellTimer := some 5000 } }
    ((dwelling .loading 2).elapse quick).lines.skipLoaded = false ∧
    ((dwelling .dumping 1).elapse quick).lines.skipDumped = false ∧
    (at_ .idle).te.winder ≠ .dwell ∧ (dwelling .loading 2).te.winder = .dwell ∧
    (dwelling .loading 2).te.dwell = .loading ∧ (dwelling .dumping 1).te.dwell = .dumping ∧
    (dwelling .loading 2).tq = [cycles .loading 2] ∧ (1 : Nat) - 1 = 0 ∧ (2 : Nat) - 1 ≠ 0 := by
  decide +kernel

theorem witness_RecoveriesAndRestart :
    let locked (key : Bool) (v : Int) : State := { at_ .lockedOut with
      lines := { ready with keyOk := key }
      pm := { State.reset.pm with convs := ⟨{ placed with speed := v }, placed⟩ } }
    (at_ .tripped).takesFrame = true ∧ (at_ .tripped).admits .service = true ∧
    (at_ .tripped).te.winder ≠ .lockedOut ∧ (locked true 0).te.winder = .lockedOut ∧
    (locked true 0).takesFrame = true ∧ (locked false 0).lines.keyOk = false ∧
    (locked true 0).lines.keyOk = true ∧ (locked true 20).atStandstill = true ∧
    (locked true 21).atStandstill = false ∧ (locked true 0).isPending .encoderDisagree = false ∧
    (at_ .tripped).te.winder = .tripped ∧ (at_ .idle).te.winder = .idle ∧ (at_ .idle).takesFrame = true ∧
    (at_ .stoodDown).te.winder = .stoodDown ∧ (at_ .winding).takesFrame = true ∧
    (at_ .winding).te.winder ≠ .tripped := by decide +kernel

theorem witness_ReportIsTakenInSteps :
    ({ at_ .idle with fm := { resetFaults with pending := resetFaults.pending.setIfInBounds 1 true } }
        : State).isPending .overspeed = true ∧ (at_ .idle).isPending .overspeed = false := by decide +kernel

/-- Each severity, with and without a response in force, and an ACTIVE head. -/
theorem witness_ResponseBySeverityAndState :
    let s := busy .winding (trip true)
    let answered (v : Severity) : State := { s with fm := { resetFaults with inForce := some v } }
    s.te.winder ≠ .checking ∧ s.fm.inForce = none ∧ (answered 1).fm.inForce = some 1 ∧ (1 : Severity) < 2 ∧
    ¬ (1 : Severity) < 1 ∧ (answered 2).fm.inForce = some 2 ∧ (2 : Severity) < 3 ∧
    s.te.rest = .none ∧ s.tq = [trip true] ∧ (trip true).active = true ∧ (at_ .idle).activeHead = none := by
  decide +kernel

/-- SHAFT_STOP found asserted, by a response that ends the sequence and, pending already, by none; a certainty held
and another. -/
theorem witness_EventsAndStateChanges :
    let s := busy .idle (trip true)
    let stop : State := { s with lines := { ready with shaftStop := true } }
    let enter (t : State) := ({ t with te := { t.te with phase := .torque } }).enter .preparing .sequence t.activeId
    let told : State := { stop with fm := { resetFaults with
      pending := resetFaults.pending.setIfInBounds (FaultKind.idx .shaftStopSignal) true } }
    s.lines.shaftStop = false ∧ (Phase.torque ≠ .signal) ∧ stop.lines.shaftStop = true ∧
    ((enter stop).report (bare .shaftStopSignal 0)).te.winder ≠ .preparing ∧
    ((enter told).report (bare .shaftStopSignal 0)).te.winder = .preparing ∧ told.lines.shaftStop = true ∧
    (s.conv .a).certainty = .certain ∧ (s.conv .a).certainty ≠ .uncertain := by decide +kernel

theorem witness_TripsEndByTheirRules :
    (busy .winding (trip true)).tq = [trip true] ∧ (trip true).active = true ∧
    (busy .winding (trip false)).tq = [trip false] ∧ (trip false).active = false ∧ (at_ .idle).tq = [] := by
  decide +kernel

/-- A supervised gate, a following error that has just lasted, and a deadline just passed and just not. -/
theorem witness_LinesAndDeadlinesAreReported :
    let s : State := { busy .winding (trip true) with
      efe := { State.reset.efe with sampleTime := 1000000 }
      pm := { State.reset.pm with convs := ⟨{ placed with speed := 1001 }, placed⟩ }
      es := { State.reset.es with follow := some 0, deadline := some 4294967295 } }
    let held : State := { s with lines :=
      { ready with emergencyIn := false, shaftStop := true, gates := ready.gates.setIfInBounds 3 false } }
    (s.elapse quick).lines.emergencyIn = true ∧ (held.elapse quick).lines.emergencyIn = false ∧
    (s.elapse quick).lines.shaftStop = false ∧ (held.elapse quick).lines.shaftStop = true ∧
    (s.elapse quick).lines.gates[3] = true ∧ (held.elapse quick).lines.gates[3] = false ∧
    s.te.winder = .winding ∧ (at_ .idle).te.winder ≠ .winding ∧ s.level 5 = some gated ∧
    gated.inService = true ∧ gated.gate = some 3 ∧
    s.limits.followLimit < mag (s.guideSpeed - s.es.refInForce) ∧
    s.limits.followTime * 1000 ≤ unsignedElapsed s.efe.sampleTime 0 ∧
    ¬ s.limits.followTime * 1000 ≤ unsignedElapsed s.efe.sampleTime 1 ∧
    1 ≤ unsignedElapsed s.unitTime 4294967295 ∧ unsignedElapsed s.unitTime 4294967295 < 2 ^ 31 ∧
    ¬ 1 ≤ unsignedElapsed s.unitTime 0 := by decide +kernel

theorem witness_WatchRequestsWriteTheTable :
    let w : WatchEntry :=
      { conv := .a, depth := 3400000, facing := .either, binding := .tagged, action := .stop,
        persistence := .always, trip := some 1, bound := none }
    (at_ .idle).admits .service = true ∧ (15 : Nat) < 16 ∧ depthInRange w.depth = true ∧
    w.bound = none ∧ w.trip = some 1 ∧ w.action = .stop ∧ 65535 < 2 ^ 16 ∧ (watchEntryBytes 16 w).length = 14 ∧
    15 < octet (watchEntryBytes 16 w) 0 ∧ (16 : Nat) ≤ 16 ∧ (254 : Nat) < 255 := by decide +kernel

/-- A cap that a STOP entry carries is not examined, and the reply carries 0 (R147, log 44). -/
theorem test_set_watch_drops_the_cap_of_a_stop :
    let w : WatchEntry :=
      { conv := .a, depth := 1306000, facing := .down, binding := .tagged, action := .stop,
        persistence := .once, trip := none, bound := none }
    let b := watchEntryBytes 3 w
    (after (exec (.setWatch quick 9 (b.take 9 ++ le16 65535 ++ b.drop 11)) (at_ .idle))).map
        (fun t => (t.watch 3, (t.link.reply.drop 6).take 14)) = some (some w, b) ∧
      (b.drop 9).take 2 = [0, 0] := by decide +kernel

/-- A forced entry at the depth just reached, for each action, and a tagged one that is bound. -/
theorem witness_WatchEntriesActWhenCrossed :
    let entry (b : WatchBinding) (a : WatchAction) (o : Option (BindKind × Int)) : WatchEntry :=
      { conv := .a, depth := 5000, facing := .down, binding := b, action := a, persistence := .once,
        trip := none, bound := o }
    let s (w : WatchEntry) : State := { busy .winding (trip true) with
      pm := { State.reset.pm with convs := ⟨{ placed with prevDepth := 4999, depth := 5000 }, placed⟩ }
      wt := State.reset.wt.setIfInBounds 15 (some w) }
    (∀ a ∈ [WatchAction.notify, .slow 100, .stop],
      (s (entry .forced a none)).watch 15 = some (entry .forced a none)) ∧
    (s (entry .tagged .notify (some (.notify, 5000)))).watch 15 =
      some (entry .tagged .notify (some (.notify, 5000))) ∧
    ((s (entry .forced .stop none)).conv .a).prevDepth < 5000 ∧
    (5000 : Int) ≤ ((s (entry .forced .stop none)).conv .a).depth ∧
    (s (entry .forced .stop none)).watch 14 = none ∧
    (s (entry .tagged .stop (some (.stop, 5000)))).watch 15 =
      some (entry .tagged .stop (some (.stop, 5000))) ∧
    ((s (entry .forced .stop none)).insertSlow 15 100 5000).2 = true := by decide +kernel

/-- A leg that has a SLOW point; a full plan with a SLOW point beyond, and a full plan without one. -/
theorem witness_ForcedSlowPointIsPlacedOrMoved :
    let with_ (ps : List PlanPoint) : State :=
      { busy .winding (trip true) with rg := { State.reset.rg with plan := some ps, refPrev := 4000 } }
    let s := with_ points
    let more (k : PointKind) : List PlanPoint :=
      List.replicate 6 { kind := k, depth := 1306000, origin := .tagged, watchId := none }
    s.te.winder = .winding ∧ s.rg.points.length < 8 ∧
    8 ≤ (with_ (points ++ more .stop)).rg.points.length ∧
    (with_ (points ++ more .stop)).rg.leg = points ∧
    8 ≤ (with_ (points.drop 1 ++ more .stop ++ points.take 1)).rg.points.length ∧
    (with_ (points.drop 1 ++ more .stop ++ points.take 1)).rg.leg = points.drop 1 ∧
    0 < Travel.down.distance 900000 1306000 ∧
    ({ kind := .slow 3000, depth := 900000, origin := .forced, watchId := some 2 } : PlanPoint).isStop =
      (points.head (by decide)).isStop ∧
    ({ kind := .slow 3000, depth := 1306000, origin := .forced, watchId := some 2 } : PlanPoint).isStop ≠
      (points.getLast (by decide)).isStop := by decide +kernel

theorem witness_ClutchRequestsBeginTheirSequences :
    let opened : State := { at_ .idle with cc := { resetClutch with state := .released } }
    (at_ .idle).admits .service = true ∧ opened.admits .service = true ∧ (at_ .idle).cc.state = .engaged ∧
    (at_ .idle).atStandstill = true ∧ (at_ .idle).lines.brakeApplied = true ∧
    opened.cc.state = .released := by decide +kernel

theorem witness_ClutchSequencesEnd :
    let s (c : ClutchState) (k : ClutchStep) : State := { at_ .idle with
      cc := { resetClutch with state := c, step := k, timer := some 5000, read := true } }
    (s .releasing .holding).cc.step = .holding ∧ (s .releasing .opening).cc.step ≠ .holding ∧
    (s .releasing .holding).cc.read = true ∧ State.reset.cc.read = false ∧
    ((s .releasing .holding).elapse quick).lines.bBrakeApplied = false ∧
    ((s .releasing .holding).elapse quick).lines.clutchOpen = false ∧
    (s .releasing .holding).cc.timer = some 5000 ∧ (s .engaging .closing).cc.state = .engaging ∧
    (at_ .idle).cc.timer = none := by decide +kernel

theorem witness_DriftAndDiscrepancyAreTested :
    let s : State := { at_ .idle with
      pm := { State.reset.pm with
        drums := ⟨{ resetDrumModel with paidOut := 51000000 }, { resetDrumModel with paidOut := 51000000 }⟩ }
      cc := { resetClutch with state := .released, drift := some 0, discrepancy := some (0, 0) } }
    s.cc.state ≠ .engaged ∧ s.cc.drift = some 0 ∧ s.limits.driftLimit < 51000000 / 1000000 ∧
    (50999999 : Int).natAbs / 1000000 ≤ s.limits.driftLimit ∧ resetClutch.drift = none ∧
    (at_ .idle).cc.state = .engaged ∧ ((at_ .idle).front .a).primary.valid = true ∧
    (State.reset.front .a).primary.valid = false ∧ s.cc.discrepancy = some (0, 0) ∧
    resetClutch.discrepancy = none := by decide +kernel

theorem witness_OutputLinesFollowTheState :
    ({ at_ .idle with link := { resetLink with pulse := some 1000 } } : State).link.pulse = some 1000 ∧
    (at_ .idle).link.pulse = none := by decide +kernel

/-- A step from the reset state, at which every law holds. -/
theorem witness_LogAndSeverityLawsAreKept :
    let s : State := { State.reset with pending := [.checkingEnd quick] }
    (after (step s)).isSome = true ∧ s.eventLaw ∧ s.faultLaw ∧ s.severityLaw := by
  refine ⟨by decide +kernel, by unfold State.eventLaw; decide +kernel, ?_, fun k => ?_, fun k => ?_⟩
  · unfold State.faultLaw; decide +kernel
  · cases k <;> decide +kernel
  · cases k <;> decide +kernel

/-- A step while a trip winds under its limit. -/
theorem witness_QueueAndClutchLawsAreKept :
    let s : State := { worked with pending := [sampled (.word 1500000 false)] }
    (after (step s)).isSome = true ∧ s.queueLaw ∧ s.cc.state = .engaged := by
  refine ⟨by decide +kernel, ?_, by decide⟩
  unfold State.queueLaw; decide +kernel

theorem witness_ReferenceLawIsKept :
    let s : State := { worked with pending := [sampled (.word 1500000 false)] }
    (after (step s)).isSome = true ∧ s.queueLaw ∧ s.referenceLaw := by
  refine ⟨by decide +kernel, ?_, ?_⟩
  · unfold State.queueLaw; decide +kernel
  · unfold State.referenceLaw; decide +kernel

end Sys2Proof.Tests
end

section
/-! The paid-out length as a sum over the counts, and the standstill test (R29, R46). -/

namespace Sys2Proof.Machine

open Sys2Proof

section rope

variable {l m : Layer} {rest layers : List Layer} {n : Nat}

theorem ascending_cons_cons :
    ascending (l :: m :: rest) = true ↔ l.start < m.start ∧ ascending (m :: rest) = true := by
  rw [ascending, Bool.and_eq_true, decide_eq_true_eq]

theorem ascending_iff_pairwise :
    ascending layers = true ↔ (layers.map Layer.start).Pairwise (· < ·) := by
  rw [← List.isChain_iff_pairwise]
  induction layers using ascending.induct with
  | case1 => simp [ascending]
  | case2 l => simp [ascending]
  | case3 l m rest ih =>
    simp only [ascending_cons_cons, ih, List.map_cons, List.isChain_cons_cons]

theorem ascending_of_layersWellFormed (h : layersWellFormed layers = true) :
    ascending layers = true := by
  simp only [layersWellFormed, Bool.and_eq_true] at h
  obtain ⟨⟨-, hasc⟩, -⟩ := h
  exact hasc

/-! #### The pitch at a count -/

theorem pitchAt_singleton (l : Layer) (n : Nat) :
    pitchAt [l] n = if l.start ≤ n then l.pitch else 0 := by
  by_cases h : l.start ≤ n <;> simp [pitchAt, h]

theorem pitchAt_cons_cons_of_le (h : m.start ≤ n) :
    pitchAt (l :: m :: rest) n = pitchAt (m :: rest) n := by
  by_cases hl : l.start ≤ n <;> simp [pitchAt, h, hl]

theorem filter_reached_eq_nil (hasc : ascending (m :: rest) = true) (h : (n : Int) < m.start) :
    (m :: rest).filter (fun k => k.start ≤ (n : Int)) = [] := by
  rw [ascending_iff_pairwise, List.map_cons, List.pairwise_cons] at hasc
  obtain ⟨hfirst, -⟩ := hasc
  have hrest : ∀ k ∈ rest, (n : Int) < k.start := fun k hk =>
    h.trans (hfirst _ (List.mem_map_of_mem hk))
  simpa [h] using hrest

theorem pitchAt_of_lt_start (hasc : ascending (m :: rest) = true) (h : (n : Int) < m.start) :
    pitchAt (m :: rest) n = 0 := by
  simp [pitchAt, filter_reached_eq_nil hasc h]

theorem pitchAt_cons_of_lt_start (hasc : ascending (m :: rest) = true) (h : (n : Int) < m.start) :
    pitchAt (l :: m :: rest) n = pitchAt [l] n := by
  rw [pitchAt, ← List.singleton_append, List.filter_append, filter_reached_eq_nil hasc h,
    List.append_nil, pitchAt]

/-! #### The paid-out length -/

@[simp] theorem paidOutFrom_zero (layers : List Layer) : paidOutFrom layers 0 = 0 := by
  induction layers using ascending.induct with
  | case1 => rfl
  | case2 l =>
    have : max 0 (0 - max 0 l.start) = 0 := by omega
    simp only [paidOutFrom, this, zero_mul]
  | case3 l m rest ih =>
    have : max 0 (min 0 m.start - max 0 l.start) = 0 := by omega
    simp only [paidOutFrom, this, zero_mul, ih, add_zero]

theorem paidOutFrom_cons_cons_of_le {c : Int} (h : c ≤ m.start) :
    paidOutFrom (l :: m :: rest) c = paidOutFrom [l] c + paidOutFrom (m :: rest) c := by
  simp only [paidOutFrom, min_eq_left h]

theorem paidOutFrom_cons_cons_of_ge {c : Int} (h : m.start ≤ c) :
    paidOutFrom (l :: m :: rest) c =
      max 0 (m.start - max 0 l.start) * l.pitch + paidOutFrom (m :: rest) c := by
  simp only [paidOutFrom, min_eq_right h]

theorem paidOutFrom_singleton_succ (l : Layer) (n : Nat) :
    paidOutFrom [l] (n + 1 : Nat) = paidOutFrom [l] n + pitchAt [l] n := by
  simp only [paidOutFrom, pitchAt_singleton]
  split
  case isTrue h =>
    have : max 0 (((n + 1 : Nat) : Int) - max 0 l.start) = max 0 (n - max 0 l.start) + 1 := by omega
    rw [this, add_mul, one_mul]
  case isFalse h =>
    have : max 0 (((n + 1 : Nat) : Int) - max 0 l.start) = max 0 (n - max 0 l.start) := by omega
    rw [this, Nat.cast_zero, add_zero]

/-- The count `n` lies in one layer's range at most, and that layer is the one whose pitch `pitchAt` reads. -/
theorem paidOutFrom_succ (n : Nat) (hasc : ascending layers = true) :
    paidOutFrom layers (n + 1 : Nat) = paidOutFrom layers n + pitchAt layers n := by
  induction layers using ascending.induct with
  | case1 => rfl
  | case2 l => exact paidOutFrom_singleton_succ l n
  | case3 l m rest ih =>
    obtain ⟨-, hrest⟩ := ascending_cons_cons.mp hasc
    rcases le_or_gt m.start n with h | h
    · rw [paidOutFrom_cons_cons_of_ge (by omega), paidOutFrom_cons_cons_of_ge h, ih hrest,
        pitchAt_cons_cons_of_le h, add_assoc]
    · rw [paidOutFrom_cons_cons_of_le (by omega), paidOutFrom_cons_cons_of_le h.le, ih hrest,
        paidOutFrom_singleton_succ, pitchAt_of_lt_start hrest h, pitchAt_cons_of_lt_start hrest h]
      ring

theorem paidOut_natCast (layers : List Layer) (n : Nat) : paidOut layers n = paidOutFrom layers n := by
  cases layers with
  | nil => rfl
  | cons l rest => rw [paidOut, if_pos (Int.natCast_nonneg n)]

theorem paidOut_eq_sum_pitchAt (n : Nat) (hasc : ascending layers = true) :
    paidOut layers n = ∑ i ∈ Finset.range n, (pitchAt layers i : Int) := by
  rw [paidOut_natCast]
  induction n with
  | zero => simp
  | succ n ih => rw [Finset.sum_range_succ, ← ih, paidOutFrom_succ n hasc]

theorem paidOut_of_neg (l : Layer) (rest : List Layer) {c : Int} (h : c < 0) :
    paidOut (l :: rest) c = c * l.pitch :=
  if_neg (Int.not_le.mpr h)

end rope

/-! #### Standstill -/

theorem State.convAtRest_iff (s : State) (c : Conv) :
    s.convAtRest c = true ↔ |(s.conv c).speed| ≤ s.limits.standstill := by
  rw [State.convAtRest, mag, decide_eq_true_eq, Int.abs_eq_natAbs, Int.ofNat_le]

theorem State.atStandstill_iff (s : State) :
    s.atStandstill = true ↔ s.convAtRest .a = true ∧ s.convAtRest .b = true := by
  rw [State.atStandstill, Bool.and_eq_true]

/-- Settles O22: the step of one count (`paidOutFrom_succ`) summed over the counts, the negative counts and
the empty table read off the definition, and standstill by conveyance and for the winder. -/
theorem paidOutSumsThePitchesAndStandstill : Obligations.PaidOutSumsThePitchesAndStandstill := by
  unfold Obligations.PaidOutSumsThePitchesAndStandstill
  exact ⟨⟨fun _ n hwf => paidOut_eq_sum_pitchAt n (ascending_of_layersWellFormed hwf),
    fun l rest _ hneg => paidOut_of_neg l rest hneg, fun _ => rfl⟩,
    fun s => ⟨s.convAtRest_iff, s.atStandstill_iff⟩⟩

end Sys2Proof.Machine
end

section
/-! SET_SERVICE and SET_MODE: their checks in order and what they leave (R120 to R122). -/

namespace Sys2Proof.Machine

open Sys2Proof

/-! #### The port's return to HUNTING among the operations of an owner -/

section answered
variable (s : State) (tag k : Byte) (c : ResultCode) (d : List Byte)

theorem State.reply_answer_hunt : State.reply tag k (answer c d s.hunt) = s.answered k tag c d := rfl

theorem State.reply_refuse_hunt : State.reply tag k (refuse c s.hunt) = s.answered k tag c [] := rfl
end answered

section hunt
variable (s : State)

theorem State.hunt_enter (w : WinderState) (y : Cause) (t : Nat) :
    s.hunt.enter w y t = (s.enter w y t).hunt := rfl

theorem State.hunt_raiseEnded (o : Nat) (r : TripRecord) (n : Nat) :
    s.hunt.raiseEnded o r n = (s.raiseEnded o r n).hunt := rfl

/-- The events of the discarded records go to the Event Queue, so gathered bytes do not matter to them. -/
theorem State.hunt_discardQueue : s.hunt.discardQueue = s.discardQueue.hunt := by
  rw [State.discardQueue, State.hunt_tq,
    List.foldl_hom State.hunt fun t r => t.hunt_raiseEnded 3 r r.body.remaining]
  rfl

theorem State.hunt_modTe (f : Executive → Executive) : s.hunt.modTe f = (s.modTe f).hunt := rfl
end hunt

/-! #### A switch of one byte -/

theorem formSwitch_leBool (b : Bool) : formSwitch (leBool b) = true := by cases b <;> rfl

theorem octet_leBool_eq_one_iff (b : Bool) : octet (leBool b) 0 = 1 ↔ b = true := by cases b <;> decide

/-! #### The owners' answers -/

section owners
variable (s : State)

theorem State.reqSetService_leBool (tag : Byte) (on : Bool) (h : s.takesFrame = true) :
    s.reqSetService tag (leBool on) =
      State.reply tag 0xA0 (if on then serviceOn s.hunt else serviceOff s.hunt) := by
  rw [State.reqSetService, s.serve_owner _ _ _ _ _ _ h (formSwitch_leBool on) rfl]
  simp only [setService, octet_leBool_eq_one_iff]
  rfl

theorem State.reqSetMode_leBool (tag : Byte) (b : Bool) (h : s.admits .service = true) :
    s.reqSetMode tag (leBool b) = State.reply tag 0xA1 (setMode (leBool b) s.hunt) := by
  rw [State.admits, Bool.and_eq_true, Option.isNone_iff_eq_none] at h
  obtain ⟨htake, hclass⟩ := h
  exact s.serve_owner _ _ _ _ _ _ htake (formSwitch_leBool b) hclass

theorem serviceOn_of_idle (h : s.te.winder = .idle) : serviceOn s = answer .ok [] s := by
  simp only [serviceOn, h]

theorem serviceOn_of_stoodDown (h : s.te.winder = .stoodDown) : serviceOn s = serviceOnChecks s := by
  simp only [serviceOn, h]

theorem serviceOn_of_other (hi : s.te.winder ≠ .idle) (hd : s.te.winder ≠ .stoodDown) :
    serviceOn s = refuse .wrongState s := by
  cases h : s.te.winder <;> simp_all [serviceOn]

theorem serviceOff_of_stoodDown (h : s.te.winder = .stoodDown) : serviceOff s = answer .ok [] s := by
  simp only [serviceOff, h]

theorem serviceOff_of_idle (h : s.te.winder = .idle) :
    serviceOff s = answer .ok [] (s.discardQueue.enter .stoodDown (.request 0x20) 0) := by
  simp only [serviceOff, h]

theorem serviceOff_of_other (hi : s.te.winder ≠ .idle) (hd : s.te.winder ≠ .stoodDown) :
    serviceOff s = refuse .wrongState s := by
  cases h : s.te.winder <;> simp_all [serviceOff]

theorem storeState_eq_idle_iff (x : StoreState) : x = .idle ↔ x ≠ .writing := by cases x <;> decide

theorem serviceOnChecks_of_writing (h : s.ds.storeState = .writing) :
    serviceOnChecks s = refuse .busy s := by
  simp [serviceOnChecks, h]

theorem serviceOnChecks_of_uncommitted (hw : s.ds.storeState ≠ .writing)
    (hu : s.ds.uncommitted = true) :
    serviceOnChecks s = refuse .uncommitted s := by
  simp [serviceOnChecks, storeState_eq_idle_iff, hw, hu]

theorem serviceOnChecks_of_invalid {f : Nat × Nat} (hw : s.ds.storeState ≠ .writing)
    (hu : s.ds.uncommitted ≠ true) (hv : validate s.ds.desc = some f) :
    serviceOnChecks s = refuseInvalid f s := by
  simp [serviceOnChecks, storeState_eq_idle_iff, hw, hu, hv]

theorem serviceOnChecks_of_valid (hw : s.ds.storeState ≠ .writing) (hu : s.ds.uncommitted ≠ true)
    (hv : validate s.ds.desc = none) :
    serviceOnChecks s =
      if s.gravePending = true then refuse .faultsPending s
      else if s.lines.brakeApplied = false then refuse .wrongState s
      else answer .ok [] (s.enter .idle (.request 0x20) 0) := by
  cases hg : s.gravePending <;> cases hb : s.lines.brakeApplied <;>
    simp [serviceOnChecks, storeState_eq_idle_iff, hw, hu, hv, hg, hb]

theorem setMode_leBool (b : Bool) :
    setMode (leBool b) s =
      if s.te.winder = .idle then
        answer .ok [] (s.modTe fun t => { t with unitMode := if b then .inspection else .normal })
      else refuse .wrongState s := by
  simp only [setMode, octet_leBool_eq_one_iff]
end owners

/-! #### The commands -/

section commands
variable {s : State} (e : Elapse) (tag : Byte)

theorem exec_setServiceOn_eq (h : s.takesFrame = true) :
    exec (.setServiceOn e tag) s = .next (State.reply tag 0xA0 (serviceOn (s.elapse e).hunt)) :=
  congrArg Host.Outcome.next ((s.elapse e).reqSetService_leBool tag true h)

theorem exec_setServiceOff_eq (h : s.takesFrame = true) :
    exec (.setServiceOff e tag) s = .next (State.reply tag 0xA0 (serviceOff (s.elapse e).hunt)) :=
  congrArg Host.Outcome.next ((s.elapse e).reqSetService_leBool tag false h)

theorem exec_setMode_leBool (b : Bool) (h : s.admits .service = true) :
    exec (.setMode e tag (leBool b)) s =
      .next (State.reply tag 0xA1 (setMode (leBool b) (s.elapse e).hunt)) :=
  congrArg Host.Outcome.next ((s.elapse e).reqSetMode_leBool tag b h)
end commands

/-- Settles O36: each command is its owner's answer to the state past the elapsed time, with the port back in
HUNTING; the owners' answers are read off check by check, in the order of R120. -/
theorem serviceAndModeRequests : Obligations.ServiceAndModeRequests := by
  unfold Obligations.ServiceAndModeRequests
  intro e tag inspection s htake s0 grave
  refine ⟨?on, ?off, fun hadmits => ?mode⟩
  case on =>
    rw [exec_setServiceOn_eq e tag htake]
    congr 1
    by_cases hidle : s.te.winder = .idle
    · rw [if_pos hidle, serviceOn_of_idle s0.hunt hidle, State.reply_answer_hunt]
    rw [if_neg hidle]
    by_cases hstood : s.te.winder = .stoodDown
    swap
    · rw [if_pos hstood, serviceOn_of_other s0.hunt hidle hstood, State.reply_refuse_hunt]
    rw [if_neg (not_not_intro hstood), serviceOn_of_stoodDown s0.hunt hstood]
    by_cases hwriting : s.ds.storeState = .writing
    · rw [if_pos hwriting, serviceOnChecks_of_writing s0.hunt hwriting, State.reply_refuse_hunt]
    rw [if_neg hwriting]
    by_cases huncommitted : s.ds.uncommitted = true
    · rw [if_pos huncommitted, serviceOnChecks_of_uncommitted s0.hunt hwriting huncommitted,
        State.reply_refuse_hunt]
    rw [if_neg huncommitted]
    cases hvalid : validate s.ds.desc with
    | some f =>
      rw [serviceOnChecks_of_invalid s0.hunt hwriting huncommitted hvalid]
      exact State.reply_answer_hunt s0 tag 0xA0 .invalidDescription (le8 f.1 ++ le8 f.2)
    | none =>
      rw [serviceOnChecks_of_valid s0.hunt hwriting huncommitted hvalid, State.hunt_enter]
      simp only [apply_ite (State.reply tag 0xA0), State.reply_refuse_hunt, State.reply_answer_hunt]
      rfl
  case off =>
    rw [exec_setServiceOff_eq e tag htake]
    congr 1
    split_ifs with hstood hidle
    · rw [serviceOff_of_stoodDown s0.hunt hstood, State.reply_answer_hunt]
    · rw [serviceOff_of_other s0.hunt hidle hstood, State.reply_refuse_hunt]
    · rw [serviceOff_of_idle s0.hunt (not_not.mp hidle), State.hunt_discardQueue, State.hunt_enter,
        State.reply_answer_hunt]
  case mode =>
    rw [exec_setMode_leBool e tag inspection hadmits, setMode_leBool, State.hunt_modTe]
    simp only [apply_ite (State.reply tag 0xA1), State.reply_refuse_hunt, State.reply_answer_hunt]
    rfl

end Sys2Proof.Machine
end

section
/-! TAKE_EVENTS: the layout of an event record (R208), and the records that a reply carries and removes
(R202). -/

namespace Sys2Proof.Machine

open Sys2Proof

/-! #### A field reads back what was laid out in it -/

section fields

theorem byteAt_toNat (n i : Nat) : (byteAt n i).toNat = n / 256 ^ i % 256 := BitVec.toNat_ofNat _ _

theorem natOfBytes_singleton (b : Byte) : natOfBytes [b] = b.toNat := rfl

theorem octet_singleton (b : Byte) : octet [b] 0 = b.toNat := natOfBytes_singleton b

theorem natOfBytes_le8 {n : Nat} (h : n < 256) : natOfBytes (le8 n) = n := by
  rw [le8, natOfBytes_singleton, byteAt_toNat, pow_zero, Nat.div_one, Nat.mod_eq_of_lt h]

theorem natOfBytes_le16 {n : Nat} (h : n < 2 ^ 16) : natOfBytes (le16 n) = n := by
  simp only [le16, natOfBytes, byteAt_toNat]
  omega

theorem natOfBytes_leWord (w : Word32) : natOfBytes (leWord w) = w.toNat := by
  have hw := w.isLt
  simp only [leWord, natOfBytes, byteAt_toNat]
  omega

theorem natOfBytes_leNat32 {n : Nat} (h : n < 2 ^ 32) : natOfBytes (leNat32 n) = n := by
  rw [leNat32, natOfBytes_leWord, uword32, if_pos h, BitVec.toNat_ofNat, Nat.mod_eq_of_lt h]

theorem natOfBytes_leBool (b : Bool) : natOfBytes (leBool b) = if b then 1 else 0 := by cases b <;> rfl

end fields

/-! #### The layout of a record: the bytes at an offset are the field laid out there -/

section record
variable (flag : Bool) (r : EventRecord)

theorem EventKind.code_lt (k : EventKind) : k.code < 256 := by cases k <;> decide

@[simp] theorem length_eventBytes : (eventBytes flag r).length = 24 := rfl

theorem octet_eventBytes_kind : octet (eventBytes flag r) 0 = r.kind.code :=
  natOfBytes_le8 (EventKind.code_lt r.kind)

theorem octet_eventBytes_flag : octet (eventBytes flag r) 1 = if flag then 1 else 0 := natOfBytes_leBool flag

theorem fieldNat_eventBytes_trip (h : r.trip < 2 ^ 16) : fieldNat (eventBytes flag r) 2 2 = r.trip :=
  natOfBytes_le16 h

theorem fieldNat_eventBytes_time (h : r.time < 2 ^ 32) : fieldNat (eventBytes flag r) 4 4 = r.time :=
  natOfBytes_leNat32 h

theorem fieldNat_eventBytes_values :
    fieldNat (eventBytes flag r) 8 4 = r.v1.toNat ∧ fieldNat (eventBytes flag r) 12 4 = r.v2.toNat ∧
      fieldNat (eventBytes flag r) 16 4 = r.v3.toNat ∧ fieldNat (eventBytes flag r) 20 4 = r.v4.toNat :=
  ⟨natOfBytes_leWord r.v1, natOfBytes_leWord r.v2, natOfBytes_leWord r.v3, natOfBytes_leWord r.v4⟩

end record

/-! #### The records of a reply -/

section records
variable (flag : Bool)

theorem length_flatMap_eventBytes (rs : List EventRecord) :
    (rs.flatMap (eventBytes flag)).length = 24 * rs.length := by
  induction rs with
  | nil => rfl
  | cons r rs ih => rw [List.flatMap_cons, List.length_append, length_eventBytes, ih, List.length_cons]; omega

theorem take_drop_flatMap_eventBytes (rs : List EventRecord) (i : Nat) (h : i < rs.length) :
    ((rs.flatMap (eventBytes flag)).drop (24 * i)).take 24 = eventBytes flag rs[i] := by
  induction rs generalizing i with
  | nil => exact absurd h (Nat.not_lt_zero i)
  | cons r rs ih =>
    rw [List.flatMap_cons]
    cases i with
    | zero => exact List.take_left' (length_eventBytes flag r)
    | succ i =>
      rw [Nat.mul_succ, Nat.add_comm, ← List.drop_drop, List.drop_left' (length_eventBytes flag r)]
      exact ih i (Nat.lt_of_succ_lt_succ h)

theorem length_eventsBytes_cons (r : EventRecord) (rs : List EventRecord) :
    (eventsBytes flag (r :: rs)).length = 24 * (rs.length + 1) := by
  rw [eventsBytes, List.length_append, length_eventBytes, length_flatMap_eventBytes]
  omega

theorem take_eventsBytes_cons (r : EventRecord) (rs : List EventRecord) :
    (eventsBytes flag (r :: rs)).take 24 = eventBytes flag r :=
  List.take_left' (length_eventBytes flag r)

/-- Past the first record the flag is clear, whatever the first carries. -/
theorem take_drop_eventsBytes_cons (r : EventRecord) (rs : List EventRecord) (i : Nat) (h : i < rs.length) :
    ((eventsBytes flag (r :: rs)).drop (24 + 24 * i)).take 24 = eventBytes false rs[i] := by
  rw [eventsBytes, ← List.drop_drop, List.drop_left' (length_eventBytes flag r)]
  exact take_drop_flatMap_eventBytes false rs i h

end records

/-! #### The owner's answer -/

section owner
variable (s : State)

/-- Removing the records that a reply of at most `n` carries leaves the overrun mark only where no record was
there to carry it. -/
theorem State.dropEvents_length_take {n : Nat} (h : 1 ≤ n) :
    s.dropEvents (s.link.events.take n).length = { s with link := { s.link with
      events := s.link.events.drop n, overrun := s.link.overrun && s.link.events.isEmpty } } := by
  have hdrop : s.link.events.drop (s.link.events.take n).length = s.link.events.drop n := by
    rw [List.length_take, ← List.drop_eq_drop_min]
  have hnone : decide ((s.link.events.take n).length = 0) = s.link.events.isEmpty := by
    cases hes : s.link.events with
    | nil => rw [List.take_nil]; rfl
    | cons e es => rw [← Nat.sub_add_cancel h, List.take_succ_cons]; rfl
  rw [State.dropEvents, State.modLink, hdrop, hnone]

theorem takeEvents_of_outside {n : Byte} (h : n = 0 ∨ 8 < n.toNat) :
    takeEvents [n] s = refuse .badRange s := by
  have hout : ¬ within 1 8 (octet [n] 0) = true := by
    rw [octet_singleton, within, Bool.and_eq_true, decide_eq_true_eq, decide_eq_true_eq]
    rintro ⟨hlo, hhi⟩
    rcases h with rfl | h
    · exact absurd hlo (by decide)
    · exact absurd hhi (Nat.not_le_of_lt h)
  exact if_neg hout

theorem takeEvents_of_within {n : Byte} (hlo : 1 ≤ n.toNat) (hhi : n.toNat ≤ 8) :
    takeEvents [n] s = answer .ok
      (le8 (s.link.events.take n.toNat).length ++ eventsBytes s.link.overrun (s.link.events.take n.toNat))
      { s with link := { s.link with
        events := s.link.events.drop n.toNat
        overrun := s.link.overrun && s.link.events.isEmpty } } := by
  have hin : within 1 8 n.toNat = true := by
    rw [within, decide_eq_true hlo, decide_eq_true hhi, Bool.and_self]
  rw [← s.dropEvents_length_take hlo, takeEvents, octet_singleton, if_pos hin]

theorem State.exec_takeEvents_eq (e : Elapse) (tag n : Byte) (h : s.takesFrame = true) :
    exec (.takeEvents e tag [n]) s = .next (State.reply tag 0x85 (takeEvents [n] (s.elapse e).hunt)) :=
  congrArg Host.Outcome.next ((s.elapse e).serve_owner 0x05 tag .any (sized 1) takeEvents [n] h rfl rfl)

end owner

/-- Settles O10: the layout of a record field by field, the records of a reply one after another, and the
owner's answer to a max n outside its range and within it. -/
theorem takeEventsCarriesTheOldestRecords : Obligations.TakeEventsCarriesTheOldestRecords := by
  unfold Obligations.TakeEventsCarriesTheOldestRecords
  refine ⟨⟨fun flag r htrip htime => ?record, fun flag r rs => ?reply⟩,
    fun e tag n s htake => ⟨fun hout => ?refused, fun hlo hhi => ?answered⟩⟩
  case record =>
    exact ⟨length_eventBytes flag r, octet_eventBytes_kind flag r, octet_eventBytes_flag flag r,
      fieldNat_eventBytes_trip flag r htrip, fieldNat_eventBytes_time flag r htime,
      fieldNat_eventBytes_values flag r⟩
  case reply =>
    refine ⟨?_, take_eventsBytes_cons flag r rs, fun i h => ?_⟩
    · rw [List.length_append, List.length_append, length_eventsBytes_cons]
      simp only [le8, List.length_singleton]
      omega
    · rw [show 26 + 24 * i = 2 + (24 + 24 * i) by omega, ← List.drop_drop]
      exact take_drop_eventsBytes_cons flag r rs i h
  case refused =>
    rw [s.exec_takeEvents_eq e tag n htake, takeEvents_of_outside _ hout, State.reply_refuse_hunt]
  case answered =>
    rw [s.exec_takeEvents_eq e tag n htake, takeEvents_of_within _ hlo hhi]
    -- The port's return to HUNTING and the removal touch different fields of the link.
    rfl

end Sys2Proof.Machine
end
section
/-! What the operations that the meanings share keep of the Event Queue, the fault log, the description and the
messages of the Drive Reference Link: a predicate that every elementary change keeps is kept by every
operation. -/

namespace Sys2Proof.Machine

open Sys2Proof

/-- What both branches keep. -/
theorem of_ite {α : Type} {P : α → Prop} {c : Prop} [Decidable c] {x y : α} (hx : P x) (hy : P y) :
    P (if c then x else y) := by split <;> assumption

/-- What every step of a fold keeps of a predicate, the fold keeps. -/
theorem of_foldl {α β : Type} {P : α → Prop} {f : α → β → α} (l : List β) {a : α} (ha : P a)
    (h : ∀ a b, P a → P (f a b)) : P (l.foldl f a) := by
  induction l generalizing a with
  | nil => exact ha
  | cons b l ih => exact ih (h a b ha)

/-- A predicate that the blocks of the position path keep: any change of the Encoder Front End, of the Position
Model or of the Envelope Supervisor, one of the Clutch Controller that leaves its state, an event that joins the
queue, and a report that is taken. -/
structure Reporting (P : State → Prop) : Prop where
  modEfe {s : State} (f : EncoderFrontEnd → EncoderFrontEnd) : P s → P (s.modEfe f)
  modPm {s : State} (f : PositionModel → PositionModel) : P s → P (s.modPm f)
  modEs {s : State} (f : EnvelopeSupervisor → EnvelopeSupervisor) : P s → P (s.modEs f)
  modCc {s : State} (f : ClutchController → ClutchController) (h : P s)
    (hf : ∀ k, (f k).state = k.state := by exact fun _ => rfl) : P (s.modCc f)
  raise {s : State} (k : EventKind) (trip : Nat) (v1 v2 v3 v4 : Word32) :
    P s → P (s.raise k trip v1 v2 v3 v4)
  report {s : State} (r : Report) : P s → P (s.report r)

namespace Reporting
variable {P : State → Prop} (hP : Reporting P) {s : State} (h : P s)
include hP h

theorem modConv (c : Conv) (f : ConvModel → ConvModel) : P (s.modConv c f) := hP.modPm _ h
theorem modDrum (c : Conv) (f : DrumModel → DrumModel) : P (s.modDrum c f) := hP.modPm _ h
theorem modFront (c : Conv) (f : DrumFront → DrumFront) : P (s.modFront c f) := hP.modEfe _ h
theorem setCertainty (c : Conv) (n : Certainty) (y : CertaintyCause) : P (s.setCertainty c n y) :=
  of_ite h (hP.raise _ _ _ _ _ _ (hP.modConv h _ _))

theorem reportAll (rs : List Report) : P (s.reportAll rs) := of_foldl _ h fun _ _ ht => hP.report _ ht

/-! #### The Sample record and the marks -/

theorem redepth (c : Conv) : P (s.redepth c) := hP.modConv h _ _

theorem setLoadClass (c : Conv) (k : LoadClass) : P (s.setLoadClass c k) :=
  of_ite h (hP.redepth (hP.modConv h _ _) _)

theorem takeHeads (x : Heads) : P (s.takeHeads x) := hP.modEfe _ h

theorem crossCheck (c : Conv) : P (s.crossCheck c) := by
  have hs := hP.modFront h c
  unfold State.crossCheck
  dsimp only
  (repeat' split) <;> first
    | exact h
    | exact hs _
    | exact hP.modFront (hs _) _ _
    | exact hP.setCertainty (hP.modFront (hP.report _ (hs _)) _ _) _ _ _
    | exact hP.modFront (hP.report _ h) _ _

theorem degrade (c : Conv) : P (s.degrade c) := of_ite (hP.setCertainty h _ _ _) h

theorem loseRun (c : Conv) : P (s.loseRun c) :=
  of_ite (hP.modDrum h _ _) (hP.report _ (hP.setCertainty (hP.modDrum h _ _) _ _ _))

theorem compareLength (c : Conv) (d : Int) : P (s.compareLength c d) :=
  of_ite (of_ite (hP.setCertainty h _ _ _) h) (of_ite h (hP.report _ (hP.setCertainty h _ _ _)))

theorem measure (c : Conv) (t : Nat) : P (s.measure c t) :=
  have h1 (f : ConvModel → ConvModel) : P (s.modConv c f) := hP.modConv h c f
  have h2 (f : ConvModel → ConvModel) (d : Int) (b : Prop) [Decidable b] :
      P (if b then (s.modConv c f).compareLength c d else s.modConv c f) :=
    of_ite (hP.compareLength (h1 f) c d) (h1 f)
  have h5 := hP.redepth (hP.modDrum (hP.modConv (h2 _ _ _) c _) c _) c
  of_ite (hP.modConv h5 _ _) h5

theorem holdSample (c : Conv) : P (s.holdSample c) :=
  hP.redepth (hP.modDrum (hP.degrade (hP.modConv h _ _) c) _ _) c

theorem runSample (c : Conv) (t : Nat) (b : Bool) : P (s.runSample c t b) :=
  have h1 : P (if (s.drum c).run = .none ∨ (s.drum c).heldLast then _ else s) :=
    of_ite (hP.report _ (hP.modDrum h c _)) h
  have h4 := hP.redepth (hP.degrade (hP.modConv (hP.modDrum h1 c _) c _) c) c
  of_ite (hP.loseRun h4 c) h4

theorem lostSample (c : Conv) : P (s.lostSample c) := hP.modConv h _ _

theorem position (c : Conv) (t : Nat) (b : Bool) : P (s.position c t b) :=
  of_ite (hP.measure h c t) <| of_ite (hP.holdSample h c) <|
    of_ite (hP.lostSample h c) (hP.runSample h c t b)

theorem setPassage (i : Nat) (p : Passage) : P (s.setPassage i p) := hP.modPm _ h

theorem passMark (old : Both Int) (i : Nat) : P (s.passMark old i) := by
  unfold State.passMark
  (repeat' split) <;> first
    | exact h
    | exact hP.setPassage h _ _
    | exact hP.setPassage (hP.report _ h) _ _

theorem passMarks (old : Both Int) : P (s.passMarks old) := of_foldl _ h fun _ _ ht => hP.passMark ht _ _

theorem takeRecord (x : Heads) : P (s.takeRecord x) :=
  hP.passMarks (hP.position (hP.position (hP.crossCheck (hP.crossCheck (hP.takeHeads h x) .a) .b) _ _ _) _ _ _)
    _

theorem correct (i : Nat) (m : Mark) (t : Nat) : P (s.correct i m t) := by
  unfold State.correct
  dsimp only
  split
  · refine of_ite (hP.modDrum (hP.modConv ?_ _ _) _ _) ?_
    all_goals
      exact of_ite (hP.setCertainty (hP.raise _ _ _ _ _ _ (hP.modConv h _ _)) _ _ _)
        (hP.raise _ _ _ _ _ _ (hP.modConv h _ _))
  · exact hP.setCertainty (hP.report _ h) _ _ _

theorem redatum (m : Mark) (t : Nat) : P (s.redatum m t) := of_ite (hP.setCertainty (hP.modConv h _ _) _ _ _) h

theorem takeEdge (l : Fin 24) (t : Nat) : P (s.takeEdge l t) := by
  unfold State.takeEdge
  split
  · exact h
  · exact of_ite (of_ite (hP.redatum (hP.setPassage h _ _) _ _) (hP.correct (hP.setPassage h _ _) _ _ _)) h

/-! #### The clutch and the envelope at a Sample record -/

theorem superviseSwitches (b : Bool) (n : Nat) : P (s.superviseSwitches b n) :=
  of_ite (hP.modCc _ h) <| of_ite h (hP.report _ (hP.modCc _ h))

theorem testDrift : P s.testDrift := by
  unfold State.testDrift
  split
  · exact of_ite (hP.modCc _ h) h
  · exact of_ite (hP.report _ (hP.modCc _ h)) h

theorem testDiscrepancy : P s.testDiscrepancy := by
  unfold State.testDiscrepancy
  (repeat' split) <;> first | exact h | exact hP.modCc _ h | exact hP.report _ h

theorem takeClutch : P s.takeClutch := of_ite (hP.testDiscrepancy h) (hP.testDrift h)

theorem takeEnvelope (t : Nat) (g : ReferenceGenerator) : P (s.takeEnvelope t g) :=
  hP.reportAll (hP.modEs _ h) _

end Reporting

/-- A predicate that the elementary changes of a command keep: any change of a block but the Description Store,
where the Control Link Port gains no event, the Fault Manager keeps its counts and keeps or empties its log, and
the Reference Generator keeps its messages; an event that joins the queue, a report that is counted and logged,
and an out-of-turn message. -/
structure Kept (P : State → Prop) : Prop where
  setClock {s : State} (t : Nat) : P s → P (s.setClock t)
  modEfe {s : State} (f : EncoderFrontEnd → EncoderFrontEnd) : P s → P (s.modEfe f)
  modPm {s : State} (f : PositionModel → PositionModel) : P s → P (s.modPm f)
  modTq {s : State} (f : List TripRecord → List TripRecord) : P s → P (s.modTq f)
  modTe {s : State} (f : Executive → Executive) : P s → P (s.modTe f)
  modEs {s : State} (f : EnvelopeSupervisor → EnvelopeSupervisor) : P s → P (s.modEs f)
  modWt {s : State} (f : Vector (Option WatchEntry) 16 → Vector (Option WatchEntry) 16) :
    P s → P (s.modWt f)
  modCc {s : State} (f : ClutchController → ClutchController) : P s → P (s.modCc f)
  modLines {s : State} (f : InputLines → InputLines) : P s → P (s.modLines f)
  modRg {s : State} (f : ReferenceGenerator → ReferenceGenerator) (h : P s)
    (hf : ∀ r, (f r).seq = r.seq ∧ (f r).sent = r.sent := by exact fun _ => ⟨rfl, rfl⟩) :
    P (s.modRg f)
  modFm {s : State} (f : FaultManager → FaultManager) (h : P s)
    (hf : ∀ m, (f m).counts = m.counts ∧
      ((f m).first = m.first ∧ (f m).later = m.later ∨ (f m).later = []) := by
        exact fun _ => ⟨rfl, .inl ⟨rfl, rfl⟩⟩) : P (s.modFm f)
  modLink {s : State} (f : ControlLink → ControlLink) (h : P s)
    (hf : ∀ l, (f l).events.length ≤ l.events.length := by exact fun _ => Nat.le_refl _) : P (s.modLink f)
  raise {s : State} (k : EventKind) (trip : Nat) (v1 v2 v3 v4 : Word32) :
    P s → P (s.raise k trip v1 v2 v3 v4)
  log {s : State} (r : Report) (v : Severity) : P s → P (s.log r v)
  countReport {s : State} (k : FaultKind) : P s → P (s.countReport k)
  sendIdle {s : State} : P s → P (s.sendDrive 0 false)

namespace Kept
variable {P : State → Prop} (hP : Kept P) {s : State} (h : P s)
include hP h

/-! #### Blocks, clock and events -/

theorem modHead (f : TripRecord → TripRecord) : P (s.modHead f) := hP.modTq _ h
theorem reach (t : Nat) : P (s.reach t) := of_ite (hP.setClock t h) h

theorem enter (w : WinderState) (y : Cause) (t : Nat) : P (s.enter w y t) := by
  refine hP.raise _ _ _ _ _ _ <| hP.modFm _ (hP.modRg _ (hP.modEs _ <| hP.modTe _ h) fun r => ?_) fun m => ?_
  · split <;> exact ⟨rfl, rfl⟩
  · split <;> exact ⟨rfl, .inl ⟨rfl, rfl⟩⟩

theorem discardPlan : P s.discardPlan := hP.modWt _ <| hP.modEs _ <| hP.modRg _ h

theorem interrupt : P s.interrupt := by
  unfold State.interrupt
  split
  · exact h
  · exact hP.modTe _ <| hP.discardPlan <| hP.modHead (hP.raise _ _ _ _ _ _ h) _

theorem raiseEnded (o : Nat) (r : TripRecord) (n : Nat) : P (s.raiseEnded o r n) := hP.raise _ _ _ _ _ _ h

theorem complete : P s.complete := by
  unfold State.complete
  split
  · exact h
  · exact hP.modTe _ <| hP.discardPlan <| hP.raiseEnded (hP.modTq _ h) _ _ _

theorem discardQueue : P s.discardQueue :=
  hP.modTq _ <| of_foldl _ h fun _ _ ht => hP.raiseEnded ht _ _ _

/-! #### Reports and responses -/

theorem toIdle (y : Cause) : P (s.toIdle y) := hP.enter (hP.interrupt h) _ _ _

theorem beginStopping (r : StopReason) (w : Option Nat) (y : Cause) : P (s.beginStopping r w y) :=
  hP.enter (hP.modTe _ h) _ _ _

theorem setStopOrder (b : Bool) : P (s.setStopOrder b) := hP.modFm _ h

theorem halt : P s.halt :=
  hP.setStopOrder (hP.interrupt <| hP.modTe _ <| hP.sendIdle <| hP.modRg _ h) _

theorem trip (r : ServiceReturn) (k : FaultKind) : P (s.trip r k) := hP.enter (hP.modTe _ <| hP.halt h) _ _ _

theorem lock (k : FaultKind) : P (s.lock k) := hP.enter (hP.halt h) _ _ _

theorem emergency (k : FaultKind) : P (s.emergency k) := by
  unfold State.emergency
  split
  all_goals first | exact h | exact hP.trip h _ _

theorem lockout (k : FaultKind) : P (s.lockout k) := by
  unfold State.lockout
  split
  all_goals first | exact h | exact hP.lock h _

theorem controlledStop (k : FaultKind) : P (s.controlledStop k) := by
  unfold State.controlledStop
  split
  case h_3 => exact of_ite (hP.setStopOrder (hP.beginStopping h _ _ _) _) (hP.setStopOrder (hP.modTe _ h) _)
  case h_4 => exact hP.setStopOrder (hP.modTe _ h) _
  all_goals first | exact h | exact hP.toIdle h _

theorem forcedStop (i : Nat) : P (s.forcedStop i) := of_ite (hP.beginStopping h _ _ _) h

theorem order (k : FaultKind) (v : Severity) : P (s.order k v) := by
  unfold State.order
  split
  · exact h
  · exact hP.controlledStop h k
  · exact hP.emergency h k
  · exact hP.lockout h k

theorem setInForce (v : Severity) : P (s.setInForce v) := of_ite h (hP.modFm _ h)

theorem respond (k : FaultKind) (v : Severity) : P (s.respond k v) :=
  of_ite h (hP.order (hP.setInForce h v) k v)

theorem setPending (k : FaultKind) (b : Bool) : P (s.setPending k b) := hP.modFm _ h

theorem report (r : Report) : P (s.report r) :=
  of_ite (hP.countReport _ h) <|
    hP.respond (hP.raise _ _ _ _ _ _ <| hP.log _ _ <| hP.setPending (hP.countReport _ h) _ _) _ _

omit h in
theorem reporting : Reporting P where
  modEfe := hP.modEfe
  modPm := hP.modPm
  modEs := hP.modEs
  modCc f h _ := hP.modCc f h
  raise := hP.raise
  report r h := hP.report h r

theorem ackDisagree : P s.ackDisagree := of_ite (hP.modEfe _ h) (hP.modEfe _ h)

theorem clearPending (pick : FaultKind → Bool) : P (s.clearPending pick) :=
  have hs := of_foldl (FaultKind.all.filter pick) h fun _ k ht => hP.setPending ht k false
  of_ite (hP.ackDisagree hs) hs

/-! #### Plans and watch points -/

theorem adopt (b : Built) : P (s.adopt b) := hP.modWt _ <| hP.modRg _ h

theorem insertSlow (id cap : Nat) (x : Int) : P (s.insertSlow id cap x).1 := by
  unfold State.insertSlow
  dsimp only
  (repeat' split) <;> dsimp only <;> first | exact h | exact hP.modRg _ h

theorem setWatch (i : Nat) (w : Option WatchEntry) : P (s.setWatch i w) := hP.modWt _ h

theorem fire (i : Nat) (w : WatchEntry) (k : Nat) : P (s.fire i w k) :=
  hP.raise _ _ _ _ _ _ <| hP.setWatch h _ _

theorem fireSlow (i cap : Nat) (w : WatchEntry) : P (s.fireSlow i cap w) :=
  have hs := hP.insertSlow h i cap s.guideDepth
  of_ite (hP.fire hs _ _ _) (hP.fire (hP.forcedStop hs _) _ _ _)

theorem fireForced (i : Nat) (w : WatchEntry) (f : WinderState) : P (s.fireForced i w f) := by
  unfold State.fireForced
  split
  · exact hP.fire h _ _ _
  · exact of_ite (hP.fireSlow h _ _ _) h
  · exact of_ite (hP.fire (hP.forcedStop h _) _ _ _) h

theorem fireBound (i : Nat) (w : WatchEntry) : P (s.fireBound i w) := by
  unfold State.fireBound
  (repeat' split) <;> first | exact h | exact hP.fire h _ _ _

theorem testWatch (f : WinderState) (i : Nat) : P (State.testWatch f s i) := by
  unfold State.testWatch
  split
  · exact h
  · split
    · exact of_ite (hP.fireForced h _ _ _) h
    · exact hP.fireBound h _ _

theorem takeWatch : P s.takeWatch := of_ite (of_foldl _ h (fun _ _ ht => hP.testWatch ht _ _)) h

theorem watchReached (d : Int) : P (s.watchReached d) := hP.modWt _ h

/-! #### The clutch -/

theorem setClutch (c : ClutchState) (p : ClutchStep) (t : Option Nat) : P (s.setClutch c p t) :=
  hP.modEs _ <| hP.modCc _ h

theorem raiseClutch (c : ClutchState) (o : Nat) : P (s.raiseClutch c o) := hP.raise _ _ _ _ _ _ h

theorem releaseComplete : P s.releaseComplete := hP.raiseClutch (hP.modCc _ <| hP.setClutch h _ _ _) _ _

theorem beginOpening : P s.beginOpening :=
  of_ite (hP.releaseComplete <| hP.setClutch h _ _ _) (hP.setClutch h _ _ _)

theorem beginRelease : P s.beginRelease :=
  have hs := hP.modCc _ <| hP.setClutch h _ _ _
  of_ite (hP.beginOpening hs) hs

theorem releaseFail : P s.releaseFail :=
  hP.raiseClutch (hP.report (hP.modCc _ <| hP.setClutch h _ _ _) _) _ _

theorem engageComplete : P s.engageComplete := hP.raiseClutch (hP.modCc _ <| hP.setClutch h _ _ _) _ _

theorem beginClosing : P s.beginClosing :=
  of_ite (hP.engageComplete <| hP.setClutch h _ _ _) (hP.setClutch h _ _ _)

theorem engageFail : P s.engageFail :=
  hP.raiseClutch (hP.report (hP.modCc _ <| hP.setClutch h _ _ _) _) _ _

theorem switchChange : P s.switchChange := by
  unfold State.switchChange
  split
  · exact hP.reporting.superviseSwitches h _ _
  · exact hP.reporting.superviseSwitches h _ _
  · exact of_ite (hP.releaseComplete h) h
  · exact of_ite (hP.engageComplete h) h

theorem readClutch : P s.readClutch :=
  have hs (c : ClutchState) := hP.setClutch (hP.modCc _ h) c .none none
  of_ite (hP.modCc _ (hs _)) <| of_ite (hP.modCc _ (hs _)) (hP.report (hP.modCc _ (hs _)) _)

/-! #### The sequences -/

theorem phaseFail (r : Report) : P (s.phaseFail r) := hP.report (hP.toIdle h _) r

theorem beginLeg (y : Cause) : P (s.beginLeg y) := hP.modEs _ <| hP.enter h _ _ _

theorem settleEnd : P s.settleEnd :=
  of_ite (hP.beginLeg (hP.modTe _ <| hP.modTe _ h) _) (hP.enter (hP.modTe _ h) _ _ _)

theorem enterSettle : P s.enterSettle := of_ite (hP.settleEnd <| hP.modTe _ h) (hP.modTe _ h)

theorem releaseEnd : P s.releaseEnd := of_ite (hP.enterSettle h) (hP.phaseFail h _)

theorem enterRelease : P s.enterRelease := of_ite (hP.releaseEnd <| hP.modTe _ h) (hP.modTe _ h)

theorem torqueEnd : P s.torqueEnd := of_ite (hP.enterRelease h) (hP.phaseFail h _)

theorem enterTorque : P s.enterTorque := of_ite (hP.torqueEnd <| hP.modTe _ h) (hP.modTe _ h)

theorem enterDwell (k : DwellKind) : P (s.enterDwell k) :=
  hP.enter (hP.modHead (hP.modTe _ h) _) _ _ _

theorem gatesTest : P s.gatesTest := by
  unfold State.gatesTest
  split
  · exact hP.phaseFail h _
  · split
    · exact hP.enterDwell h _
    · exact hP.enterTorque h

theorem enterGates : P s.enterGates := hP.gatesTest <| hP.modTe _ h

theorem enterSignal : P s.enterSignal := of_ite (hP.enterGates h) (hP.modTe _ h)

theorem enterPreparing (p : Phase) (y : Cause) : P (s.enterPreparing p y) :=
  have h1 := hP.enter (hP.modTe (fun t => { t with phase := p }) h) .preparing y s.activeId
  have h2 := of_ite (c := s.lines.shaftStop) (hP.report h1 (bare .shaftStopSignal 0)) h1
  of_ite (of_ite (hP.enterSignal h2) (hP.gatesTest h2)) h2

theorem laterLeg : P s.laterLeg := by
  unfold State.laterLeg
  split
  · exact h
  · exact of_ite (hP.enterPreparing (hP.modTe _ <| hP.adopt h _) _ _) (hP.toIdle h _)

theorem skipLoaded : P s.skipLoaded :=
  hP.laterLeg <| hP.modHead (hP.reporting.setLoadClass (hP.modTe _ h) _ _) _

theorem skipDumped : P s.skipDumped := by
  have h1 := hP.modHead (hP.reporting.setLoadClass (hP.modTe (fun t => { t with dwellTimer := none }) h) .b .empty)
    fun r => { r with body := cycledOnce r.body }
  unfold State.skipDumped
  dsimp only
  split
  · exact h1
  · exact of_ite (hP.enter (hP.complete <| hP.raise _ _ _ _ _ _ h1) _ _ _)
      (hP.laterLeg <| hP.modHead (hP.raise _ _ _ _ _ _ h1) _)

theorem raiseHeld (w : Option Nat) : P (s.raiseHeld w) := hP.raise _ _ _ _ _ _ h

theorem actDeferred (d : DeferredStop) : P (s.actDeferred d) := of_ite h (hP.toIdle h _)

theorem landingEnd : P s.landingEnd := by
  have h0 := hP.modTe (fun t => { t with brake := none, rest := .none }) h
  have h1 := of_ite (c := s.te.deferred = .none) h0 (hP.setStopOrder h0 false)
  unfold State.landingEnd
  dsimp only
  split
  · exact h1
  · split
    · exact hP.enter (hP.complete <| hP.raise _ _ _ _ _ _ h1) _ _ _
    · exact hP.actDeferred (hP.enterDwell h1 _) _
    · exact hP.actDeferred (hP.enterDwell h1 _) _
    all_goals exact hP.actDeferred (hP.watchReached (hP.raiseHeld (hP.enter h1 _ _ _) _) _) _

theorem stopEnd : P s.stopEnd := by
  have h1 := hP.setStopOrder (hP.modTe (fun t => { t with brake := none, rest := .none }) h) false
  unfold State.stopEnd
  dsimp only
  split
  · exact hP.raiseHeld (hP.enter (hP.modRg _ h1) _ _ _) _
  all_goals exact hP.toIdle h1 _

theorem brakesConfirmed : P s.brakesConfirmed := by
  unfold State.brakesConfirmed
  split
  · exact hP.landingEnd h
  · exact hP.stopEnd h
  all_goals exact h

theorem beginBrakeConfirm : P s.beginBrakeConfirm := of_ite (hP.brakesConfirmed <| hP.modTe _ h) (hP.modTe _ h)

theorem restTest : P s.restTest := of_ite (hP.beginBrakeConfirm h) (hP.modTe _ h)

theorem takeExecutive (r : RestStep) : P (s.takeExecutive r) :=
  of_ite h <| of_ite (hP.restTest h) <| of_ite (hP.restTest h) h

/-- A block's part of a Sample record, where the message that the Reference Generator sends is kept. -/
theorem takeBlock (hsend : ∀ (t : State) (r : Int), P t → P (t.sendDrive r true)) (t : Nat) (r : RestStep)
    (g : ReferenceGenerator) (b : SampleBlock) : P (State.takeBlock t r g s b) := by
  cases b with
  | reference =>
    refine of_ite (of_ite (hP.modTe _ (hsend _ _ (hP.modRg _ h ?_))) (hsend _ _ (hP.modRg _ h ?_)))
      (hP.sendIdle h)
    all_goals exact fun _ => ⟨rfl, rfl⟩
  | envelope => exact hP.reporting.takeEnvelope h _ _
  | watch => exact hP.takeWatch h
  | clutch => exact hP.reporting.takeClutch h
  | executive => exact hP.takeExecutive h _

end Kept
end Sys2Proof.Machine
end

section
/-! The requests by their kinds, and what the owners' answers keep (R195 to R198). -/

namespace Sys2Proof.Machine

open Sys2Proof

/-- The requests that edit the description (R4), before their test of the store. -/
inductive Edits : (List Byte → State → Answered) → Prop
  | putLevel : Edits putLevel
  | putMark : Edits putMark
  | putDrum : Edits putDrum
  | putConveyance : Edits putConveyance
  | putLimits : Edits putLimits
  | putSeverity : Edits putSeverity
  | commit : Edits commit

/-- The other owners' answers. -/
inductive Acts : (List Byte → State → Answered) → Prop
  | askLevel : Acts askLevel
  | askMark : Acts askMark
  | askDrum : Acts askDrum
  | askConveyance : Acts askConveyance
  | askLimits : Acts askLimits
  | setDatum : Acts datumRequest
  | setService : Acts setService
  | setMode : Acts setMode
  | queueTrip : Acts queueTrip
  | queueSkip : Acts queueSkip
  | withdraw : Acts withdraw
  | prepare : Acts prepare
  | start : Acts start
  | stop : Acts stop
  | retarget : Acts retarget
  | resetTrip : Acts resetRequest
  | clearLockout : Acts clearLockout
  | restart : Acts restart
  | askIdentity : Acts askIdentity
  | askStatus : Acts askStatus
  | askPosition : Acts askPosition
  | askQueue : Acts askQueue
  | takeEvents : Acts takeEvents
  | askFaults : Acts askFaults
  | readFaultLog : Acts readFaultLog
  | ackFault : Acts ackFault
  | clearFaultLog : Acts clearFaultLog
  | askWatch : Acts askWatch
  | setWatch : Acts setWatchPoint
  | clearWatch : Acts clearWatch
  | clutchOut : Acts clutchOut
  | clutchIn : Acts clutchIn

/-- What the port leaves of a request that it serves: the port HUNTING, or the owner's answer as a reply. -/
theorem State.serve_of {P : State → Prop} {k : Byte} {cls : RequestClass} {form : List Byte → Bool}
    {owner : List Byte → State → Answered} {tag : Byte} {p : List Byte} {s : State}
    (reply : ∀ kind a, P a.state → P (State.reply tag kind a)) (hunt : P s.hunt)
    (answer : classRefusal cls s.te.winder = none → P (owner p s.hunt).state) :
    P (State.serve k cls form owner tag p s) := by
  unfold State.serve checked
  split
  · refine reply _ _ ?_
    split
    · split
      · exact hunt
      · next hc => exact answer hc
    · exact hunt
  · exact hunt

theorem classRefusal_stood_eq_none {w : WinderState} (h : classRefusal .stood w = none) : w = .stoodDown := by
  by_contra hw
  simp [classRefusal, hw] at h

/-- What a request leaves: the port HUNTING, an answer as a reply, or an edit of the description, which
STOOD_DOWN alone admits and which a store write in progress refuses (R4, R196). -/
theorem State.request_of {P : State → Prop} (kind tag : Byte) (p : List Byte) (s : State)
    (reply : ∀ kind a, P a.state → P (State.reply tag kind a)) (hunt : P s.hunt)
    (edit : s.te.winder = .stoodDown → ∀ owner, Edits owner → P (owner p s.hunt).state)
    (act : ∀ owner, Acts owner → P (owner p s.hunt).state) : P (s.request kind tag p) := by
  have acts {k cls form owner} (ho : Acts owner) : P (State.serve k cls form owner tag p s) :=
    State.serve_of reply hunt fun _ => act _ ho
  have edits {k form owner} (ho : Edits owner) :
      P (State.serve k .stood form (whenStoreIdle owner) tag p s) :=
    State.serve_of reply hunt fun hc => by
      unfold whenStoreIdle
      split
      · exact hunt
      · exact edit (classRefusal_stood_eq_none hc) _ ho
  unfold State.request
  split
  · exact acts .askIdentity
  · exact acts .askStatus
  · exact acts .askPosition
  · exact acts .askQueue
  · exact acts .takeEvents
  · exact acts .askFaults
  · exact acts .readFaultLog
  · exact acts .ackFault
  · exact acts .clearFaultLog
  · exact acts .askWatch
  · exact edits .putLevel
  · exact acts .askLevel
  · exact edits .putMark
  · exact acts .askMark
  · exact edits .putDrum
  · exact acts .askDrum
  · exact edits .putConveyance
  · exact acts .askConveyance
  · exact edits .putLimits
  · exact acts .askLimits
  · exact edits .putSeverity
  · exact edits .commit
  · exact acts .setDatum
  · exact acts .setService
  · exact acts .setMode
  · exact acts .queueTrip
  · exact acts .queueSkip
  · exact acts .withdraw
  · exact acts .prepare
  · exact acts .start
  · exact acts .stop
  · exact acts .retarget
  · exact acts .setWatch
  · exact acts .clearWatch
  · exact acts .clutchOut
  · exact acts .clutchIn
  · exact acts .resetTrip
  · exact acts .clearLockout
  · exact acts .restart
  · exact of_ite (reply _ _ hunt) hunt

/-- A byte on the line changes the receiver, or brings a request whole (R192, R193). -/
theorem State.receiveByte_of {P : State → Prop} (b : Byte) (s : State)
    (link : ∀ r bs, P (s.modLink fun l => { l with receive := r, buffer := bs }))
    (request : ∀ kind tag p, P (s.hunt.request kind tag p)) : P (s.receiveByte b) := by
  have keep : P s := link s.link.receive s.link.buffer
  unfold State.receiveByte
  split
  · exact keep
  split
  · refine of_ite (link _ _) (of_ite (of_ite (request _ _ _) (link _ _)) ?_)
    exact link s.link.receive _
  · exact of_ite (link _ _) keep

/-- The request that a row of the table carries: what has passed, the kind, the tag and the payload. -/
def Instr.row : Instr → Option (Elapse × Byte × Byte × List Byte)
  | .unknownKind e tag kind p => some (e, kind, tag, p)
  | .askIdentity e tag p => some (e, 0x01, tag, p)
  | .askStatus e tag p => some (e, 0x02, tag, p)
  | .askPosition e tag p => some (e, 0x03, tag, p)
  | .askQueue e tag p => some (e, 0x04, tag, p)
  | .takeEvents e tag p => some (e, 0x05, tag, p)
  | .askFaults e tag p => some (e, 0x06, tag, p)
  | .readFaultLog e tag p => some (e, 0x07, tag, p)
  | .ackFault e tag p => some (e, 0x08, tag, p)
  | .clearFaultLog e tag p => some (e, 0x09, tag, p)
  | .askWatch e tag p => some (e, 0x0A, tag, p)
  | .putLevel e tag p => some (e, 0x10, tag, p)
  | .askLevel e tag p => some (e, 0x11, tag, p)
  | .putMark e tag p => some (e, 0x12, tag, p)
  | .askMark e tag p => some (e, 0x13, tag, p)
  | .putDrum e tag p => some (e, 0x14, tag, p)
  | .askDrum e tag p => some (e, 0x15, tag, p)
  | .putConveyance e tag p => some (e, 0x16, tag, p)
  | .askConveyance e tag p => some (e, 0x17, tag, p)
  | .putLimits e tag p => some (e, 0x18, tag, p)
  | .askLimits e tag p => some (e, 0x19, tag, p)
  | .putSeverity e tag p => some (e, 0x1A, tag, p)
  | .commit e tag p => some (e, 0x1B, tag, p)
  | .setDatum e tag p => some (e, 0x1C, tag, p)
  | .setServiceOn e tag => some (e, 0x20, tag, [1])
  | .setServiceOff e tag => some (e, 0x20, tag, [0])
  | .setMode e tag p => some (e, 0x21, tag, p)
  | .queueTrip e tag p => some (e, 0x22, tag, p)
  | .queueSkipCycles e tag p => some (e, 0x23, tag, p)
  | .withdraw e tag p => some (e, 0x24, tag, p)
  | .prepare e tag p => some (e, 0x25, tag, p)
  | .start e tag p => some (e, 0x26, tag, p)
  | .stop e tag p => some (e, 0x27, tag, p)
  | .retarget e tag p => some (e, 0x28, tag, p)
  | .setWatch e tag p => some (e, 0x29, tag, p)
  | .clearWatch e tag p => some (e, 0x2A, tag, p)
  | .clutchOut e tag p => some (e, 0x2B, tag, p)
  | .clutchIn e tag p => some (e, 0x2C, tag, p)
  | .resetTrip e tag p => some (e, 0x2D, tag, p)
  | .clearLockout e tag p => some (e, 0x2E, tag, p)
  | .restart e tag p => some (e, 0x2F, tag, p)
  | _ => none

/-- A row's command does what the frame of its kind does. -/
theorem exec_eq_request_of_row {c : Instr} {e : Elapse} {kind tag : Byte} {p : List Byte} (s : State)
    (h : Instr.row c = some (e, kind, tag, p)) : exec c s = .next ((s.elapse e).request kind tag p) := by
  cases c <;> first | cases h; rfl | exact absurd h nofun

end Sys2Proof.Machine
end

section
/-! What every command keeps of a predicate that the elementary changes keep. -/

namespace Sys2Proof.Machine

open Sys2Proof

/-- The changes of the Description Store that the requests of the description and a store write make (R4, R7 to
R20): an edit of a table or of the limits, a stored severity, the beginning of a write and its end. -/
inductive StoreChange : (DescriptionStore → DescriptionStore) → Prop
  | table (f : Description → Description) (hf : ∀ d, (f d).severities = d.severities) :
    StoreChange fun d => { d with desc := f d.desc, uncommitted := true }
  | severity (k : FaultKind) (v : Severity) (hv : floorOf k ≤ v) :
    StoreChange fun d => { d with
      desc := { d.desc with severities := d.desc.severities.setIfInBounds k.idx v }, uncommitted := true }
  | beginWrite : StoreChange fun d => { d with storeState := .writing, stored := .unchecked }

/-- The ends of a store write (R20). -/
inductive WriteEnd : (DescriptionStore → DescriptionStore) → Prop
  | agrees : WriteEnd fun d =>
    { d with stored := .valid d.desc, uncommitted := false, lastWrite := .written, storeState := .idle }
  | differs : WriteEnd fun d => { d with stored := .unchecked, lastWrite := .failed, storeState := .idle }

/-- RESTART block by block. -/
theorem State.restartBlocks_eq (s : State) : s.restartBlocks =
    ((((((((s.modEfe fun e => { e with drums := ⟨e.drums.a.unpair, e.drums.b.unpair⟩ }).modTq fun _ => []).modTe
      fun t => { t.clearTrip with unitMode := .normal }).modRg fun r => { r with refPrev := 0, label := .none }).modEs
      fun e => { e with env := 0, margin := 0, tier1 := 0, tier2 := 0, deadline := none, follow := none,
                        legStart := none, progress := 0 }).modWt fun _ => Vector.replicate 16 none).modCc
      fun k => { k with discrepancy := none }).modFm
      fun f => { f with pending := Vector.replicate 31 false, inForce := none, stopOrder := false }).modLink
      fun l => { l with events := [], overrun := false } := rfl

theorem of_answer {P : State → Prop} {c : ResultCode} {d : List Byte} {s : State} (h : P s) :
    P (answer c d s).state := h

namespace Kept
variable {P : State → Prop} (hP : Kept P) {s : State} (h : P s)
include hP h

theorem hunt : P s.hunt := hP.modLink _ h

omit h in
theorem reply (tag k : Byte) (a : Answered) (h : P a.state) : P (State.reply tag k a) := hP.modLink _ h

theorem setDatum (c : Conv) (d : Int) : P (s.setDatum c d) :=
  hP.reporting.setCertainty (hP.modPm _ <| hP.reporting.modDrum (hP.reporting.modConv h _ _) _ _) _ _ _

theorem admitRecord (r : TripRecord) (n : Nat) : P (s.admitRecord r n) := hP.raise _ _ _ _ _ _ (hP.modTq _ h)

theorem loadFor (b : TripBody) : P (s.loadFor b) := by
  unfold State.loadFor
  split
  · exact hP.reporting.setLoadClass h _ _
  · exact h

theorem activate (r : TripRecord) (b : Built) : P (s.activate r b) :=
  hP.enterPreparing (hP.modTe _ <| hP.loadFor (hP.adopt (hP.modHead h _) b) _) _ _

theorem retargeted (r : TripRecord) (b : Built) (x y : Int) : P (s.retargeted r b x y) :=
  hP.raise _ _ _ _ _ _ (hP.modEs _ <| hP.modHead (hP.adopt h b) _)

theorem resetTrip : P s.resetTrip := by
  unfold State.resetTrip
  split
  · exact hP.enter h _ _ _
  · exact hP.enter (hP.discardQueue h) _ _ _

theorem restartBlocks : P s.restartBlocks := by
  rw [State.restartBlocks_eq]
  exact hP.modLink _ (hP.modFm _ <| hP.modCc _ <| hP.modWt _ <| hP.modEs _ <| hP.modRg _ <| hP.modTe _ <|
    hP.modTq _ <| hP.modEfe _ h) fun _ => Nat.zero_le _

theorem dropEvents (k : Nat) : P (s.dropEvents k) :=
  hP.modLink _ h fun l => by simp

theorem stopActive : P (stopActive s).state := by
  unfold Machine.stopActive
  split
  · exact hP.toIdle h _
  · exact hP.toIdle h _
  · split
    · exact hP.beginStopping h _ _ _
    · exact of_answer (hP.modTe _ h)
  · exact h
  · exact hP.toIdle h _
  · exact hP.toIdle h _
  all_goals exact h

theorem start (p : List Byte) : P (start p s).state := by
  unfold Machine.start
  dsimp only
  split
  case h_6 => split <;> first | exact of_answer (hP.modTe _ h) | exact h
  case h_7 => split <;> first | exact hP.beginLeg h _ | exact h
  case h_8 =>
    unfold startHeld
    split
    · split
      · exact h
      · exact of_ite (P := fun a : Answered => P a.state)
          (hP.enterPreparing (hP.modTe _ <| hP.adopt h _) _ _) h
    · exact h
  all_goals exact h

theorem setService (p : List Byte) : P (setService p s).state := by
  unfold Machine.setService
  split
  · unfold serviceOn serviceOnChecks
    (repeat' split) <;> first | exact h | exact hP.enter h _ _ _
  · unfold serviceOff
    split
    · exact h
    · exact hP.enter (hP.discardQueue h) _ _ _
    all_goals exact h

theorem retarget (p : List Byte) : P (retarget p s).state := by
  unfold Machine.retarget retargetChecked refuseLate
  dsimp only
  (repeat' split) <;> first | exact h | exact hP.retargeted h _ _ _ _

/-- What the owners' answers keep that do not edit the description. -/
theorem act {owner : List Byte → State → Answered} (ho : Acts owner) (p : List Byte) : P (owner p s).state := by
  cases ho with
  | askIdentity => exact h
  | askStatus => exact h
  | askPosition => exact h
  | askQueue => exact h
  | askFaults => exact h
  | askWatch => exact h
  | askLimits => exact h
  | askLevel => unfold askLevel; dsimp only; split <;> exact h
  | askMark => unfold askMark; dsimp only; split <;> exact h
  | askDrum => unfold askDrum; split <;> exact h
  | askConveyance => unfold askConveyance; split <;> exact h
  | readFaultLog => unfold readFaultLog; split <;> exact h
  | setDatum => unfold datumRequest; (repeat' split) <;> first | exact h | exact hP.setDatum h _ _
  | setService => exact hP.setService h p
  | setMode => unfold setMode; split <;> first | exact of_answer (hP.modTe _ h) | exact h
  | queueTrip => unfold queueTrip; dsimp only; split <;> first | exact h | exact hP.admitRecord h _ _
  | queueSkip => unfold queueSkip; dsimp only; split <;> first | exact h | exact hP.admitRecord h _ _
  | withdraw =>
    unfold withdraw; (repeat' split) <;> first | exact h | exact hP.raiseEnded (hP.modTq _ h) _ _ _
  | prepare =>
    unfold prepare; dsimp only; (repeat' split) <;> first | exact h | exact hP.activate h _ _
  | start => exact hP.start h p
  | stop => unfold stop; (repeat' split) <;> first | exact h | exact hP.stopActive h
  | retarget => exact hP.retarget h p
  | resetTrip => unfold resetRequest; split <;> first | exact h | exact hP.resetTrip h
  | clearLockout =>
    unfold clearLockout; split
    · exact h
    · exact hP.enter (hP.discardQueue <| hP.clearPending h _) _ _ _
  | restart =>
    unfold restart; split
    · exact hP.restartBlocks h
    · exact hP.enter (hP.restartBlocks h) _ _ _
    · exact hP.enter (hP.restartBlocks h) _ _ _
    all_goals exact h
  | takeEvents => unfold takeEvents; dsimp only; split <;> first | exact h | exact hP.dropEvents h _
  | ackFault => unfold ackFault; split <;> first | exact h | exact hP.clearPending h _
  | clearFaultLog =>
    unfold clearFaultLog; split
    · exact of_answer (hP.modFm _ h fun _ => ⟨rfl, .inr rfl⟩)
    · exact h
  | setWatch =>
    unfold setWatchPoint; dsimp only; (repeat' split) <;> first | exact h | exact hP.setWatch h _ _
  | clearWatch =>
    unfold clearWatch; dsimp only
    (repeat' split) <;> first | exact h | exact hP.setWatch h _ _ | exact of_answer (hP.modWt _ h)
  | clutchOut => unfold clutchOut; split <;> first | exact h | exact hP.beginRelease h
  | clutchIn =>
    unfold clutchIn; dsimp only; (repeat' split) <;> first | exact h | exact hP.beginClosing h

theorem drumChanged (c : Conv) : P (s.drumChanged c) :=
  hP.modCc _ <| hP.modEs _ <| hP.reporting.modDrum (hP.reporting.setCertainty h _ _ _) _ _

/-- What the edits of the description keep, where the changes of the Description Store are kept. -/
theorem edit (hds : ∀ f, StoreChange f → ∀ t, P t → P (t.modDs f)) {owner : List Byte → State → Answered}
    (ho : Edits owner) (p : List Byte) : P (owner p s).state := by
  have table (f : Description → Description) (hf : ∀ d, (f d).severities = d.severities := by exact fun _ => rfl) :
      P (s.editDesc f) := hds _ (.table f hf) _ h
  cases ho with
  | putLevel => unfold putLevel; dsimp only; (repeat' split) <;> first | exact h | exact of_answer (table _)
  | putMark =>
    unfold putMark; dsimp only
    (repeat' split) <;> first | exact h | exact of_answer (hP.reporting.setPassage (table _) _ _)
  | putDrum => unfold putDrum; split <;> first | exact h | exact of_answer (hP.drumChanged (table _) _)
  | putConveyance =>
    unfold putConveyance; (repeat' split) <;> first
      | exact h
      | exact of_answer (hP.reporting.setCertainty (table _) _ _ _)
  | putLimits => unfold putLimits; split <;> first | exact h | exact of_answer (hP.modLink _ (table _))
  | putSeverity =>
    unfold putSeverity
    (repeat' split) <;> first | exact h | exact hds _ (.severity _ _ (le_max_right _ _)) _ h
  | commit => unfold commit; split <;> first | exact h | exact hds _ .beginWrite _ h

/-- What a request keeps. -/
theorem request (hds : s.te.winder = .stoodDown → ∀ f, StoreChange f → ∀ t, P t → P (t.modDs f))
    (kind tag : Byte) (p : List Byte) : P (s.request kind tag p) :=
  State.request_of kind tag p s (hP.reply tag) (hP.hunt h)
    (fun hw _ ho => hP.edit (hP.hunt h) (hds hw) ho p) fun _ ho => hP.act (hP.hunt h) ho p

theorem leaveChecking : P s.leaveChecking := by
  unfold State.leaveChecking
  split
  · exact hP.lock (hP.modFm _ h) _
  · exact hP.trip (hP.modFm _ h) _ _
  · exact hP.enter h _ _ _

theorem load (hload : ∀ t, P t →
    P (t.modDs fun d => { d with desc := StoredCopy.description d.stored, loaded := true })) : P s.load :=
  have hs := hP.reporting.setCertainty (hP.reporting.setCertainty (hP.drumChanged (hP.drumChanged (hload s h) .a) .b) .a .uncertain
    .description) .b .uncertain .description
  of_ite (hP.report hs _) hs

theorem onChange (change : InputLines → InputLines) (act : State → State) (hact : ∀ t, P t → P (act t)) :
    P (s.onChange change act) := of_ite h (hact _ (hP.modLines _ h))

omit h in
/-- What every command but POWER_ON keeps that holds once time has passed, where a Sample record keeps it of the
messages it sends, the load of the description it makes, and a store write of its end. -/
theorem exec {c : Instr} {t : State} (he : exec c s = .next t) (hc : ∀ up, c ≠ .powerOn up)
    (h : ∀ e, P (s.elapse e))
    (hds : s.te.winder = .stoodDown → ∀ f, StoreChange f → ∀ t, P t → P (t.modDs f))
    (hload : s.te.winder = .checking → ∀ t, P t →
      P (t.modDs fun d => { d with desc := StoredCopy.description d.stored, loaded := true }))
    (hwrite : ∀ f, WriteEnd f → ∀ t, P t → P (t.modDs f))
    (hsend : ∀ e heads order, c = .sample e heads order →
      ∀ (t : State) (r : Int), P t → P (t.sendDrive r true)) : P t := by
  cases hr : Instr.row c with
  | some x =>
    obtain ⟨e, kind, tag, p⟩ := x
    rw [exec_eq_request_of_row s hr] at he
    cases he
    exact hP.request (h e) hds kind tag p
  | none =>
    cases c
    case powerOn up => exact absurd rfl (hc up)
    case checkingEnd e =>
      have h0 := h e
      unfold Machine.exec execCheckingEnd at he
      dsimp only at he
      split at he <;> cases he
      · next hw =>
        have h1 := of_ite (c := (s.elapse e).ds.loaded) h0 (hP.load h0 (hload hw))
        exact hP.leaveChecking (of_ite h1 (hP.readClutch h1))
      · exact h0
    case clutchPowerOnRead e =>
      unfold Machine.exec execClutchPowerOnRead at he
      dsimp only at he
      split at he <;> cases he
      · exact hP.readClutch (h e)
      · exact h e
    case sample e heads order =>
      cases he
      exact of_foldl _ (hP.reporting.takeRecord (h e) heads)
        fun _ _ ht => hP.takeBlock ht (hsend e heads order rfl) _ _ _ _
    case runLost e c =>
      unfold Machine.exec execRunLost at he
      dsimp only at he
      split at he <;> cases he
      · exact hP.reporting.loseRun (h e) c
      · exact h e
    case markEdge e line age => cases he; exact hP.reporting.takeEdge (h e) _ _
    case driveNotFollowing e => cases he; exact hP.reporting.reportAll (h e) _
    case tripOvertime e => cases he; exact hP.reporting.reportAll (h e) _
    case signalOkAsserted e =>
      cases he
      exact hP.onChange (h e) _ _ fun _ ht => of_ite (hP.enterGates ht) ht
    case shaftStopAsserted e =>
      cases he
      exact hP.onChange (h e) _ _ fun _ ht => of_ite (hP.report ht _) ht
    case emergencyInOpen e =>
      cases he
      exact hP.onChange (h e) _ _ fun _ ht => hP.report ht _
    case gateOpens e line =>
      cases he
      exact hP.onChange (h e) _ _ fun _ ht => of_ite (hP.report ht _) ht
    case brakeAppliedAsserted e =>
      cases he
      exact hP.onChange (h e) _ _ fun _ ht => of_ite (hP.brakesConfirmed ht) ht
    case bBrakeAppliedAsserted e =>
      cases he
      exact hP.onChange (h e) _ _ fun _ ht => of_ite (hP.beginOpening ht) ht
    case clutchSwitchChange e opened closed =>
      cases he
      exact hP.onChange (h e) _ _ fun _ ht => of_ite (hP.switchChange ht) ht
    case skipLoadedAsserted e =>
      cases he
      exact hP.onChange (h e) _ _ fun _ ht => of_ite (hP.skipLoaded ht) (hP.report ht _)
    case skipDumpedAsserted e =>
      cases he
      exact hP.onChange (h e) _ _ fun _ ht => of_ite (hP.skipDumped ht) (hP.report ht _)
    case signalWaitExpiry e =>
      unfold Machine.exec execSignalWaitExpiry at he
      dsimp only at he
      split at he <;> cases he
      exacts [h e, hP.phaseFail (hP.modTe _ <| hP.reach (h e) _) _]
    case torqueWaitExpiry e =>
      unfold Machine.exec execTorqueWaitExpiry at he
      dsimp only at he
      split at he <;> cases he
      exacts [h e, hP.torqueEnd (hP.modTe _ <| hP.reach (h e) _)]
    case releaseWaitExpiry e =>
      unfold Machine.exec execReleaseWaitExpiry at he
      dsimp only at he
      split at he <;> cases he
      exacts [h e, hP.releaseEnd (hP.modTe _ <| hP.reach (h e) _)]
    case settleWaitExpiry e =>
      unfold Machine.exec execSettleWaitExpiry at he
      dsimp only at he
      split at he <;> cases he
      exacts [h e, hP.settleEnd (hP.modTe _ <| hP.reach (h e) _)]
    case brakeTimerExpiry e =>
      unfold Machine.exec execBrakeTimerExpiry at he
      dsimp only at he
      split at he <;> cases he
      exacts [h e, hP.report (hP.modTe _ <| hP.reach (h e) _) _]
    case loadWaitExpiry e =>
      unfold Machine.exec execLoadWaitExpiry at he
      dsimp only at he
      split at he <;> cases he
      exacts [h e, hP.report (hP.modTe _ <| hP.reach (h e) _) _]
    case dumpWaitExpiry e =>
      unfold Machine.exec execDumpWaitExpiry at he
      dsimp only at he
      split at he <;> cases he
      exacts [h e, hP.report (hP.modTe _ <| hP.reach (h e) _) _]
    case clutchReleaseTimeout e =>
      unfold Machine.exec execClutchReleaseTimeout at he
      dsimp only at he
      split at he <;> cases he
      exacts [h e, hP.releaseFail (hP.reach (h e) _)]
    case clutchEngageTimeout e =>
      unfold Machine.exec execClutchEngageTimeout at he
      dsimp only at he
      split at he <;> cases he
      exacts [h e, hP.engageFail (hP.reach (h e) _)]
    case storeWriteEnd e readBack =>
      unfold Machine.exec execStoreWriteEnd at he
      dsimp only at he
      split at he <;> cases he
      · cases readBack with
        | agrees => exact hP.raise _ _ _ _ _ _ (hwrite _ .agrees _ (h e))
        | differs n => exact hP.raise _ _ _ _ _ _ (hwrite _ .differs _ (h e))
      · exact h e
    case attnPulseEnd e =>
      unfold Machine.exec execAttnPulseEnd at he
      dsimp only at he
      split at he <;> cases he
      exacts [h e, hP.modLink _ (hP.reach (h e) _)]
    case frameGapTimeout e =>
      unfold Machine.exec execFrameGapTimeout at he
      dsimp only at he
      split at he <;> cases he
      exacts [hP.hunt (h e), h e]
    case frameDiscard e why => cases he; exact hP.hunt (h e)
    case replyBegin e =>
      unfold Machine.exec execReplyBegin at he
      dsimp only at he
      split at he <;> cases he
      exacts [hP.modLink _ (hP.hunt (h e)), h e]
    case replyEnd e =>
      unfold Machine.exec execReplyEnd at he
      dsimp only at he
      split at he <;> cases he
      exacts [hP.modLink _ (h e), h e]
    case byteReceived e byte =>
      cases he
      exact State.receiveByte_of byte _ (fun _ _ => hP.modLink _ (h e)) fun _ _ _ =>
        hP.request (hP.hunt (h e)) hds _ _ _
    all_goals exact absurd hr nofun

end Kept
end Sys2Proof.Machine
end

section
/-! The laws of the Event Queue, the fault log and the severities, the description outside STOOD_DOWN, and the
counts of the drive messages: each a predicate that the elementary changes keep (R2, R87, R173, R174, R185,
R200). -/

namespace Sys2Proof.Machine

open Sys2Proof

/-! #### The Event Queue and the fault log -/

/-- A record joins a queue of no more than `n`, a full one losing its oldest. -/
theorem length_joined_le {α : Type} (l : List α) (x : α) {n : Nat} (hn : 0 < n) (h : l.length ≤ n) :
    ((if l.length < n then l else l.drop 1) ++ [x]).length ≤ n := by
  rw [List.length_append, List.length_singleton]
  split
  · assumption
  · rw [List.length_drop]; omega

theorem State.eventLaw_kept : Kept State.eventLaw where
  setClock _ h := h
  modEfe _ h := h
  modPm _ h := h
  modTq _ h := h
  modTe _ h := h
  modEs _ h := h
  modWt _ h := h
  modCc _ h := h
  modLines _ h := h
  modRg _ h _ := h
  modFm _ h _ := h
  modLink _ h hf := le_trans (hf _) h
  log _ _ h := h
  countReport _ h := h
  sendIdle h := h
  raise k trip v1 v2 v3 v4 h := by
    exact length_joined_le _ _ (by decide) h

/-- A table with one place set holds what it held, or what was set. -/
theorem forall_mem_setIfInBounds {α : Type} {n : Nat} {P : α → Prop} {v : Vector α n} {i : Nat} {x : α}
    (hv : ∀ y ∈ v.toList, P y) (hx : P x) : ∀ y ∈ (v.setIfInBounds i x).toList, P y := by
  intro y hy
  rw [Vector.toList_setIfInBounds] at hy
  rcases List.mem_or_eq_of_mem_set hy with h | rfl
  · exact hv y h
  · exact hx

theorem State.faultLaw_kept : Kept State.faultLaw where
  setClock _ h := h
  modEfe _ h := h
  modPm _ h := h
  modTq _ h := h
  modTe _ h := h
  modEs _ h := h
  modWt _ h := h
  modCc _ h := h
  modLines _ h := h
  modRg _ h _ := h
  modLink _ h _ := h
  raise _ _ _ _ _ _ h := h
  sendIdle h := h
  modFm {s} f h hf := by
    obtain ⟨hlater, hfirst, hcounts⟩ := h
    obtain ⟨hc, ⟨h1, h2⟩ | h2⟩ := hf s.fm
    · exact ⟨by simpa [h2], by simpa [h1, h2], by rw [State.modFm_fm, hc]; exact hcounts⟩
    · exact ⟨by simp [h2], by simp [h2], by rw [State.modFm_fm, hc]; exact hcounts⟩
  log {s} r v h := by
    obtain ⟨hlater, hfirst, hcounts⟩ := h
    refine ⟨?_, ?_, ?_⟩ <;> simp only [State.log, State.modFm]
    · split
      · exact hlater
      · split
        · simp only [List.length_append, List.length_singleton]; omega
        · exact hlater
    · split
      · exact nofun
      · next x hx => split <;> simp [hx]
    · (repeat' split) <;> exact hcounts
  countReport k h := by
    obtain ⟨hlater, hfirst, hcounts⟩ := h
    exact ⟨hlater, hfirst, forall_mem_setIfInBounds hcounts (min_le_left _ _)⟩

/-! #### The severities -/

/-- A predicate of the Description Store alone. -/
theorem kept_of_ds (Q : DescriptionStore → Prop) : Kept fun s => Q s.ds where
  setClock _ h := h
  modEfe _ h := h
  modPm _ h := h
  modTq _ h := h
  modTe _ h := h
  modEs _ h := h
  modWt _ h := h
  modCc _ h := h
  modLines _ h := h
  modRg _ h _ := h
  modFm _ h _ := h
  modLink _ h _ := h
  raise _ _ _ _ _ _ h := h
  log _ _ h := h
  countReport _ h := h
  sendIdle h := h

theorem FaultKind.idx_injective {j k : FaultKind} (h : j.idx = k.idx) : j = k := by
  have hall : ∀ j k : FaultKind, FaultKind.idx j = FaultKind.idx k → j = k := by
    intro j k
    cases j <;> cases k <;> decide
  exact hall j k h

theorem FaultKind.idx_lt (k : FaultKind) : k.idx < 31 := by cases k <;> decide

theorem floorsKept_emptyDescription : floorsKept emptyDescription := by
  intro k
  cases k <;> decide +kernel

theorem floorsKept_of_severities {d d' : Description} (h : d'.severities = d.severities) :
    floorsKept d' ↔ floorsKept d := by simp only [floorsKept, h]

theorem floorsKept_setSeverity {d : Description} {k : FaultKind} {v : Severity} (hv : floorOf k ≤ v)
    (h : floorsKept d) : floorsKept { d with severities := d.severities.setIfInBounds k.idx v } := by
  intro j
  simp only [Vector.toList_setIfInBounds, List.getElem?_set]
  split
  · next hjk =>
    obtain rfl := FaultKind.idx_injective hjk
    simpa [FaultKind.idx_lt] using hv
  · exact h j

theorem severityLaw_storeChange {f : DescriptionStore → DescriptionStore} (hf : StoreChange f) {t : State}
    (h : t.severityLaw) : (t.modDs f).severityLaw := by
  obtain ⟨hdesc, hstored⟩ := h
  cases hf with
  | table f hf => exact ⟨(floorsKept_of_severities (hf _)).mpr hdesc, hstored⟩
  | severity k v hv => exact ⟨floorsKept_setSeverity hv hdesc, hstored⟩
  | beginWrite => exact ⟨hdesc, floorsKept_emptyDescription⟩

theorem severityLaw_writeEnd {f : DescriptionStore → DescriptionStore} (hf : WriteEnd f) {t : State}
    (h : t.severityLaw) : (t.modDs f).severityLaw := by
  obtain ⟨hdesc, hstored⟩ := h
  cases hf with
  | agrees => exact ⟨hdesc, hdesc⟩
  | differs => exact ⟨hdesc, floorsKept_emptyDescription⟩

theorem State.severityLaw_kept : Kept State.severityLaw :=
  kept_of_ds fun d => floorsKept d.desc ∧ floorsKept (StoredCopy.description d.stored)

/-! #### What power-on leaves -/

/-- What POWER_ON keeps that holds of the device as power finds it, and that the load of the description
keeps. -/
theorem Kept.powerOn {P : State → Prop} (hP : Kept P) {up : PowerUp} {s t : State}
    (he : Machine.exec (.powerOn up) s = .next t) (h : P (s.poweredUp up))
    (hload : ∀ t, P t →
      P (t.modDs fun d => { d with desc := StoredCopy.description d.stored, loaded := true })) : P t := by
  cases he
  have h1 : P (match up.selfCheck with
      | none => s.poweredUp up
      | some n => (s.poweredUp up).report
        { kind := .selfCheck, subject := 0, item1 := n, item2 := 0, item3 := 0 }) := by
    split
    · exact h
    · exact hP.report h _
  have h2 := of_ite (c := up.loadNow) (hP.load h1 hload) h1
  exact of_ite h2 (hP.report h2 _)

/-- What every step keeps that the elementary changes keep and every change of the Description Store. -/
theorem Kept.step {P : State → Prop} (hP : Kept P) {s t : State} (he : Machine.step s = .next t) (h : P s)
    (helapse : ∀ r e, P (State.elapse e { s with pending := r }))
    (hpower : ∀ r up, P (State.poweredUp up { s with pending := r }))
    (hds : ∀ f, StoreChange f → ∀ t, P t → P (t.modDs f))
    (hwrite : ∀ f, WriteEnd f → ∀ t, P t → P (t.modDs f))
    (hload : ∀ t, P t →
      P (t.modDs fun d => { d with desc := StoredCopy.description d.stored, loaded := true }))
    (hsend : ∀ (t : State) (r : Int), P t → P (t.sendDrive r true)) : P t := by
  unfold Machine.step at he
  split at he
  · cases he; exact h
  · next c rest _ =>
    by_cases hc : ∃ up, c = .powerOn up
    · obtain ⟨up, rfl⟩ := hc
      exact hP.powerOn he (hpower rest up) hload
    · exact hP.exec he (fun up hup => hc ⟨up, hup⟩) (helapse rest) (fun _ => hds) (fun _ => hload) hwrite
        fun _ _ _ _ => hsend

/-- Settles O58: each law is kept by the elementary changes, so by every step. -/
theorem logAndSeverityLawsAreKept : Obligations.LogAndSeverityLawsAreKept := by
  unfold Obligations.LogAndSeverityLawsAreKept
  intro s t he
  refine ⟨fun h => ?events, fun h => ?faults, fun h => ?severities⟩
  case events =>
    exact State.eventLaw_kept.step he h (fun _ _ => h) (fun _ _ => Nat.zero_le _)
      (fun _ _ _ ht => ht) (fun _ _ _ ht => ht) (fun _ ht => ht) fun _ _ ht => ht
  case faults =>
    refine State.faultLaw_kept.step he h (fun _ _ => h) (fun _ _ => ?_)
      (fun _ _ _ ht => ht) (fun _ _ _ ht => ht) (fun _ ht => ht) fun _ _ ht => ht
    exact ⟨Nat.zero_le _, fun _ => rfl, fun n hn => by
      rw [List.eq_of_mem_replicate (n := 31) hn]; decide⟩
  case severities =>
    obtain ⟨hdesc, hstored⟩ := h
    exact State.severityLaw_kept.step he ⟨hdesc, hstored⟩
      (fun _ _ => ⟨hdesc, hstored⟩) (fun _ _ => ⟨floorsKept_emptyDescription, hstored⟩)
      (fun _ hf _ ht => severityLaw_storeChange hf ht) (fun _ hf _ ht => severityLaw_writeEnd hf ht)
      (fun _ ht => ⟨ht.2, ht.2⟩) fun _ _ ht => ht

/-! #### The description outside STOOD_DOWN -/

/-- Settles O18: outside STOOD_DOWN no edit passes the port, outside CHECKING no load is made, and a store write
that ends leaves the working description. -/
theorem descriptionChangesOnlyStoodDown : Obligations.DescriptionChangesOnlyStoodDown := by
  unfold Obligations.DescriptionChangesOnlyStoodDown
  intro c s t he hc hstood hchecking
  have hP := kept_of_ds fun d => d.desc = s.ds.desc ∧ (d.uncommitted = true → s.ds.uncommitted = true)
  refine hP.exec he hc (fun e => ⟨rfl, id⟩) (fun hw => absurd hw hstood) (fun hw => absurd hw hchecking)
    (fun f hf t ht => ?_) fun _ _ _ _ _ _ ht => ht
  obtain ⟨hdesc, huncommitted⟩ := ht
  cases hf with
  | agrees => exact ⟨hdesc, nofun⟩
  | differs => exact ⟨hdesc, huncommitted⟩

/-! #### The drive messages -/

/-- The messages sent since a count count on from it; only those that `run` allows carry RUN, and the others a
reference of 0 (R87, R88). -/
def State.countsOn (seq : Byte) (run : Prop) (s : State) : Prop :=
  (∀ i (h : i < s.rg.sent.length), s.rg.sent[i].seq = seq + BitVec.ofNat 8 i) ∧
    s.rg.seq = seq + BitVec.ofNat 8 s.rg.sent.length ∧ (∀ m ∈ s.rg.sent, m.run = true → run) ∧
      ∀ m ∈ s.rg.sent, m.run = false → m.ref = 0

theorem State.countsOn_sendDrive {seq : Byte} {run : Prop} {s : State} (r : Int) (b : Bool)
    (hrun : b = true → run) (hidle : b = false → r = 0) (h : s.countsOn seq run) :
    (s.sendDrive r b).countsOn seq run := by
  obtain ⟨hsent, hseq, hruns, hrefs⟩ := h
  have hmem {m : DriveMessage} (hm : m ∈ (s.sendDrive r b).rg.sent) : m ∈ s.rg.sent ∨
      m = { seq := s.rg.seq, ref := if s.rg.guide = .a then r else -r, run := b } := by
    simpa [State.sendDrive, State.modRg, State.modEs] using hm
  refine ⟨fun i hi => ?_, ?_, fun m hm hb => ?_, fun m hm hb => ?_⟩
  · simp only [State.sendDrive, State.modRg, State.modEs, List.length_append, List.length_singleton] at hi ⊢
    rw [List.getElem_append]
    split
    · next hlt => exact hsent i hlt
    · next hlt =>
      obtain rfl : i = s.rg.sent.length := by omega
      simpa using hseq
  · simp only [State.sendDrive, State.modRg, State.modEs, List.length_append, List.length_singleton, hseq]
    rw [add_assoc, BitVec.ofNat_add]; rfl
  · rcases hmem hm with hm | rfl
    · exact hruns m hm hb
    · exact hrun hb
  · rcases hmem hm with hm | rfl
    · exact hrefs m hm hb
    · simp [hidle hb]

theorem State.countsOn_kept (seq : Byte) (run : Prop) : Kept (State.countsOn seq run) where
  setClock _ h := h
  modEfe _ h := h
  modPm _ h := h
  modTq _ h := h
  modTe _ h := h
  modEs _ h := h
  modWt _ h := h
  modCc _ h := h
  modLines _ h := h
  modFm _ h _ := h
  modLink _ h _ := h
  raise _ _ _ _ _ _ h := h
  log _ _ h := h
  countReport _ h := h
  sendIdle h := State.countsOn_sendDrive 0 false nofun (fun _ => rfl) h
  modRg {s} f h hf := by
    obtain ⟨hseq, hsent⟩ := hf s.rg
    unfold State.countsOn at h ⊢
    simpa only [State.modRg_rg, hseq, hsent] using h

theorem toInt_ofNat_natOfBytes_leInt {x : Int} (hlo : -2 ^ 31 ≤ x) (hhi : x < 2 ^ 31) :
    (BitVec.ofNat 32 (natOfBytes (leInt x))).toInt = x := by
  rw [leInt, natOfBytes_leWord, word32, if_pos ⟨hlo, hhi⟩, BitVec.ofNat_toNat, BitVec.setWidth_eq,
    BitVec.toInt_ofInt]
  exact Int.bmod_eq_of_le (by omega) (by omega)

theorem driveBytes_fields {m : DriveMessage} (hlo : -2 ^ 31 ≤ m.ref) (hhi : m.ref < 2 ^ 31) :
    (driveBytes m).length = 8 ∧ octet (driveBytes m) 0 = m.seq.toNat ∧ fieldInt (driveBytes m) 1 = m.ref ∧
      octet (driveBytes m) 5 = m.run.toNat ∧
      (driveBytes m).drop 6 = le16 (crc16 ((driveBytes m).take 6)).toNat := by
  refine ⟨rfl, octet_singleton m.seq, toInt_ofNat_natOfBytes_leInt hlo hhi, ?_, rfl⟩
  exact (natOfBytes_leBool m.run).trans (by cases m.run <;> rfl)

/-- Settles O31: the messages of a command start from none at the count it finds, and each one sent counts on;
the bytes of a message are read back field by field. -/
theorem driveMessagesCountOn : Obligations.DriveMessagesCountOn := by
  unfold Obligations.DriveMessagesCountOn
  refine ⟨fun c s t he hc => ?_, fun m hlo hhi => driveBytes_fields hlo hhi⟩
  refine (State.countsOn_kept s.rg.seq (∃ e heads order, c = .sample e heads order)).exec he hc (fun e => ?_)
    (fun _ _ _ _ ht => ht) (fun _ _ ht => ht) (fun _ _ _ ht => ht) fun e heads order hs t r ht => ?_
  · exact ⟨nofun, (BitVec.add_zero s.rg.seq).symm, nofun, nofun⟩
  · exact State.countsOn_sendDrive r true (fun _ => ⟨e, heads, order, hs⟩) nofun ht

end Sys2Proof.Machine
end

section
/-! The laws of the Trip Queue, the clutch and the reference over the operations that the meanings share (R49,
R79, R116, R130, R167). -/

namespace Sys2Proof.Machine

open Sys2Proof

/-! #### What the three laws speak of -/

/-- What the laws of the Trip Queue, the clutch and the reference read of the state. -/
structure Core where
  winder : WinderState
  rest : RestStep
  tq : List TripRecord
  refPrev : Nat
  limit : Nat
  latch : Bool
  clutch : ClutchState
  declutched : Nat

def State.core (s : State) : Core :=
  ⟨s.te.winder, s.te.rest, s.tq, s.rg.refPrev, s.rg.limit, s.rg.latch, s.cc.state, s.limits.declutchedSpeed⟩

theorem State.core_eq_iff {s t : State} : s.core = t.core ↔ s.te.winder = t.te.winder ∧ s.te.rest = t.te.rest ∧
    s.tq = t.tq ∧ s.rg.refPrev = t.rg.refPrev ∧ s.rg.limit = t.rg.limit ∧ s.rg.latch = t.rg.latch ∧
      s.cc.state = t.cc.state ∧ s.limits.declutchedSpeed = t.limits.declutchedSpeed := by
  simp only [State.core, Core.mk.injEq]

section core
variable (s : State)

@[simp] theorem State.core_setClock (t : Nat) : (s.setClock t).core = s.core := rfl
@[simp] theorem State.core_modEfe (f : EncoderFrontEnd → EncoderFrontEnd) : (s.modEfe f).core = s.core := rfl
@[simp] theorem State.core_modPm (f : PositionModel → PositionModel) : (s.modPm f).core = s.core := rfl
@[simp] theorem State.core_modEs (f : EnvelopeSupervisor → EnvelopeSupervisor) : (s.modEs f).core = s.core := rfl
@[simp] theorem State.core_modWt (f : Vector (Option WatchEntry) 16 → Vector (Option WatchEntry) 16) :
    (s.modWt f).core = s.core := rfl
@[simp] theorem State.core_modFm (f : FaultManager → FaultManager) : (s.modFm f).core = s.core := rfl
@[simp] theorem State.core_modLink (f : ControlLink → ControlLink) : (s.modLink f).core = s.core := rfl
@[simp] theorem State.core_modLines (f : InputLines → InputLines) : (s.modLines f).core = s.core := rfl
@[simp] theorem State.core_raise (k : EventKind) (t : Nat) (v1 v2 v3 v4 : Word32) :
    (s.raise k t v1 v2 v3 v4).core = s.core := rfl
@[simp] theorem State.core_raiseEnded (o : Nat) (r : TripRecord) (n : Nat) :
    (s.raiseEnded o r n).core = s.core := rfl
@[simp] theorem State.core_elapse (e : Elapse) : (s.elapse e).core = s.core := rfl
@[simp] theorem State.core_hunt : s.hunt.core = s.core := rfl
@[simp] theorem State.core_sendDrive (r : Int) (b : Bool) : (s.sendDrive r b).core = s.core := rfl
@[simp] theorem State.core_setStopOrder (b : Bool) : (s.setStopOrder b).core = s.core := rfl
@[simp] theorem State.core_setPending (k : FaultKind) (b : Bool) : (s.setPending k b).core = s.core := rfl
@[simp] theorem State.core_countReport (k : FaultKind) : (s.countReport k).core = s.core := rfl
@[simp] theorem State.core_log (r : Report) (v : Severity) : (s.log r v).core = s.core := rfl
@[simp] theorem State.core_reach (t : Nat) : (s.reach t).core = s.core := by
  simp [State.reach, apply_ite State.core]
@[simp] theorem State.core_setInForce (v : Severity) : (s.setInForce v).core = s.core := by
  simp [State.setInForce, apply_ite State.core]
@[simp] theorem State.core_setCertainty (c : Conv) (n : Certainty) (y : CertaintyCause) :
    (s.setCertainty c n y).core = s.core := by
  simp [State.setCertainty, apply_ite State.core, State.modConv]
@[simp] theorem State.core_setLoadClass (c : Conv) (k : LoadClass) : (s.setLoadClass c k).core = s.core := by
  simp [State.setLoadClass, apply_ite State.core, State.modConv, State.redepth]
@[simp] theorem State.core_insertSlow (i cap : Nat) (x : Int) : (s.insertSlow i cap x).1.core = s.core := by
  unfold State.insertSlow
  dsimp only
  (repeat' split) <;> rfl

/-- An update of the Trip Executive that leaves the winder state and the rest step. -/
theorem State.core_modTe (f : Executive → Executive)
    (hf : (f s.te).winder = s.te.winder ∧ (f s.te).rest = s.te.rest := by exact ⟨rfl, rfl⟩) :
    (s.modTe f).core = s.core := by
  obtain ⟨hw, hr⟩ := hf
  simp [State.core, State.limits, hw, hr]

/-- An update of the Clutch Controller that leaves the clutch state. -/
theorem State.core_modCc (f : ClutchController → ClutchController)
    (hf : (f s.cc).state = s.cc.state := by rfl) : (s.modCc f).core = s.core := by
  simp [State.core, State.limits, hf]

theorem State.core_enter (w : WinderState) (y : Cause) (t : Nat) :
    (s.enter w y t).core = { s.core with winder := w } := by
  have hrg : (s.enter w y t).rg = if w.moving then s.rg else { s.rg with label := .none } := rfl
  have hte : (s.enter w y t).te = { s.te with winder := w } := rfl
  simp only [State.core, hrg, hte, State.enter_tq, State.enter_cc, State.limits, State.enter_ds]
  split <;> rfl
end core

/-! #### The laws, and the states of no trip and of a trip at rest -/

/-- The law of the Trip Queue but for the winder state. -/
def State.queueShape (s : State) : Prop :=
  s.tq.length ≤ Config.queueCapacity ∧ (s.tq.map TripRecord.id).Nodup ∧ ∀ r ∈ s.tq.tail, r.active = false

/-- The law of the Trip Queue, with that of the clutch where `C` asks for it and that of the reference where `R`
does. -/
def State.laws (C R : Prop) (s : State) : Prop :=
  s.queueLaw ∧ (C → s.clutchLaw) ∧ (R → s.referenceLaw)

/-- No trip is active, and the winder rests. -/
def State.free (R : Prop) (s : State) : Prop :=
  s.queueShape ∧ s.activeHead = none ∧ (R → s.rg.refPrev = 0 ∧ s.te.rest = .none)

/-- A trip is active, and the winder rests. -/
def State.ready (C R : Prop) (s : State) : Prop :=
  s.queueShape ∧ s.activeHead.isSome = true ∧ (C → s.clutchLaw) ∧ (R → s.rg.refPrev = 0 ∧ s.te.rest = .none)

section predicates
variable {C R : Prop} {s t : State}

theorem State.activeHead_of_tq (h : t.tq = s.tq) : t.activeHead = s.activeHead := by
  unfold State.activeHead; rw [h]

theorem State.laws_of_core (h : t.core = s.core) (hs : s.laws C R) : t.laws C R := by
  obtain ⟨hw, hrest, htq, href, hlim, hlatch, hcc, hdec⟩ := State.core_eq_iff.mp h
  unfold State.laws State.queueLaw State.clutchLaw State.referenceLaw at hs ⊢
  simpa only [State.activeHead_of_tq htq, hw, hrest, htq, href, hlim, hlatch, hcc, hdec] using hs

theorem State.ready_of_core (h : t.core = s.core) (hs : s.ready C R) : t.ready C R := by
  obtain ⟨hw, hrest, htq, href, hlim, hlatch, hcc, hdec⟩ := State.core_eq_iff.mp h
  unfold State.ready State.queueShape State.clutchLaw at hs ⊢
  simpa only [State.activeHead_of_tq htq, hw, hrest, htq, href, hlim, hlatch, hcc, hdec] using hs

theorem State.free_of_core (h : t.core = s.core) (hs : s.free R) : t.free R := by
  obtain ⟨hw, hrest, htq, href, hlim, hlatch, hcc, hdec⟩ := State.core_eq_iff.mp h
  unfold State.free State.queueShape at hs ⊢
  simpa only [State.activeHead_of_tq htq, hw, hrest, htq, href, hlim, hlatch, hcc, hdec] using hs

theorem State.laws.shape (h : s.laws C R) : s.queueShape := by
  obtain ⟨⟨hlen, hids, -, htail⟩, -, -⟩ := h
  exact ⟨hlen, hids, htail⟩

theorem State.laws.isSome_activeHead (h : s.laws C R) : s.activeHead.isSome = s.te.winder.tripActive := by
  obtain ⟨⟨-, -, hactive, -⟩, -, -⟩ := h
  exact hactive

theorem WinderState.tripActive_of_moving {w : WinderState} (h : w.moving = true) : w.tripActive = true := by
  cases w <;> first | rfl | exact absurd h nofun

/-- Outside the states of an active trip the laws say that no trip is active and the winder rests. -/
theorem State.laws.free (h : s.laws C R) (hw : s.te.winder.tripActive = false) : s.free R := by
  refine ⟨h.shape, ?_, fun hR => ?_⟩
  · simpa [hw] using h.isSome_activeHead
  · obtain ⟨-, -, href⟩ := h
    obtain ⟨hzero, -, hrest, -⟩ := href hR
    have hm : s.te.winder.moving = false := by
      by_contra hm
      simp [WinderState.tripActive_of_moving (by simpa using hm)] at hw
    exact ⟨hzero hm, hrest hm⟩

/-- In a state of an active trip in which nothing moves a trip is active and the winder rests. -/
theorem State.laws.ready (h : s.laws C R) (hw : s.te.winder.tripActive = true)
    (hm : s.te.winder.moving = false) : s.ready C R := by
  refine ⟨h.shape, h.isSome_activeHead.trans hw, ?_⟩
  obtain ⟨-, hclutch, href⟩ := h
  refine ⟨hclutch, fun hR => ?_⟩
  obtain ⟨hzero, -, hrest, -⟩ := href hR
  exact ⟨hzero hm, hrest hm⟩

theorem State.referenceLaw_of_rest (hzero : s.rg.refPrev = 0) (hrest : s.te.rest = .none) : s.referenceLaw :=
  ⟨fun _ => hzero, fun _ => by omega, fun _ => hrest, fun _ h => absurd hrest h⟩

theorem State.free.laws (h : s.free R) (hw : s.te.winder.tripActive = false) : s.laws C R := by
  obtain ⟨⟨hlen, hids, htail⟩, hnone, hR⟩ := h
  refine ⟨⟨hlen, hids, by rw [hnone, hw]; rfl, htail⟩, fun _ _ r hr => ?_, fun h => ?_⟩
  · rw [hnone] at hr; cases hr
  · exact State.referenceLaw_of_rest (hR h).1 (hR h).2

theorem State.ready.laws (h : s.ready C R) (hw : s.te.winder.tripActive = true) : s.laws C R := by
  obtain ⟨⟨hlen, hids, htail⟩, hsome, hC, hR⟩ := h
  exact ⟨⟨hlen, hids, by rw [hsome, hw], htail⟩, hC, fun h => State.referenceLaw_of_rest (hR h).1 (hR h).2⟩

theorem State.core_enter_eq {w : WinderState} {y : Cause} {n : Nat} : (s.enter w y n).core =
    (s.modTe fun t => { t with winder := w }).core := s.core_enter w y n

theorem State.free.enter (h : s.free R) {w : WinderState} (hw : w.tripActive = false) (y : Cause) (n : Nat) :
    (s.enter w y n).laws C R :=
  State.free.laws (State.free_of_core State.core_enter_eq h) hw

theorem State.ready.enter (h : s.ready C R) {w : WinderState} (hw : w.tripActive = true) (y : Cause) (n : Nat) :
    (s.enter w y n).laws C R :=
  State.ready.laws (State.ready_of_core State.core_enter_eq h) hw

/-! #### Leaving the active trip -/

/-- An ACTIVE head, and the records behind it. -/
theorem State.tq_of_activeHead {r : TripRecord} (h : s.activeHead = some r) :
    r.active = true ∧ ∃ rest, s.tq = r :: rest := by
  unfold State.activeHead at h
  split at h
  · next r' rest htq =>
    split at h
    · next hr =>
      cases h
      exact ⟨hr, rest, htq⟩
    · cases h
  · cases h

theorem State.activeHead_of_tq_cons {r : TripRecord} {rest : List TripRecord} (h : s.tq = r :: rest) :
    s.activeHead = if r.active then some r else none := by simp [State.activeHead, h]

theorem State.activeHead_of_tq_nil (h : s.tq = []) : s.activeHead = none := by simp [State.activeHead, h]

/-- The head of a queue changed in place, its id kept: the shape stands. -/
theorem State.queueShape_modHead {f : TripRecord → TripRecord} (hf : ∀ r, (f r).id = r.id) (h : s.queueShape) :
    (s.modHead f).queueShape := by
  obtain ⟨hlen, hids, htail⟩ := h
  unfold State.queueShape State.modHead State.modTq
  cases htq : s.tq with
  | nil => simp
  | cons r rest =>
    rw [htq] at hlen hids htail
    exact ⟨hlen, by simpa [hf] using hids, htail⟩

theorem State.interrupt_free (hshape : s.queueShape)
    (hrest : s.activeHead = none → R → s.rg.refPrev = 0 ∧ s.te.rest = .none) : s.interrupt.free R := by
  unfold State.interrupt
  split
  · next hnone => exact ⟨hshape, hnone, hrest hnone⟩
  · next r hr =>
    obtain ⟨-, rest, htq⟩ := State.tq_of_activeHead hr
    refine ⟨State.queueShape_modHead (f := fun h => { h with active := false, interrupted := true })
      (fun _ => rfl) hshape, ?_, fun _ => ⟨rfl, rfl⟩⟩
    exact (State.activeHead_of_tq_cons (r := { r with active := false, interrupted := true }) (rest := rest)
      (by simp [State.modHead, htq])).trans (if_neg nofun)

theorem State.laws.interrupt (h : s.laws C R) : s.interrupt.free R :=
  State.interrupt_free h.shape fun hnone hR => by
    obtain ⟨-, -, hrest⟩ := h.free (by rw [← h.isSome_activeHead, hnone]; rfl)
    exact hrest hR

theorem State.ready.interrupt (h : s.ready C R) : s.interrupt.free R := by
  obtain ⟨hshape, hsome, -⟩ := h
  exact State.interrupt_free hshape fun hnone => by simp [hnone] at hsome

theorem State.queueShape_tail (h : s.queueShape) (f : List TripRecord → List TripRecord) (hf : f s.tq = s.tq.tail) :
    (s.modTq f).queueShape ∧ (s.modTq f).activeHead = none := by
  obtain ⟨hlen, hids, htail⟩ := h
  unfold State.queueShape State.activeHead
  rw [State.modTq_tq, hf]
  cases htq : s.tq with
  | nil => simp
  | cons r rest =>
    rw [htq] at hlen hids htail
    have hrest : ∀ x ∈ rest, x.active = false := htail
    simp only [List.map_cons, List.nodup_cons, List.length_cons] at hids hlen
    refine ⟨⟨by simpa using by omega, hids.2, fun x hx => hrest x (List.mem_of_mem_tail hx)⟩, ?_⟩
    cases rest with
    | nil => rfl
    | cons x xs => simp [hrest x List.mem_cons_self]

theorem State.complete_free (hshape : s.queueShape) (hsome : s.activeHead.isSome = true) : s.complete.free R := by
  unfold State.complete
  split
  · next hnone => simp [hnone] at hsome
  · obtain ⟨hs, hn⟩ := State.queueShape_tail hshape List.tail rfl
    exact ⟨hs, hn, fun _ => ⟨rfl, rfl⟩⟩

theorem State.discardQueue_free (h : R → s.rg.refPrev = 0 ∧ s.te.rest = .none) : s.discardQueue.free R := by
  have hte : s.discardQueue.te = s.te :=
    keeps_foldl State.te (fun s r => s.raiseEnded 3 r r.body.remaining) (fun _ _ => rfl) s.tq s
  have hrg : s.discardQueue.rg = s.rg :=
    keeps_foldl State.rg (fun s r => s.raiseEnded 3 r r.body.remaining) (fun _ _ => rfl) s.tq s
  exact ⟨⟨Nat.zero_le _, List.nodup_nil, nofun⟩, rfl, fun hR => by rw [hte, hrg]; exact h hR⟩

theorem State.laws.toIdle (h : s.laws C R) (y : Cause) : (s.toIdle y).laws C R :=
  State.free.enter h.interrupt rfl _ _

theorem State.ready.toIdle (h : s.ready C R) (y : Cause) : (s.toIdle y).laws C R :=
  State.free.enter h.interrupt rfl _ _

/-! #### The responses to a report -/

theorem State.halt_free (h : s.queueShape) : s.halt.free R :=
  State.free_of_core (s := State.interrupt _) (State.core_setStopOrder _ false)
    (State.interrupt_free h fun _ _ => ⟨rfl, rfl⟩)

theorem State.laws.beginStopping (h : s.laws C R) (hw : s.te.winder = .winding) (r : StopReason) (w : Option Nat)
    (y : Cause) : (s.beginStopping r w y).laws C R := by
  obtain ⟨⟨hlen, hids, hactive, htail⟩, hC, href⟩ := h
  refine State.laws_of_core (s := s.modTe fun t => { t with winder := .stopping, rest := .none }) ?_ ?_
  · exact State.core_enter_eq
  · refine ⟨⟨hlen, hids, ?_, htail⟩, hC, fun hR => ?_⟩
    · rw [hw] at hactive; exact hactive
    · obtain ⟨-, hle, -, -⟩ := href hR
      exact ⟨nofun, fun _ => hle (by rw [hw]; rfl), nofun, nofun⟩

theorem State.laws.trip (h : s.laws C R) (ret : ServiceReturn) (k : FaultKind) : (s.trip ret k).laws C R :=
  State.free.enter (State.free_of_core (State.core_modTe _ _) (State.halt_free h.shape)) rfl _ _

theorem State.laws.lock (h : s.laws C R) (k : FaultKind) : (s.lock k).laws C R :=
  State.free.enter (State.halt_free h.shape) rfl _ _

theorem State.laws.controlledStop (h : s.laws C R) (k : FaultKind) : (s.controlledStop k).laws C R := by
  unfold State.controlledStop
  split
  case h_3 hw =>
    split
    · exact State.laws_of_core (State.core_setStopOrder _ true) (h.beginStopping hw _ _ _)
    · exact State.laws_of_core ((State.core_setStopOrder _ true).trans (State.core_modTe _ _)) h
  case h_4 => exact State.laws_of_core ((State.core_setStopOrder _ true).trans (State.core_modTe _ _)) h
  all_goals first | exact h | exact h.toIdle _

theorem State.laws.order (h : s.laws C R) (k : FaultKind) (v : Severity) : (s.order k v).laws C R := by
  unfold State.order State.emergency State.lockout
  split
  · exact h
  · exact h.controlledStop k
  · split <;> first | exact h | exact h.trip _ _
  · split <;> first | exact h | exact h.lock _

/-- A report that is not pending, counted, flagged, logged and raised as an event, before its response (R174). -/
def State.taken (r : Report) (s : State) : State :=
  (((s.countReport r.kind).setPending r.kind true).log r (s.severity r.kind)).raise .fault s.activeId
    (reportWord r (s.severity r.kind) s.fm.place) (itemWord r.kind r.item1) (itemWord r.kind r.item2)
    (itemWord r.kind r.item3)

theorem State.report_eq (s : State) (r : Report) : s.report r =
    if s.isPending r.kind then s.countReport r.kind else (s.taken r).respond r.kind (s.severity r.kind) := rfl

@[simp] theorem State.core_taken (s : State) (r : Report) : (s.taken r).core = s.core := rfl
@[simp] theorem State.taken_te (s : State) (r : Report) : (s.taken r).te = s.te := rfl

theorem State.laws.respond (h : s.laws C R) (k : FaultKind) (v : Severity) : (s.respond k v).laws C R :=
  of_ite h ((State.laws_of_core (s.core_setInForce v) h).order k v)

theorem State.laws.report (h : s.laws C R) (r : Report) : (s.report r).laws C R := by
  rw [State.report_eq]
  exact of_ite (State.laws_of_core (s.core_countReport _) h)
    (State.laws.respond (State.laws_of_core (s.core_taken r) h) _ _)

/-- In CHECKING a report orders nothing (R183). -/
theorem State.core_report_of_checking (h : s.te.winder = .checking) (r : Report) : (s.report r).core = s.core := by
  rw [State.report_eq]
  split
  · exact s.core_countReport _
  · rw [State.respond, State.taken_te, if_pos (Or.inl h), State.core_taken]

theorem State.laws_reporting (C R : Prop) : Reporting (State.laws C R) where
  modEfe _ h := State.laws_of_core rfl h
  modPm _ h := State.laws_of_core rfl h
  modEs _ h := State.laws_of_core rfl h
  modCc f h hf := State.laws_of_core (State.core_modCc _ f (hf _)) h
  raise _ _ _ _ _ _ h := State.laws_of_core rfl h
  report r h := h.report r

/-- In CHECKING, with no trip active: reports leave it so. -/
theorem State.checking_reporting (R : Prop) : Reporting fun s => s.te.winder = .checking ∧ s.free R where
  modEfe _ h := h
  modPm _ h := h
  modEs _ h := h
  modCc f h _ := h
  raise _ _ _ _ _ _ h := h
  report {s} r h := by
    have hcore := State.core_report_of_checking h.1 r
    exact ⟨(State.core_eq_iff.mp hcore).1.trans h.1, State.free_of_core hcore h.2⟩
end predicates

end Sys2Proof.Machine
end

section
/-! The laws of the Trip Queue, the clutch and the reference over the sequences, the clutch and the Sample record
(R79, R124 to R136, R158 to R171). -/

namespace Sys2Proof.Machine

open Sys2Proof

section sequences
variable {C R : Prop} {s t : State}

theorem State.laws.of_modTe (h : s.laws C R) (f : Executive → Executive)
    (hf : (f s.te).winder = s.te.winder ∧ (f s.te).rest = s.te.rest := by exact ⟨rfl, rfl⟩) :
    (s.modTe f).laws C R := State.laws_of_core (s.core_modTe f hf) h

theorem State.ready.of_modTe (h : s.ready C R) (f : Executive → Executive)
    (hf : (f s.te).winder = s.te.winder ∧ (f s.te).rest = s.te.rest := by exact ⟨rfl, rfl⟩) :
    (s.modTe f).ready C R := State.ready_of_core (s.core_modTe f hf) h

theorem State.laws.raise (h : s.laws C R) (k : EventKind) (n : Nat) (v1 v2 v3 v4 : Word32) :
    (s.raise k n v1 v2 v3 v4).laws C R := State.laws_of_core (s.core_raise ..) h

theorem State.ready.raise (h : s.ready C R) (k : EventKind) (n : Nat) (v1 v2 v3 v4 : Word32) :
    (s.raise k n v1 v2 v3 v4).ready C R := State.ready_of_core (s.core_raise ..) h

theorem State.ready.activeHead_ne_none (h : s.ready C R) : s.activeHead ≠ none := by
  obtain ⟨-, hsome, -⟩ := h
  exact Option.isSome_iff_ne_none.mp hsome

theorem State.ready.complete (h : s.ready C R) : s.complete.free R := by
  obtain ⟨hshape, hsome, -⟩ := h
  exact State.complete_free hshape hsome

/-! #### The head changed in place, and a plan adopted -/

theorem State.activeHead_modHead {f : TripRecord → TripRecord} (hf : ∀ r, (f r).active = r.active) :
    (s.modHead f).activeHead = s.activeHead.map f := by
  unfold State.activeHead State.modHead
  rw [State.modTq_tq]
  cases s.tq with
  | nil => rfl
  | cons r rest => simp only [hf]; split <;> rfl

/-- A change of the active record that keeps its id, its status and the kind of its trip. -/
theorem State.ready.modHead (h : s.ready C R) {f : TripRecord → TripRecord}
    (hf : ∀ r, (f r).id = r.id ∧ (f r).active = r.active ∧ declutchedTrip (f r).body = declutchedTrip r.body) :
    (s.modHead f).ready C R := by
  obtain ⟨hshape, hsome, hC, hR⟩ := h
  have hhead := State.activeHead_modHead (s := s) fun r => (hf r).2.1
  refine ⟨State.queueShape_modHead (fun r => (hf r).1) hshape, by rw [hhead]; simpa using hsome,
    fun h hcc r hr => ?_, hR⟩
  rw [hhead] at hr
  obtain ⟨r', hr', rfl⟩ := Option.map_eq_some_iff.mp hr
  exact ⟨(hf r').2.2.trans (hC h hcc r' hr').1, (hC h hcc r' hr').2⟩

@[simp] theorem declutchedTrip_onLeg (b : TripBody) (leg : Leg) : declutchedTrip (b.onLeg leg) = declutchedTrip b := by
  cases b <;> rfl

theorem State.ready.onLeg (h : s.ready C R) (leg : Leg) :
    (s.modHead fun r => { r with body := r.body.onLeg leg }).ready C R :=
  h.modHead fun r => ⟨rfl, rfl, declutchedTrip_onLeg r.body leg⟩

@[simp] theorem declutchedTrip_cycledOnce (b : TripBody) : declutchedTrip (cycledOnce b) = declutchedTrip b := by
  cases b <;> rfl

@[simp] theorem declutchedTrip_activatedBody (b : TripBody) :
    declutchedTrip (s.activatedBody b) = declutchedTrip b := by
  unfold State.activatedBody
  split <;> rfl

/-- A plan built with the clutch not ENGAGED is held to the declutched speed (R70). -/
theorem State.tripLimit_le_declutched (hcc : s.cc.state ≠ .engaged) (r : TripRecord) :
    s.tripLimit r ≤ s.limits.declutchedSpeed := by
  unfold State.tripLimit
  rw [if_pos hcc]
  exact min_le_right _ _

theorem State.ready.adopt (h : s.ready C R) {b : Built}
    (hb : C → s.cc.state ≠ .engaged → b.limit ≤ s.limits.declutchedSpeed) : (s.adopt b).ready C R := by
  obtain ⟨hshape, hsome, hC, hR⟩ := h
  exact ⟨hshape, hsome, fun h hcc r hr => ⟨(hC h hcc r hr).1, hb h hcc⟩, hR⟩

/-! #### The readiness sequence -/

theorem State.ready.beginLeg (h : s.ready C R) (y : Cause) : (s.beginLeg y).laws C R :=
  State.laws_of_core rfl (h.enter (w := .winding) rfl y s.activeId)

theorem State.ready.settleEnd (h : s.ready C R) : s.settleEnd.laws C R :=
  of_ite ((h.of_modTe _).of_modTe _ |>.beginLeg _) ((h.of_modTe _).enter rfl _ _)

theorem State.ready.phaseFail (h : s.ready C R) (r : Report) : (s.phaseFail r).laws C R := (h.toIdle _).report r

/-- In PREPARING a trip is active and at rest. -/
theorem State.laws.ready_of_preparing (h : s.laws C R) (hw : s.te.winder = .preparing) : s.ready C R :=
  h.ready (by rw [hw]; rfl) (by rw [hw]; rfl)

theorem State.laws.enterSettle (h : s.laws C R) (hw : s.te.winder = .preparing) : s.enterSettle.laws C R :=
  of_ite (State.ready.settleEnd (State.laws.ready_of_preparing (h.of_modTe _) hw)) (h.of_modTe _)

theorem State.laws.releaseEnd (h : s.laws C R) (hw : s.te.winder = .preparing) : s.releaseEnd.laws C R :=
  of_ite (h.enterSettle hw) ((h.ready_of_preparing hw).phaseFail _)

theorem State.laws.enterRelease (h : s.laws C R) (hw : s.te.winder = .preparing) : s.enterRelease.laws C R :=
  of_ite (State.laws.releaseEnd (h.of_modTe _) hw) (h.of_modTe _)

theorem State.laws.torqueEnd (h : s.laws C R) (hw : s.te.winder = .preparing) : s.torqueEnd.laws C R :=
  of_ite (h.enterRelease hw) ((h.ready_of_preparing hw).phaseFail _)

theorem State.laws.enterTorque (h : s.laws C R) (hw : s.te.winder = .preparing) : s.enterTorque.laws C R :=
  of_ite (State.laws.torqueEnd (h.of_modTe _) hw) (h.of_modTe _)

theorem State.ready.enterDwell (h : s.ready C R) (k : DwellKind) : (s.enterDwell k).laws C R :=
  State.ready.enter (State.ready.onLeg (h.of_modTe _) _) rfl _ _

theorem State.laws.gatesTest (h : s.laws C R) (hw : s.te.winder = .preparing) : s.gatesTest.laws C R := by
  unfold State.gatesTest
  split
  · exact (h.ready_of_preparing hw).phaseFail _
  · split
    · exact (h.ready_of_preparing hw).enterDwell _
    · exact h.enterTorque hw

theorem State.laws.enterGates (h : s.laws C R) (hw : s.te.winder = .preparing) : s.enterGates.laws C R :=
  State.laws.gatesTest (h.of_modTe _) hw

/-- What follows the entry of PREPARING, while it stands. -/
theorem State.laws.afterEntry (h : s.laws C R) (p : Phase) : State.laws C R
    (if s.te.winder = .preparing then if p = .signal then s.enterSignal else s.gatesTest else s) := by
  split
  · next hw => exact of_ite (of_ite (h.enterGates hw) (h.of_modTe _)) (h.gatesTest hw)
  · exact h

theorem State.ready.enterPreparing (h : s.ready C R) (p : Phase) (y : Cause) : (s.enterPreparing p y).laws C R := by
  have h1 := (h.of_modTe fun t => { t with phase := p }).enter (w := .preparing) rfl y s.activeId
  exact (of_ite (c := s.lines.shaftStop) (h1.report (bare .shaftStopSignal 0)) h1).afterEntry p

theorem State.ready.laterLeg (h : s.ready C R) : s.laterLeg.laws C R := by
  unfold State.laterLeg
  split
  · next hnone => exact absurd hnone h.activeHead_ne_none
  · exact of_ite (State.ready.enterPreparing
      ((h.adopt fun _ hcc => State.tripLimit_le_declutched hcc _).of_modTe _) _ _) (h.toIdle _)

theorem State.ready.skipLoaded (h : s.ready C R) : s.skipLoaded.laws C R :=
  State.ready.laterLeg <| State.ready.onLeg (State.ready_of_core (State.core_setLoadClass _ .b .rock)
    (h.of_modTe _)) _

theorem State.ready.skipDumped (h : s.ready C R) : s.skipDumped.laws C R := by
  have h1 := State.ready.modHead (State.ready_of_core (State.core_setLoadClass _ .b .empty)
    (h.of_modTe fun t => { t with dwellTimer := none })) (f := fun r => { r with body := cycledOnce r.body })
      fun r => ⟨rfl, rfl, declutchedTrip_cycledOnce r.body⟩
  unfold State.skipDumped
  dsimp only
  split
  · next hnone => exact absurd hnone h1.activeHead_ne_none
  · next r hr =>
    exact of_ite
      (State.free.enter (w := .idle) (State.ready.complete (h1.raise _ _ _ _ _ _)) rfl _ _)
      (State.ready.laterLeg (State.ready.onLeg (h1.raise _ _ _ _ _ _) _))

/-! #### The landing and the end of a stop -/

theorem State.laws.actDeferred (h : s.laws C R) (d : DeferredStop) : (s.actDeferred d).laws C R :=
  of_ite h (h.toIdle _)

theorem State.laws.watchReached (h : s.laws C R) (d : Int) : (s.watchReached d).laws C R :=
  State.laws_of_core (s.core_modWt _) h

/-- A landing ends with the reference at 0, as the latch has left it. -/
theorem State.laws.landingEnd (h : s.laws C R) (hw : s.te.winder = .winding) (hzero : R → s.rg.refPrev = 0) :
    s.landingEnd.laws C R := by
  have h0 : (s.modTe fun t => { t with brake := none, rest := .none }).ready C R :=
    ⟨h.shape, h.isSome_activeHead.trans (by rw [hw]; rfl), h.2.1, fun hR => ⟨hzero hR, rfl⟩⟩
  have h1 := of_ite (c := s.te.deferred = .none) h0 (State.ready_of_core (State.core_setStopOrder _ false) h0)
  unfold State.landingEnd
  dsimp only
  split
  · refine h1.laws ?_
    split <;> exact (congrArg WinderState.tripActive hw)
  · split
    · exact State.free.enter (w := .idle) (State.ready.complete (h1.raise _ _ _ _ _ _)) rfl _ _
    · exact (h1.enterDwell _).actDeferred _
    · exact (h1.enterDwell _).actDeferred _
    all_goals
      exact State.laws.actDeferred (State.laws.watchReached
        (State.laws.raise (h1.enter (w := .held) rfl _ _) _ _ _ _ _ _) _) _

theorem State.laws.stopEnd (h : s.laws C R) (hw : s.te.winder = .stopping) : s.stopEnd.laws C R := by
  obtain ⟨⟨hlen, hids, hactive, htail⟩, hC, href⟩ := h
  have h1 : ((s.modTe fun t => { t with brake := none, rest := .none }).setStopOrder false).laws C R := by
    refine ⟨⟨hlen, hids, hactive, htail⟩, hC, fun hR => ?_⟩
    obtain ⟨hzero, hle, -, -⟩ := href hR
    exact ⟨hzero, hle, fun _ => rfl, fun _ hr => absurd rfl hr⟩
  unfold State.stopEnd
  dsimp only
  split
  · refine State.laws_of_core (State.core_raise ..) (State.ready.enter (w := .held) ?_ rfl _ _)
    exact ⟨h1.shape, h1.isSome_activeHead.trans (congrArg WinderState.tripActive hw), hC, fun _ => ⟨rfl, rfl⟩⟩
  all_goals exact h1.toIdle _

theorem State.laws.brakesConfirmed (h : s.laws C R) (hrest : s.te.rest ≠ .none) : s.brakesConfirmed.laws C R := by
  unfold State.brakesConfirmed
  split
  · next hw => exact h.landingEnd hw fun hR => ((h.2.2 hR).2.2.2 hw hrest).2
  · next hw => exact h.stopEnd hw
  all_goals exact h

/-- A change of the rest step in a landing that has begun, or in STOPPING. -/
theorem State.laws.modRest (h : s.laws C R) (f : Executive → Executive) (hf : (f s.te).winder = s.te.winder)
    (hw : s.te.winder = .stopping ∨ s.te.winder = .winding ∧ s.te.rest ≠ .none) : (s.modTe f).laws C R := by
  obtain ⟨⟨hlen, hids, hactive, htail⟩, hC, href⟩ := h
  have hte : (s.modTe f).te.winder = s.te.winder := hf
  refine ⟨⟨hlen, hids, by rw [hte]; exact hactive, htail⟩, hC, fun hR => ?_⟩
  obtain ⟨hzero, hle, -, hlatch⟩ := href hR
  unfold State.referenceLaw
  rw [hte]
  refine ⟨hzero, hle, fun hm => ?_, fun hw' _ => ?_⟩
  · rcases hw with hw | ⟨hw, -⟩ <;> rw [hw] at hm <;> exact absurd hm nofun
  · rcases hw with hw | ⟨hw, hrest⟩
    · rw [hw] at hw'; exact absurd hw' nofun
    · exact hlatch hw hrest

theorem State.laws.restTest (h : s.laws C R)
    (hw : s.te.winder = .stopping ∨ s.te.winder = .winding ∧ s.te.rest ≠ .none) : s.restTest.laws C R := by
  have h1 := h.modRest (fun t => { t with rest := .brakeConfirm, brake := some s.brakeExpiry }) rfl hw
  exact of_ite (of_ite (h1.brakesConfirmed nofun) h1) (h.of_modTe _)

theorem State.laws.takeExecutive (h : s.laws C R) (found : RestStep) : (s.takeExecutive found).laws C R := by
  unfold State.takeExecutive
  split
  · exact h
  split
  · next hc => exact h.restTest (.inr ⟨hc.1, by rw [hc.2.2]; exact nofun⟩)
  split
  · next hc => exact h.restTest (.inl hc.1)
  · exact h

/-! #### The reference -/

theorem leastOf_le (x : Nat) (ys : List Nat) : leastOf x ys ≤ x := by
  induction ys generalizing x with
  | nil => exact le_rfl
  | cons y ys ih => exact (ih _).trans (min_le_left _ _)

/-- The reference of a Sample record stays within the trip speed limit, in STOPPING as it falls. -/
theorem State.referenceNow_le_limit (hle : s.rg.refPrev ≤ s.rg.limit)
    (micros : Nat) : s.referenceNow micros ≤ s.rg.limit := by
  have hleast : s.leastTerm micros ≤ s.rg.limit := by
    unfold State.leastTerm
    dsimp only
    split
    · exact min_le_right _ _
    · next hwinding =>
      refine (leastOf_le _ _).trans ?_
      rw [State.drivenTerm, if_neg hwinding]
      omega
  unfold State.referenceNow
  dsimp only
  split
  · exact Nat.zero_le _
  · split
    · exact (min_le_left _ _).trans hleast
    · exact hleast

theorem State.laws.takeReference (h : s.laws C R) (prev : Nat) (plan : Option (List PlanPoint)) :
    (s.takeReference prev plan).laws C R := by
  obtain ⟨⟨hlen, hids, hactive, htail⟩, hC, href⟩ := h
  unfold State.takeReference
  split
  swap
  · exact ⟨⟨hlen, hids, hactive, htail⟩, hC, href⟩
  next hm =>
  have hle (hR : R) : (s.onPlan plan).referenceNow (unsignedElapsed s.efe.sampleTime prev) ≤ s.rg.limit :=
    State.referenceNow_le_limit (s := s.onPlan plan) ((href hR).2.1 hm) _
  have hlatched (hl : (s.onPlan plan).latchNow = true) :
      (s.onPlan plan).referenceNow (unsignedElapsed s.efe.sampleTime prev) = 0 := by
    unfold State.referenceNow; simp [hl]
  have hkeep : s.rg.latch = true → (s.onPlan plan).latchNow = true := fun hl => by
    unfold State.latchNow; simp [State.onPlan, hl]
  dsimp only
  split
  · next hc =>
    exact ⟨⟨hlen, hids, hactive, htail⟩, hC, fun hR =>
      ⟨fun hn => absurd hm (by simpa using hn), fun _ => hle hR, fun hn => absurd hm (by simpa using hn),
        fun _ _ => ⟨hc.2.2, hlatched hc.2.2⟩⟩⟩
  · exact ⟨⟨hlen, hids, hactive, htail⟩, hC, fun hR =>
      ⟨fun hn => absurd hm (by simpa using hn), fun _ => hle hR, (href hR).2.2.1, fun hw hrest =>
        have hl := hkeep ((href hR).2.2.2 hw hrest).1
        ⟨hl, hlatched hl⟩⟩⟩

/-! #### The Watch Table and the other blocks of a Sample record -/

theorem State.laws.forcedStop (h : s.laws C R) (i : Nat) : (s.forcedStop i).laws C R := by
  unfold State.forcedStop
  split
  · next hc => exact h.beginStopping hc.1 _ _ _
  · exact h

theorem State.laws.fire (h : s.laws C R) (i : Nat) (w : WatchEntry) (k : Nat) : (s.fire i w k).laws C R :=
  State.laws_of_core rfl h

theorem State.laws.testWatch (h : s.laws C R) (found : WinderState) (i : Nat) :
    (State.testWatch found s i).laws C R := by
  have hslow (cap : Nat) (w : WatchEntry) : (s.fireSlow i cap w).laws C R :=
    have h1 := State.laws_of_core (s.core_insertSlow i cap s.guideDepth) h
    of_ite (h1.fire _ _ _) ((h1.forcedStop _).fire _ _ _)
  unfold State.testWatch State.fireForced State.fireBound
  split
  · exact h
  · split
    · refine of_ite ?_ h
      split
      · exact h.fire _ _ _
      · exact of_ite (hslow _ _) h
      · exact of_ite ((h.forcedStop _).fire _ _ _) h
    · split
      · exact of_ite (h.fire _ _ _) h
      · exact of_ite (h.fire _ _ _) h
      all_goals exact h

theorem State.laws.takeBlock (h : s.laws C R) (prev : Nat) (rest : RestStep) (found : ReferenceGenerator)
    (b : SampleBlock) : (State.takeBlock prev rest found s b).laws C R := by
  cases b with
  | reference => exact h.takeReference _ _
  | envelope => exact (State.laws_reporting C R).takeEnvelope h _ _
  | watch => exact of_ite (of_foldl _ h fun _ _ ht => ht.testWatch _ _) h
  | clutch => exact (State.laws_reporting C R).takeClutch h
  | executive => exact h.takeExecutive _

/-! #### The clutch -/

/-- A change of the clutch state keeps the laws where it is to ENGAGED, from a state that is not ENGAGED, or
while no trip is active. -/
theorem State.laws.setClutch (h : s.laws C R) {c : ClutchState} (p : ClutchStep) (x : Option Nat)
    (hc : c = .engaged ∨ s.cc.state ≠ .engaged ∨ s.activeHead = none) : (s.setClutch c p x).laws C R := by
  obtain ⟨hq, hC, hR⟩ := h
  refine ⟨hq, fun hc' hcc r hr => ?_, hR⟩
  rcases hc with rfl | hc | hc
  · exact absurd rfl hcc
  · exact hC hc' hc r hr
  · have hr : s.activeHead = some r := hr
    rw [hc] at hr; cases hr

theorem State.laws.of_modCc (h : s.laws C R) (f : ClutchController → ClutchController)
    (hf : (f s.cc).state = s.cc.state := by rfl) : (s.modCc f).laws C R :=
  State.laws_of_core (s.core_modCc f hf) h

theorem State.laws.releaseComplete (h : s.laws C R) (hc : s.cc.state ≠ .engaged ∨ s.activeHead = none) :
    s.releaseComplete.laws C R :=
  State.laws_of_core rfl ((h.setClutch (c := .released) .none none (.inr hc)).of_modCc
    fun k => { k with drift := some (s.drum .b).paidOut, switchFault := false })

theorem State.laws.beginOpening (h : s.laws C R) (hc : s.cc.state ≠ .engaged ∨ s.activeHead = none) :
    s.beginOpening.laws C R :=
  have h1 := h.setClutch (c := .releasing) .opening (some s.clutchExpiry) (.inr hc)
  of_ite (h1.releaseComplete (.inl nofun)) h1

theorem State.laws.beginRelease (h : s.laws C R) (hc : s.activeHead = none) : s.beginRelease.laws C R :=
  have h1 := (h.setClutch (c := .releasing) .holding (some s.clutchExpiry) (.inr (.inr hc))).of_modCc
    fun k => { k with drift := some (s.drum .b).paidOut, discrepancy := none }
  of_ite (h1.beginOpening (.inl nofun)) h1

theorem State.laws.releaseFail (h : s.laws C R) : s.releaseFail.laws C R :=
  State.laws_of_core rfl (((h.setClutch (c := .engaged) .none none (.inl rfl)).of_modCc
    fun k => { k with drift := none, discrepancy := none, switchFault := true }).report _)

theorem State.laws.engageComplete (h : s.laws C R) : s.engageComplete.laws C R :=
  State.laws_of_core rfl ((h.setClutch (c := .engaged) .none none (.inl rfl)).of_modCc
    fun k => { k with drift := none, discrepancy := none, switchFault := false })

theorem State.laws.beginClosing (h : s.laws C R) (hc : s.activeHead = none) : s.beginClosing.laws C R :=
  have h1 := h.setClutch (c := .engaging) .closing (some s.clutchExpiry) (.inr (.inr hc))
  of_ite h1.engageComplete h1

theorem State.laws.engageFail (h : s.laws C R) (hc : s.cc.state ≠ .engaged) : s.engageFail.laws C R :=
  State.laws_of_core rfl (((h.setClutch (c := .released) .none none (.inr (.inl hc))).of_modCc
    fun k => { k with switchFault := true }).report _)

theorem State.laws.switchChange (h : s.laws C R) : s.switchChange.laws C R := by
  unfold State.switchChange
  split
  · exact (State.laws_reporting C R).superviseSwitches h _ _
  · exact (State.laws_reporting C R).superviseSwitches h _ _
  · next hc => exact of_ite (h.releaseComplete (.inl (by rw [hc]; exact nofun))) h
  · exact of_ite h.engageComplete h

end sequences

end Sys2Proof.Machine
end

section
/-! The laws of the Trip Queue, the clutch and the reference over the requests, and over every step (R49, R79,
R167). -/

namespace Sys2Proof.Machine

open Sys2Proof

section requests
variable {C R : Prop} {s t : State}

/-! #### Admission, withdrawal and activation -/

/-- A record that is not ACTIVE, of a new id, joins a queue that is not full, behind an ACTIVE head. -/
theorem State.queueShape_insert (h : s.queueShape) {r : TripRecord} {n : Nat}
    (hid : ∀ x ∈ s.tq, x.id ≠ r.id) (hlen : s.tq.length < Config.queueCapacity) (hr : r.active = false)
    (hn : s.activeHead.isSome = true → n ≠ 0) :
    (s.modTq fun q => q.take n ++ r :: q.drop n).queueShape ∧
      (s.modTq fun q => q.take n ++ r :: q.drop n).activeHead = s.activeHead := by
  obtain ⟨-, hids, htail⟩ := h
  have hperm : (s.tq.take n ++ r :: s.tq.drop n).Perm (r :: s.tq) := by
    simpa using (List.perm_middle (a := r) (l₁ := s.tq.take n) (l₂ := s.tq.drop n))
  refine ⟨⟨?_, ?_, ?_⟩, ?_⟩
  · rw [State.modTq_tq, hperm.length_eq, List.length_cons]; exact hlen
  · rw [State.modTq_tq, (hperm.map TripRecord.id).nodup_iff, List.map_cons, List.nodup_cons]
    refine ⟨fun hmem => ?_, hids⟩
    obtain ⟨x, hx, hxr⟩ := List.mem_map.mp hmem
    exact hid x hx hxr
  · rw [State.modTq_tq]
    cases htq : s.tq with
    | nil => simp
    | cons x xs =>
      rw [htq] at htail
      have hxs : ∀ y ∈ xs, y.active = false := htail
      cases n with
      | zero =>
        have hx : x.active = false := by
          by_contra hx
          exact hn (by simp [State.activeHead, htq, hx]) rfl
        simpa [hx] using hxs
      | succ n =>
        intro y hy
        simp only [List.take_succ_cons, List.drop_succ_cons, List.cons_append, List.tail_cons, List.mem_append,
          List.mem_cons] at hy
        rcases hy with hy | rfl | hy
        · exact hxs y (List.mem_of_mem_take hy)
        · exact hr
        · exact hxs y (List.mem_of_mem_drop hy)
  · unfold State.activeHead
    rw [State.modTq_tq]
    cases htq : s.tq with
    | nil => simp [hr]
    | cons x xs =>
      cases n with
      | zero =>
        have hx : x.active = false := by
          by_contra hx
          exact hn (by simp [State.activeHead, htq, hx]) rfl
        simp [hr, hx]
      | succ n => simp

/-- The queue changed behind an active head that stands. -/
theorem State.laws.of_modTq (h : s.laws C R) {f : List TripRecord → List TripRecord}
    (hf : (s.modTq f).queueShape ∧ (s.modTq f).activeHead = s.activeHead) : (s.modTq f).laws C R := by
  obtain ⟨⟨hlen, hids, htail⟩, hhead⟩ := hf
  obtain ⟨⟨-, -, hactive, -⟩, hC, hR⟩ := h
  exact ⟨⟨hlen, hids, by rw [hhead]; exact hactive, htail⟩,
    fun h hcc r hr => hC h hcc r (by rw [← hhead]; exact hr), hR⟩

theorem State.placeOf_ne_zero (h : s.activeHead.isSome = true) (front : Bool) : s.placeOf front ≠ 0 := by
  obtain ⟨r, hr⟩ := Option.isSome_iff_exists.mp h
  obtain ⟨-, rest, htq⟩ := State.tq_of_activeHead hr
  unfold State.placeOf
  split
  · simp
  · simp [htq]

theorem State.laws.admitRecord (h : s.laws C R) {p : List Byte} (hq : s.queueRefusal (fieldNat p 0 2) = none)
    (b : TripBody) (last : List Byte) : (admitAnswer p b last s).state.laws C R := by
  simp only [State.queueRefusal, firstRefusal_cons, firstRefusal_nil] at hq
  split at hq
  · next hids =>
    have hfresh : ∀ x ∈ s.tq, x.id ≠ fieldNat p 0 2 := by simpa using hids
    have hroom : s.tq.length < Config.queueCapacity := by simpa using hq
    exact State.laws.raise (h.of_modTq (State.queueShape_insert h.shape hfresh hroom rfl
      fun hsome => State.placeOf_ne_zero hsome _)) _ _ _ _ _ _
  · cases hq

theorem State.queueShape_erase (h : s.queueShape) {r : TripRecord} {n : Nat}
    (hfind : (s.tq.find? fun x => x.id = n) = some r) (hr : r.active = false) :
    (s.modTq fun q => q.eraseP fun x => x.id = r.id).queueShape ∧
      (s.modTq fun q => q.eraseP fun x => x.id = r.id).activeHead = s.activeHead := by
  obtain ⟨hlen, hids, htail⟩ := h
  have hsub := List.eraseP_sublist (p := fun x : TripRecord => decide (x.id = r.id)) (l := s.tq)
  have hrid : r.id = n := by simpa using List.find?_some hfind
  unfold State.queueShape State.activeHead
  simp only [State.modTq_tq]
  rw [and_assoc, and_assoc]
  refine ⟨hsub.length_le.trans hlen, (hsub.map _).nodup hids, ?_⟩
  cases htq : s.tq with
  | nil => exact ⟨nofun, rfl⟩
  | cons x xs =>
    have hxs : ∀ y ∈ xs, y.active = false := by rw [htq] at htail; exact htail
    by_cases hx : x.id = r.id
    · obtain rfl : x = r := by
        rw [htq, List.find?_cons_of_pos (by simp [hx, hrid])] at hfind
        exact Option.some.inj hfind
      rw [List.eraseP_cons_of_pos (by simp)]
      refine ⟨fun y hy => hxs y (List.mem_of_mem_tail hy), ?_⟩
      cases xs with
      | nil => simp [hr]
      | cons y ys => simp [hr, hxs y List.mem_cons_self]
    · rw [List.eraseP_cons_of_neg (by simpa using hx)]
      exact ⟨fun y hy => hxs y (List.mem_of_mem_eraseP hy), rfl⟩

theorem State.laws.withdraw (h : s.laws C R) (p : List Byte) : (withdraw p s).state.laws C R := by
  unfold Machine.withdraw
  split
  · exact h
  · next r hr =>
    split
    · exact h
    · next ha =>
      exact of_answer (State.laws.raise (h.of_modTq (State.queueShape_erase h.shape hr (by simpa using ha)))
        _ _ _ _ _ _)

/-- An accepted PREPARE: the head that becomes ACTIVE is one that the clutch state admits. -/
theorem State.laws.activate (h : s.laws C R) (hw : s.te.winder = .idle) {r : TripRecord} {rest : List TripRecord}
    (htq : s.tq = r :: rest) (hadmits : s.clutchAdmits r = true) : (s.activate r (s.build r)).laws C R := by
  obtain ⟨hshape, -, hrest⟩ := h.free (by rw [hw]; rfl)
  let head (h : TripRecord) : TripRecord :=
    { h with active := true, interrupted := false, body := s.activatedBody h.body }
  have hhead : (s.modHead head).activeHead = some (head r) :=
    (State.activeHead_of_tq_cons (r := head r) (rest := rest) (by simp [State.modHead, htq])).trans (if_pos rfl)
  have hmode (hcc : s.cc.state ≠ .engaged) : declutchedTrip r.body = true := by
    unfold State.clutchAdmits at hadmits
    split at hadmits
    · next hc => exact absurd hc hcc
    · cases hadmits
    · cases hadmits
    · split at hadmits
      · next hb => rw [hb]; exact hadmits
      · cases hadmits
  have h1 : ((s.modHead head).adopt (s.build r)).ready C R := by
    refine ⟨State.queueShape_modHead (f := head) (fun _ => rfl) hshape, Option.isSome_iff_exists.mpr ⟨_, hhead⟩,
      fun _ hcc r' hr' => ?_, hrest⟩
    obtain rfl : head r = r' := Option.some.inj (hhead.symm.trans hr')
    exact ⟨(declutchedTrip_activatedBody r.body).trans (hmode hcc), State.tripLimit_le_declutched hcc r⟩
  refine State.ready.enterPreparing (State.ready.of_modTe ?_ _) _ _
  unfold State.loadFor
  split
  · exact State.ready_of_core (State.core_setLoadClass ..) h1
  · exact h1

theorem State.laws.prepare (h : s.laws C R) (p : List Byte) : (prepare p s).state.laws C R := by
  unfold Machine.prepare
  split
  · exact h
  next hw =>
  split
  · exact h
  next r rest htq =>
  split
  · exact h
  next hchecks =>
  dsimp only
  split
  · refine of_answer (h.activate (not_not.mp hw) htq ?_)
    simp only [firstRefusal_cons] at hchecks
    by_contra hcc
    simp only [hcc] at hchecks
    split at hchecks <;> cases hchecks
  · exact h

/-! #### START, STOP and RETARGET -/

theorem State.laws.start (h : s.laws C R) (p : List Byte) : (start p s).state.laws C R := by
  unfold Machine.start
  dsimp only
  split
  case h_6 => split <;> first | exact of_answer (h.of_modTe _) | exact h
  case h_7 hw =>
    split
    · exact of_answer ((h.ready (by rw [hw]; rfl) (by rw [hw]; rfl)).beginLeg _)
    · exact h
  case h_8 hw =>
    unfold startHeld
    split
    · split
      · exact h
      · dsimp only
        split
        · refine of_answer (State.ready.enterPreparing (State.ready.of_modTe (State.ready.adopt ?_ ?_) _) _ _)
          · exact h.ready (by rw [hw]; rfl) (by rw [hw]; rfl)
          · exact fun _ hcc => State.tripLimit_le_declutched hcc _
        · exact h
    · exact h
  all_goals exact h

theorem State.laws.stop (h : s.laws C R) (p : List Byte) : (stop p s).state.laws C R := by
  unfold Machine.stop stopActive
  split
  · split
    · split
      · exact of_answer (h.toIdle _)
      · exact of_answer (h.toIdle _)
      · next hw =>
        split
        · exact of_answer (h.beginStopping hw _ _ _)
        · exact of_answer (h.of_modTe _)
      · exact h
      · exact of_answer (h.toIdle _)
      · exact of_answer (h.toIdle _)
      all_goals exact h
    · exact h
  · exact h

/-- An accepted RETARGET: the landing has not begun, and the new limit is not below the reference (R85). -/
theorem State.laws.retargeted (h : s.laws C R) (hw : s.te.winder = .winding) {r r' : TripRecord}
    (hr : s.activeHead = some r) (hid : r'.id = r.id) (hactive : r'.active = r.active)
    (hbody : declutchedTrip r'.body = declutchedTrip r.body) (hlatch : s.rg.latch = false) {b : Built}
    (hb : s.cc.state ≠ .engaged → b.limit ≤ s.limits.declutchedSpeed) (hle : s.rg.refPrev ≤ b.limit)
    (x y : Int) : (s.retargeted r' b x y).laws C R := by
  obtain ⟨hra, rest, htq⟩ := State.tq_of_activeHead hr
  obtain ⟨⟨hlen, hids, hsome, htail⟩, hC, hR⟩ := h
  have htq' : ((s.adopt b).modHead fun _ => r').tq = r' :: rest := by simp [State.modHead, htq]
  refine State.laws_of_core (s := (s.adopt b).modHead fun _ => r') rfl ⟨⟨?_, ?_, ?_, ?_⟩, fun h hcc q hq => ?_,
    fun h => ?_⟩
  · rw [htq']; rw [htq] at hlen; exact hlen
  · rw [htq', List.map_cons, hid]; rw [htq] at hids; exact hids
  · rw [State.activeHead_of_tq_cons htq', hactive, hra, if_pos rfl]
    exact (congrArg WinderState.tripActive hw).symm
  · rw [htq']; rw [htq] at htail; exact htail
  · rw [State.activeHead_of_tq_cons htq', hactive, hra, if_pos rfl] at hq
    obtain rfl := Option.some.inj hq
    exact ⟨hbody.trans (hC h hcc r hr).1, hb hcc⟩
  · obtain ⟨hzero, -, hrest, hland⟩ := hR h
    refine ⟨hzero, fun _ => hle, hrest, fun hw' hr' => ?_⟩
    obtain ⟨hl, -⟩ := hland hw' hr'
    rw [hlatch] at hl; cases hl

theorem State.laws.retarget (h : s.laws C R) (p : List Byte) : (retarget p s).state.laws C R := by
  unfold Machine.retarget retargetChecked refuseLate
  dsimp only
  split
  · exact h
  split
  · exact h
  next hw =>
  split
  · exact h
  next r hr =>
  split
  · exact h
  next m t d hbody =>
  split
  swap
  · exact h
  split
  · exact h
  split
  · exact h
  next hlatch =>
  split
  · exact h
  split
  · exact h
  next hlate =>
  split
  · exact of_answer (h.retargeted
      (r' := { r with body := .cage r.body.mode (targetOf p 2) (s.targetDepth (targetOf p 2)) })
      (not_not.mp hw) hr rfl rfl (by rw [hbody]; rfl) (by simpa using hlatch)
      (fun hcc => State.tripLimit_le_declutched hcc _) (not_lt.mp fun hlt => hlate (.inr hlt)) _ _)
  · exact h

/-! #### The other requests -/

/-- No trip is active and nothing moves in a state that is none of those of an active trip. -/
theorem State.laws.free_of_winder (h : s.laws C R) {w : WinderState} (hw : s.te.winder = w)
    (hactive : w.tripActive = false := by rfl) : s.free R :=
  h.free (by rw [hw]; exact hactive)

theorem State.free.discardQueue (h : s.free R) : s.discardQueue.free R := by
  obtain ⟨-, -, hrest⟩ := h
  exact State.discardQueue_free hrest

theorem State.laws.setService (h : s.laws C R) (p : List Byte) : (setService p s).state.laws C R := by
  unfold Machine.setService
  split
  · unfold serviceOn serviceOnChecks
    split
    · exact h
    · next hw =>
      (repeat' split) <;> first | exact h | exact of_answer ((h.free_of_winder hw).enter (w := .idle) rfl _ _)
    all_goals exact h
  · unfold serviceOff
    split
    · exact h
    · next hw => exact of_answer ((h.free_of_winder hw).discardQueue.enter (w := .stoodDown) rfl _ _)
    all_goals exact h

theorem State.laws.resetRequest (h : s.laws C R) (p : List Byte) : (resetRequest p s).state.laws C R := by
  unfold Machine.resetRequest
  split
  · exact h
  next hchecks =>
  have hw : s.te.winder = .tripped := by
    by_contra hw
    simp [hw] at hchecks
  unfold State.resetTrip
  refine of_answer ?_
  split
  · exact (h.free_of_winder hw).enter (w := .idle) rfl _ _
  · exact (h.free_of_winder hw).discardQueue.enter (w := .stoodDown) rfl _ _

theorem State.core_clearPending (pick : FaultKind → Bool) : (s.clearPending pick).core = s.core := by
  have hfold : ((FaultKind.all.filter pick).foldl (fun s k => s.setPending k false) s).core = s.core :=
    keeps_foldl State.core (fun s k => s.setPending k false) (fun t k => t.core_setPending k false) _ s
  unfold State.clearPending State.ackDisagree
  dsimp only
  (repeat' split) <;> exact hfold

theorem State.laws.clearLockout (h : s.laws C R) (p : List Byte) : (clearLockout p s).state.laws C R := by
  unfold Machine.clearLockout
  split
  · exact h
  next hchecks =>
  have hw : s.te.winder = .lockedOut := by
    by_contra hw
    simp [hw] at hchecks
  exact of_answer ((State.free_of_core (State.core_clearPending _) (h.free_of_winder hw)).discardQueue.enter
    (w := .stoodDown) rfl _ _)

theorem State.restartBlocks_free : s.restartBlocks.free R :=
  ⟨⟨Nat.zero_le _, List.nodup_nil, nofun⟩, rfl, fun _ => ⟨rfl, rfl⟩⟩

theorem State.laws.restart (h : s.laws C R) (p : List Byte) : (restart p s).state.laws C R := by
  unfold Machine.restart
  split
  · next hw =>
    exact of_answer (State.restartBlocks_free.laws (congrArg WinderState.tripActive hw))
  · exact of_answer (State.restartBlocks_free.enter (w := .stoodDown) rfl _ _)
  · exact of_answer (State.restartBlocks_free.enter (w := .stoodDown) rfl _ _)
  all_goals exact h

theorem State.laws.clutchOut (h : s.laws C R) (p : List Byte) : (clutchOut p s).state.laws C R := by
  unfold Machine.clutchOut
  split
  · exact h
  next hchecks =>
  have hw : s.te.winder = .idle := by
    by_contra hw
    simp [State.clutchChecks, hw] at hchecks
  exact of_answer (h.beginRelease (h.free_of_winder hw).2.1)

theorem State.laws.clutchIn (h : s.laws C R) (p : List Byte) : (clutchIn p s).state.laws C R := by
  unfold Machine.clutchIn
  split
  · exact h
  next hchecks =>
  have hw : s.te.winder = .idle := by
    by_contra hw
    simp [State.clutchChecks, hw] at hchecks
  dsimp only
  split
  · exact of_answer (h.beginClosing (h.free_of_winder hw).2.1)
  · exact h

theorem State.core_setDatum (c : Conv) (d : Int) : (s.setDatum c d).core = s.core :=
  State.core_setCertainty _ c .certain .datum

/-- The laws over the owners' answers that do not edit the description. -/
theorem State.laws.act (h : s.laws C R) {owner : List Byte → State → Answered} (ho : Acts owner)
    (p : List Byte) : (owner p s).state.laws C R := by
  cases ho with
  | askIdentity => exact h
  | askStatus => exact h
  | askPosition => exact h
  | askQueue => exact h
  | askFaults => exact h
  | askWatch => exact h
  | askLimits => exact h
  | askLevel => unfold askLevel; dsimp only; split <;> exact h
  | askMark => unfold askMark; dsimp only; split <;> exact h
  | askDrum => unfold askDrum; split <;> exact h
  | askConveyance => unfold askConveyance; split <;> exact h
  | readFaultLog => unfold readFaultLog; split <;> exact h
  | setDatum =>
    unfold datumRequest
    (repeat' split) <;> first | exact h | exact of_answer (State.laws_of_core (State.core_setDatum _ _) h)
  | setService => exact h.setService p
  | setMode => unfold setMode; split <;> first | exact of_answer (h.of_modTe _) | exact h
  | queueTrip =>
    unfold queueTrip; dsimp only; split
    · exact h
    · exact h
    · next hq _ => exact h.admitRecord hq _ _
  | queueSkip =>
    unfold queueSkip; dsimp only; split
    · exact h
    · exact h
    · next hq _ => exact h.admitRecord hq _ _
  | withdraw => exact h.withdraw p
  | prepare => exact h.prepare p
  | start => exact h.start p
  | stop => exact h.stop p
  | retarget => exact h.retarget p
  | resetTrip => exact h.resetRequest p
  | clearLockout => exact h.clearLockout p
  | restart => exact h.restart p
  | takeEvents =>
    unfold takeEvents; dsimp only; split
    · exact of_answer (State.laws_of_core (State.core_modLink _ _) h)
    · exact h
  | ackFault =>
    unfold ackFault; split
    · exact h
    · exact of_answer (State.laws_of_core (State.core_clearPending _) h)
  | clearFaultLog =>
    unfold clearFaultLog; split
    · exact of_answer (State.laws_of_core (State.core_modFm _ _) h)
    · exact h
  | setWatch =>
    unfold setWatchPoint; dsimp only; (repeat' split) <;> exact h
  | clearWatch =>
    unfold clearWatch; dsimp only; (repeat' split) <;> exact h
  | clutchOut => exact h.clutchOut p
  | clutchIn => exact h.clutchIn p

/-! #### The edits of the description -/

theorem State.free.of_drumChanged (h : s.free R) (c : Conv) : (s.drumChanged c).free R :=
  State.free_of_core (State.core_modCc _ _) <|
    State.free_of_core (s := s.setCertainty c .uncertain .description) rfl <|
      State.free_of_core (State.core_setCertainty ..) h

theorem State.free.of_setCertainty (h : s.free R) (c : Conv) (n : Certainty) (y : CertaintyCause) :
    (s.setCertainty c n y).free R := State.free_of_core (State.core_setCertainty ..) h

/-- While no trip is active no law reads the limits: an edit keeps the laws. -/
theorem State.free.edit (h : s.free R) {owner : List Byte → State → Answered} (ho : Edits owner)
    (p : List Byte) : (owner p s).state.free R := by
  have hds (f : Description → Description) : (s.editDesc f).free R := h
  cases ho with
  | putLevel => unfold putLevel; dsimp only; (repeat' split) <;> exact h
  | putMark => unfold putMark; dsimp only; (repeat' split) <;> exact h
  | putDrum =>
    unfold putDrum
    split
    · exact of_answer ((hds _).of_drumChanged _)
    · exact h
  | putConveyance =>
    unfold putConveyance
    (repeat' split) <;> first | exact h | exact of_answer ((hds _).of_setCertainty ..)
  | putLimits => unfold putLimits; split <;> exact h
  | putSeverity => unfold putSeverity; (repeat' split) <;> exact h
  | commit => unfold commit; split <;> exact h

theorem State.edit_te (s : State) {owner : List Byte → State → Answered} (ho : Edits owner) (p : List Byte) :
    (owner p s).state.te = s.te := by
  cases ho with
  | putLevel => unfold putLevel; dsimp only; (repeat' split) <;> rfl
  | putMark => unfold putMark; dsimp only; (repeat' split) <;> rfl
  | putDrum => unfold putDrum; split <;> first | rfl | exact State.setCertainty_te _ _ _ _
  | putConveyance =>
    unfold putConveyance; (repeat' split) <;> first | rfl | exact State.setCertainty_te _ _ _ _
  | putLimits => unfold putLimits; split <;> rfl
  | putSeverity => unfold putSeverity; (repeat' split) <;> rfl
  | commit => unfold commit; split <;> rfl

/-- The laws over the edits of the description, in STOOD_DOWN. -/
theorem State.laws.edit (h : s.laws C R) (hw : s.te.winder = .stoodDown) {owner : List Byte → State → Answered}
    (ho : Edits owner) (p : List Byte) : (owner p s).state.laws C R :=
  ((h.free_of_winder hw).edit ho p).laws (by rw [s.edit_te ho p, hw]; rfl)

end requests

end Sys2Proof.Machine
end

section
/-! The laws of the Trip Queue, the clutch and the reference over every step (R49, R79, R167): O59 and O60. -/

namespace Sys2Proof.Machine

open Sys2Proof

section steps
variable {C R : Prop} {s t : State}

theorem State.laws.request (h : s.laws C R) (kind tag : Byte) (p : List Byte) :
    (s.request kind tag p).laws C R :=
  have hhunt := State.laws_of_core s.core_hunt h
  State.request_of kind tag p s (fun _ _ ha => State.laws_of_core rfl ha) hhunt
    (fun hw _ ho => hhunt.edit hw ho p) fun _ ho => hhunt.act ho p

/-! #### CHECKING and power-on -/

/-- In CHECKING, with no trip active. -/
def State.checkingFree (R : Prop) (s : State) : Prop := s.te.winder = .checking ∧ s.free R

theorem State.checkingFree.laws (h : s.checkingFree R) : s.laws C R :=
  State.free.laws h.2 (congrArg WinderState.tripActive h.1)

theorem State.checkingFree.load (h : s.checkingFree R) : s.load.checkingFree R := by
  have hP := State.checking_reporting R
  have hdrum (t : State) (c : Conv) (ht : t.checkingFree R) : (t.drumChanged c).checkingFree R :=
    ⟨(State.setCertainty_te ..).symm ▸ ht.1, ht.2.of_drumChanged c⟩
  have hs := hP.setCertainty (hP.setCertainty (hdrum _ .b (hdrum (s.modDs fun d =>
    { d with desc := StoredCopy.description d.stored, loaded := true }) .a h)) .a .uncertain .description)
      .b .uncertain .description
  exact of_ite (hP.report _ hs) hs

theorem State.checkingFree.readClutch (h : s.checkingFree R) : s.readClutch.checkingFree R := by
  unfold State.readClutch
  dsimp only
  split
  · exact h
  split
  · exact h
  · exact (State.checking_reporting R).report _ h

theorem State.checkingFree.leaveChecking (h : s.checkingFree R) : s.leaveChecking.laws C R := by
  have hlaws : s.laws C R := h.laws
  unfold State.leaveChecking
  split
  · exact State.laws.lock (State.laws_of_core (s.core_modFm _) hlaws) _
  · exact State.laws.trip (State.laws_of_core (s.core_modFm _) hlaws) _ _
  · exact State.free.enter h.2 (w := .stoodDown) rfl _ _

theorem State.poweredUp_checkingFree (up : PowerUp) (s : State) : (s.poweredUp up).checkingFree R :=
  ⟨rfl, ⟨Nat.zero_le _, List.nodup_nil, nofun⟩, rfl, fun _ => ⟨rfl, rfl⟩⟩

theorem State.laws_powerOn (up : PowerUp) (s : State) (he : exec (.powerOn up) s = .next t) : t.laws C R := by
  have hP := State.checking_reporting R
  cases he
  have h1 : State.checkingFree R (match up.selfCheck with
      | none => s.poweredUp up
      | some n => (s.poweredUp up).report
        { kind := .selfCheck, subject := 0, item1 := n, item2 := 0, item3 := 0 }) := by
    split
    · exact State.poweredUp_checkingFree up s
    · exact hP.report _ (State.poweredUp_checkingFree up s)
  have h2 := of_ite (c := up.loadNow) h1.load h1
  exact (of_ite h2 (hP.report _ h2)).laws

/-! #### The lines and the timers -/

theorem State.laws.onChange (h : s.laws C R) (change : InputLines → InputLines) (act : State → State)
    (hact : ∀ t : State, t.laws C R → (act t).laws C R) : (s.onChange change act).laws C R :=
  of_ite h (hact _ (State.laws_of_core (s.core_modLines _) h))

/-- A condition under which an action is taken. -/
theorem State.laws.when (h : s.laws C R) {c : Prop} [Decidable c] (hc : c → t.laws C R) :
    (if c then t else s).laws C R := by split <;> [exact hc ‹c›; exact h]

theorem State.laws.ready_of_dwell (h : s.laws C R) (hw : s.te.winder = .dwell) : s.ready C R :=
  h.ready (by rw [hw]; rfl) (by rw [hw]; rfl)

theorem State.laws.expired (h : s.laws C R) (n : Nat) (f : Executive → Executive)
    (hf : (f s.te).winder = s.te.winder ∧ (f s.te).rest = s.te.rest := by exact ⟨rfl, rfl⟩) :
    ((s.reach n).modTe f).laws C R :=
  State.laws_of_core ((State.core_modTe _ f (by rw [State.reach_te]; exact hf)).trans (s.core_reach n)) h

/-- A readiness timer runs in PREPARING alone. -/
theorem State.winder_of_readinessExpiry {p : Phase} {n : Nat} (h : s.readinessExpiry p = some n) :
    s.te.winder = .preparing := by
  unfold State.readinessExpiry at h
  split at h
  · next hc => exact hc.1
  · cases h

theorem State.laws.expireReadiness (h : s.laws C R) {p : Phase} {n : Nat} (hn : s.readinessExpiry p = some n) :
    (s.expireReadiness n).laws C R ∧ (s.expireReadiness n).te.winder = .preparing := by
  refine ⟨h.expired n fun t => { t with readiness := none }, ?_⟩
  have hw := State.winder_of_readinessExpiry hn
  simpa [State.expireReadiness] using hw

/-- A clutch timer is met in the clutch state it runs in. -/
theorem State.state_of_clutchTimerIn {c : ClutchState} {n : Nat} (h : s.clutchTimerIn c = some n) :
    s.cc.state = c := by
  unfold State.clutchTimerIn at h
  split at h
  · assumption
  · cases h

theorem State.laws.exec {c : Instr} (h : s.laws C R) (he : Machine.exec c s = .next t) : t.laws C R := by
  have h0 (e : Elapse) : (s.elapse e).laws C R := State.laws_of_core (s.core_elapse e) h
  cases hr : Instr.row c with
  | some x =>
    obtain ⟨e, kind, tag, p⟩ := x
    rw [exec_eq_request_of_row s hr] at he
    cases he
    exact (h0 e).request kind tag p
  | none =>
    cases c
    case powerOn up => exact State.laws_powerOn up s he
    case checkingEnd e =>
      unfold Machine.exec execCheckingEnd at he
      dsimp only at he
      split at he <;> cases he
      · next hw =>
        have h1 : State.checkingFree R (s.elapse e) := ⟨hw, (h0 e).free_of_winder hw⟩
        have h2 := of_ite (c := (s.elapse e).ds.loaded) h1 h1.load
        exact (of_ite h2 h2.readClutch).leaveChecking
      · exact h0 e
    case clutchPowerOnRead e =>
      unfold Machine.exec execClutchPowerOnRead at he
      dsimp only at he
      split at he <;> cases he
      · next hc =>
        have h1 : State.checkingFree R (s.elapse e) := ⟨hc.1, (h0 e).free_of_winder hc.1⟩
        exact h1.readClutch.laws
      · exact h0 e
    case sample e heads order =>
      cases he
      exact of_foldl _ ((State.laws_reporting C R).takeRecord (h0 e) heads) fun _ _ ht => ht.takeBlock _ _ _ _
    case runLost e c =>
      unfold Machine.exec execRunLost at he
      dsimp only at he
      split at he <;> cases he
      · exact (State.laws_reporting C R).loseRun (h0 e) c
      · exact h0 e
    case markEdge e line age => cases he; exact (State.laws_reporting C R).takeEdge (h0 e) _ _
    case driveNotFollowing e => cases he; exact (State.laws_reporting C R).reportAll (h0 e) _
    case tripOvertime e => cases he; exact (State.laws_reporting C R).reportAll (h0 e) _
    case signalOkAsserted e =>
      cases he
      exact (h0 e).onChange _ _ fun _ ht => ht.when fun hc => ht.enterGates hc.1
    case shaftStopAsserted e =>
      cases he
      exact (h0 e).onChange _ _ fun _ ht => ht.when fun _ => ht.report _
    case emergencyInOpen e =>
      cases he
      exact (h0 e).onChange _ _ fun _ ht => ht.report _
    case gateOpens e line =>
      cases he
      exact (h0 e).onChange _ _ fun _ ht => ht.when fun _ => ht.report _
    case brakeAppliedAsserted e =>
      cases he
      exact (h0 e).onChange _ _ fun _ ht => ht.when fun hc => ht.brakesConfirmed (by rw [hc.1]; exact nofun)
    case bBrakeAppliedAsserted e =>
      cases he
      exact (h0 e).onChange _ _ fun _ ht => ht.when fun hc => ht.beginOpening (.inl (by rw [hc.1]; exact nofun))
    case clutchSwitchChange e opened closed =>
      cases he
      exact (h0 e).onChange _ _ fun _ ht => ht.when fun _ => ht.switchChange
    case skipLoadedAsserted e =>
      cases he
      refine (h0 e).onChange _ _ fun t ht => ?_
      split
      · next hc => exact (ht.ready_of_dwell hc.1).skipLoaded
      · exact ht.report _
    case skipDumpedAsserted e =>
      cases he
      refine (h0 e).onChange _ _ fun t ht => ?_
      split
      · next hc => exact (ht.ready_of_dwell hc.1).skipDumped
      · exact ht.report _
    case signalWaitExpiry e =>
      unfold Machine.exec execSignalWaitExpiry at he
      dsimp only at he
      split at he <;> cases he
      · exact h0 e
      · next n hn =>
        obtain ⟨h1, hw⟩ := (h0 e).expireReadiness hn
        exact (h1.ready_of_preparing hw).phaseFail _
    case torqueWaitExpiry e =>
      unfold Machine.exec execTorqueWaitExpiry at he
      dsimp only at he
      split at he <;> cases he
      · exact h0 e
      · next n hn =>
        obtain ⟨h1, hw⟩ := (h0 e).expireReadiness hn
        exact h1.torqueEnd hw
    case releaseWaitExpiry e =>
      unfold Machine.exec execReleaseWaitExpiry at he
      dsimp only at he
      split at he <;> cases he
      · exact h0 e
      · next n hn =>
        obtain ⟨h1, hw⟩ := (h0 e).expireReadiness hn
        exact h1.releaseEnd hw
    case settleWaitExpiry e =>
      unfold Machine.exec execSettleWaitExpiry at he
      dsimp only at he
      split at he <;> cases he
      · exact h0 e
      · next n hn =>
        obtain ⟨h1, hw⟩ := (h0 e).expireReadiness hn
        exact (h1.ready_of_preparing hw).settleEnd
    case brakeTimerExpiry e =>
      unfold Machine.exec execBrakeTimerExpiry at he
      dsimp only at he
      split at he <;> cases he
      exacts [h0 e, State.laws.report ((h0 e).expired _ _ (by simp)) _]
    case loadWaitExpiry e =>
      unfold Machine.exec execLoadWaitExpiry at he
      dsimp only at he
      split at he <;> cases he
      exacts [h0 e, State.laws.report ((h0 e).expired _ _ (by simp)) _]
    case dumpWaitExpiry e =>
      unfold Machine.exec execDumpWaitExpiry at he
      dsimp only at he
      split at he <;> cases he
      exacts [h0 e, State.laws.report ((h0 e).expired _ _ (by simp)) _]
    case clutchReleaseTimeout e =>
      unfold Machine.exec execClutchReleaseTimeout at he
      dsimp only at he
      split at he <;> cases he
      exacts [h0 e, State.laws.releaseFail (State.laws_of_core (State.core_reach _ _) (h0 e))]
    case clutchEngageTimeout e =>
      unfold Machine.exec execClutchEngageTimeout at he
      dsimp only at he
      split at he <;> cases he
      · exact h0 e
      · next n hn =>
        have hc := State.state_of_clutchTimerIn hn
        refine State.laws.engageFail (State.laws_of_core (State.core_reach _ _) (h0 e)) ?_
        rw [State.reach_cc, hc]
        exact nofun
    case storeWriteEnd e readBack =>
      unfold Machine.exec execStoreWriteEnd at he
      dsimp only at he
      split at he <;> cases he
      · cases readBack <;> exact State.laws_of_core rfl (h0 e)
      · exact h0 e
    case attnPulseEnd e =>
      unfold Machine.exec execAttnPulseEnd at he
      dsimp only at he
      split at he <;> cases he
      exacts [h0 e, State.laws_of_core ((State.core_modLink _ _).trans (State.core_reach _ _)) (h0 e)]
    case frameGapTimeout e =>
      unfold Machine.exec execFrameGapTimeout at he
      dsimp only at he
      split at he <;> cases he <;> exact State.laws_of_core rfl (h0 e)
    case frameDiscard e why => cases he; exact State.laws_of_core rfl (h0 e)
    case replyBegin e =>
      unfold Machine.exec execReplyBegin at he
      dsimp only at he
      split at he <;> cases he <;> exact State.laws_of_core rfl (h0 e)
    case replyEnd e =>
      unfold Machine.exec execReplyEnd at he
      dsimp only at he
      split at he <;> cases he <;> exact State.laws_of_core rfl (h0 e)
    case byteReceived e byte =>
      cases he
      exact State.receiveByte_of byte _ (fun _ _ => State.laws_of_core rfl (h0 e)) fun _ _ _ =>
        State.laws.request (State.laws_of_core rfl (h0 e)) _ _ _
    all_goals exact absurd hr nofun

theorem State.laws.step (h : s.laws C R) (he : Machine.step s = .next t) : t.laws C R := by
  unfold Machine.step at he
  split at he
  · cases he; exact h
  · next rest _ => exact State.laws.exec (s := { s with pending := rest }) (State.laws_of_core rfl h) he
end steps

/-- Settles O59, by the laws that every step keeps, with the clutch law where the state holds it. -/
theorem queueAndClutchLawsAreKept : Obligations.QueueAndClutchLawsAreKept := by
  unfold Obligations.QueueAndClutchLawsAreKept
  intro s t hstep hqueue
  have h : s.laws s.clutchLaw False := ⟨hqueue, id, nofun⟩
  obtain ⟨hq, hC, -⟩ := h.step hstep
  exact ⟨hq, hC⟩

/-- Settles O60, by the laws that every step keeps, with the reference law. -/
theorem referenceLawIsKept : Obligations.ReferenceLawIsKept := by
  unfold Obligations.ReferenceLawIsKept
  intro s t hstep hqueue href
  have h : s.laws False s.referenceLaw := ⟨hqueue, nofun, id⟩
  obtain ⟨-, -, hR⟩ := h.step hstep
  exact hR href

end Sys2Proof.Machine
end

section
/-! The receiver, the port's checks and the request rows (R191 to R198), the output lines (R117, R158, R181,
R182, R203) and the values of power-on. -/

namespace Sys2Proof.Machine

open Sys2Proof

/-- Settles O1. -/
theorem stepTakesFrontCommandOrIdles : Obligations.StepTakesFrontCommandOrIdles := by
  refine ⟨fun _ _ _ => rfl, fun s h => ?_⟩
  unfold step
  rw [h]

section port
variable (s : State) (e : Elapse) (b : Byte) (tag : Byte) (p : List Byte)

/-! #### Bytes of a frame -/

theorem State.exec_byteReceived : exec (.byteReceived e b) s = .next ((s.elapse e).receiveByte b) := rfl

theorem State.receiveByte_unheard {s : State} (h : s.te.winder = .checking ∨ s.link.replyState = .sending) :
    s.receiveByte b = s := if_pos h

theorem State.receiveByte_hunting {s : State} (hw : s.te.winder ≠ .checking) (hr : s.link.replyState ≠ .sending)
    (h : s.link.receive = .hunting) : s.receiveByte b =
      if b = 0xA5 then { s with link := { s.link with receive := .receiving, buffer := [b] } } else s := by
  unfold State.receiveByte
  rw [if_neg (not_or.mpr ⟨hw, hr⟩), h]
  rfl

theorem State.receiveByte_receiving {s : State} (hw : s.te.winder ≠ .checking) (hr : s.link.replyState ≠ .sending)
    (h : s.link.receive = .receiving) : s.receiveByte b = s.gather b := by
  unfold State.receiveByte
  rw [if_neg (not_or.mpr ⟨hw, hr⟩), h]

theorem octet_eq_getD (p : List Byte) (i : Nat) : octet p i = (p.getD i 0).toNat := by
  unfold octet fieldNat
  rw [List.getD_eq_getElem?_getD, ← List.head?_drop]
  cases p.drop i <;> simp [natOfBytes]

theorem within_iff {lo hi n : Nat} : within lo hi n = true ↔ lo ≤ n ∧ n ≤ hi := by
  simp [within]

theorem State.gather_of_badLength (hlen : (s.link.buffer ++ [b]).length = 3)
    (h : ((s.link.buffer ++ [b]).getD 2 0).toNat < 2 ∨ 202 < ((s.link.buffer ++ [b]).getD 2 0).toNat) :
    s.gather b = s.hunt := by
  refine if_pos ⟨hlen, ?_⟩
  rw [Bool.not_eq_true', ← Bool.not_eq_true, within_iff, frameLength, octet_eq_getD]
  omega

theorem State.gather_of_unfinished
    (hlen : (s.link.buffer ++ [b]).length = 3 →
      2 ≤ ((s.link.buffer ++ [b]).getD 2 0).toNat ∧ ((s.link.buffer ++ [b]).getD 2 0).toNat ≤ 202)
    (h : 3 ≤ (s.link.buffer ++ [b]).length →
      (s.link.buffer ++ [b]).length < ((s.link.buffer ++ [b]).getD 2 0).toNat + 5) :
    s.gather b = { s with link := { s.link with buffer := s.link.buffer ++ [b] } } := by
  unfold State.gather
  dsimp only
  rw [if_neg, if_neg]
  · rfl
  · rintro ⟨h3, heq⟩
    have := h h3
    rw [frameLength, octet_eq_getD] at heq
    omega
  · rintro ⟨h3, hw⟩
    rw [Bool.not_eq_true', ← Bool.not_eq_true, within_iff, frameLength, octet_eq_getD] at hw
    exact hw (hlen h3)
end port

/-- Settles O2. -/
theorem receiverAndReplyStates : Obligations.ReceiverAndReplyStates := by
  unfold Obligations.ReceiverAndReplyStates
  refine ⟨fun e b s => ⟨fun h => ?_, fun hw hr => ⟨fun h => ?_, fun h hlen => ?_, fun h hlen hn => ?_,
    fun h h3 h2 h202 hlt => ?_⟩⟩, fun e s => ⟨fun h => ?_, fun _ => rfl, fun h => ?_, fun h => ?_⟩⟩
  · exact congrArg Host.Outcome.next (State.receiveByte_unheard (s := s.elapse e) b h)
  · exact congrArg Host.Outcome.next (State.receiveByte_hunting (s := s.elapse e) b hw hr h)
  · rw [State.exec_byteReceived, State.receiveByte_receiving (s := s.elapse e) b hw hr h,
      State.gather_of_unfinished _ _ (fun h3 => ?_) fun h3 => ?_]
    · rfl
    all_goals exact absurd hlen (by simp only [State.elapse_link] at h3; omega)
  · rw [State.exec_byteReceived, State.receiveByte_receiving (s := s.elapse e) b hw hr h,
      State.gather_of_badLength (s.elapse e) b hlen hn]
    rfl
  · rw [State.exec_byteReceived, State.receiveByte_receiving (s := s.elapse e) b hw hr h,
      State.gather_of_unfinished (s.elapse e) b (fun _ => ⟨h2, h202⟩) fun _ => hlt]
    rfl
  · exact if_pos h
  · exact if_pos h
  · exact if_pos h

theorem mem_requestKinds_of_toNat {kind : Byte} (h : kind.toNat ∈ requestKinds.map BitVec.toNat) :
    kind ∈ requestKinds := by
  obtain ⟨k, hk, heq⟩ := List.mem_map.mp h
  rwa [← BitVec.eq_of_toNat_eq heq]

/-- A kind that R198 does not list has no owner. -/
theorem State.request_unlisted {kind : Byte} (tag : Byte) (p : List Byte) (s : State) (hk : kind ∉ requestKinds) :
    s.request kind tag p = s.reqUnknown kind tag := by
  unfold State.request
  split
  case h_40 => rfl
  all_goals
    next heq => exact absurd (mem_requestKinds_of_toNat (by rw [heq]; decide)) hk

/-- Settles O4. -/
theorem portChecksKindThenFormThenClass : Obligations.PortChecksKindThenFormThenClass := by
  unfold Obligations.PortChecksKindThenFormThenClass
  refine ⟨fun e tag kind p s ht hk => ?_, fun w hw => ⟨rfl, rfl, rfl, ?_⟩,
    fun kind cls form owner tag p s => ⟨fun h => ?_, fun h hf => ?_, fun c h hf hc => ?_, fun h hf hc => ?_⟩⟩
  · have h := (s.elapse e).request_unlisted tag p hk
    exact congrArg Host.Outcome.next (h.trans (if_pos ht))
  · cases w <;> first | rfl | exact absurd rfl hw
  · exact s.serve_busy _ _ _ _ _ _ h
  · exact s.serve_badForm _ _ _ _ _ _ h hf
  · exact s.serve_class _ _ _ _ _ _ h hf hc
  · exact s.serve_owner _ _ _ _ _ _ h hf hc

/-! #### Requests that are refused -/

/-- An answer that is OK or ACCEPTED, or one that leaves the state. -/
inductive Plain (s : State) : Answered → Prop
  | ok (d : List Byte) (t : State) : Plain s (answer .ok d t)
  | accepted (d : List Byte) (t : State) : Plain s (answer .accepted d t)
  | kept (c : ResultCode) (d : List Byte) : Plain s (answer c d s)

theorem Plain.state_eq {s : State} {a : Answered} (h : Plain s a) (hok : a.code ≠ .ok) (hacc : a.code ≠ .accepted) :
    a.state = s := by
  cases h with
  | ok => exact absurd rfl hok
  | accepted => exact absurd rfl hacc
  | kept => rfl

theorem whenStoreIdle_plain {owner : List Byte → State → Answered} {p : List Byte} {s : State}
    (h : Plain s (owner p s)) : Plain s (whenStoreIdle owner p s) := of_ite (.kept .busy []) h

section plain
variable (p : List Byte) (s : State)

theorem edits_plain {owner : List Byte → State → Answered} (ho : Edits owner) : Plain s (owner p s) := by
  cases ho with
  | putLevel => unfold putLevel; dsimp only; (repeat' split) <;> constructor
  | putMark => unfold putMark; dsimp only; (repeat' split) <;> constructor
  | putDrum => unfold putDrum; split <;> constructor
  | putConveyance => unfold putConveyance; (repeat' split) <;> constructor
  | putLimits => unfold putLimits; split <;> constructor
  | putSeverity => unfold putSeverity; (repeat' split) <;> constructor
  | commit => unfold commit; split <;> constructor

theorem setService_plain : Plain s (setService p s) := by
  unfold setService serviceOn serviceOff serviceOnChecks
  (repeat' split) <;> constructor

theorem start_plain : Plain s (start p s) := by
  unfold start startHeld
  dsimp only
  (repeat' split) <;> constructor

theorem stop_plain : Plain s (stop p s) := by
  unfold stop stopActive
  (repeat' split) <;> constructor

theorem retarget_plain : Plain s (retarget p s) := by
  unfold retarget retargetChecked
  dsimp only
  (repeat' split) <;> constructor

theorem acts_plain {owner : List Byte → State → Answered} (ho : Acts owner) : Plain s (owner p s) := by
  cases ho with
  | askIdentity => exact .ok _ _
  | askStatus => exact .ok _ _
  | askPosition => exact .ok _ _
  | askQueue => exact .ok _ _
  | askFaults => exact .ok _ _
  | askWatch => exact .ok _ _
  | askLimits => exact .ok _ _
  | askLevel => unfold askLevel; dsimp only; split <;> constructor
  | askMark => unfold askMark; dsimp only; split <;> constructor
  | askDrum => unfold askDrum; split <;> constructor
  | askConveyance => unfold askConveyance; split <;> constructor
  | readFaultLog => unfold readFaultLog; split <;> constructor
  | setDatum => unfold datumRequest; (repeat' split) <;> constructor
  | setService => exact setService_plain p s
  | setMode => unfold setMode; split <;> constructor
  | queueTrip => unfold queueTrip; dsimp only; split <;> constructor
  | queueSkip => unfold queueSkip; dsimp only; split <;> constructor
  | withdraw => unfold withdraw; (repeat' split) <;> constructor
  | prepare => unfold prepare; dsimp only; (repeat' split) <;> constructor
  | start => exact start_plain p s
  | stop => exact stop_plain p s
  | retarget => exact retarget_plain p s
  | resetTrip => unfold resetRequest; split <;> constructor
  | clearLockout => unfold clearLockout; split <;> constructor
  | restart => unfold restart; split <;> constructor
  | takeEvents => unfold takeEvents; dsimp only; split <;> constructor
  | ackFault => unfold ackFault; split <;> constructor
  | clearFaultLog => unfold clearFaultLog; split <;> constructor
  | setWatch => unfold setWatchPoint; dsimp only; (repeat' split) <;> constructor
  | clearWatch => unfold clearWatch; dsimp only; (repeat' split) <;> constructor
  | clutchOut => unfold clutchOut; split <;> constructor
  | clutchIn => unfold clutchIn; dsimp only; (repeat' split) <;> constructor

theorem State.resultByte_reply (tag k : Byte) (a : Answered) :
    (State.reply tag k a).resultByte = byteAt a.code.code 0 := rfl

/-- A reply that neither is OK nor ACCEPTED, of an answer that leaves the state where it is neither. -/
theorem State.reply_of_plain {s : State} {a : Answered} {t : State} (tag k : Byte) (h : Plain s.hunt a)
    (ht : t = State.reply tag k a) (hok : t.resultByte ≠ 0x00) (hacc : t.resultByte ≠ 0x01) :
    t = { s with link := { s.link with
      receive := .hunting, buffer := [], replyState := .pending, reply := t.link.reply } } := by
  subst ht
  rw [State.resultByte_reply] at hok hacc
  have hs := h.state_eq (fun hc => hok (by rw [hc]; rfl)) fun hc => hacc (by rw [hc]; rfl)
  simp only [State.reply, hs]
  rfl
end plain

/-- An owner is one that edits the description while no store write is in progress, or one that does not edit it. -/
theorem Owner.edits_or_acts {owner : List Byte → State → Answered} (ho : Owner owner) :
    (∃ edit, Edits edit ∧ owner = whenStoreIdle edit) ∨ Acts owner := by
  cases ho with
  | putLevel => exact .inl ⟨_, .putLevel, rfl⟩
  | askLevel => exact .inr .askLevel
  | putMark => exact .inl ⟨_, .putMark, rfl⟩
  | askMark => exact .inr .askMark
  | putDrum => exact .inl ⟨_, .putDrum, rfl⟩
  | askDrum => exact .inr .askDrum
  | putConveyance => exact .inl ⟨_, .putConveyance, rfl⟩
  | askConveyance => exact .inr .askConveyance
  | putLimits => exact .inl ⟨_, .putLimits, rfl⟩
  | askLimits => exact .inr .askLimits
  | putSeverity => exact .inl ⟨_, .putSeverity, rfl⟩
  | commit => exact .inl ⟨_, .commit, rfl⟩
  | setDatum => exact .inr .setDatum
  | setService => exact .inr .setService
  | setMode => exact .inr .setMode
  | queueTrip => exact .inr .queueTrip
  | queueSkip => exact .inr .queueSkip
  | withdraw => exact .inr .withdraw
  | prepare => exact .inr .prepare
  | start => exact .inr .start
  | stop => exact .inr .stop
  | retarget => exact .inr .retarget
  | resetTrip => exact .inr .resetTrip
  | clearLockout => exact .inr .clearLockout
  | restart => exact .inr .restart
  | askIdentity => exact .inr .askIdentity
  | askStatus => exact .inr .askStatus
  | askPosition => exact .inr .askPosition
  | askQueue => exact .inr .askQueue
  | takeEvents => exact .inr .takeEvents
  | askFaults => exact .inr .askFaults
  | readFaultLog => exact .inr .readFaultLog
  | ackFault => exact .inr .ackFault
  | clearFaultLog => exact .inr .clearFaultLog
  | askWatch => exact .inr .askWatch
  | setWatch => exact .inr .setWatch
  | clearWatch => exact .inr .clearWatch
  | clutchOut => exact .inr .clutchOut
  | clutchIn => exact .inr .clutchIn

theorem Owner.plain {owner : List Byte → State → Answered} (ho : Owner owner) (p : List Byte) (s : State) :
    Plain s (owner p s) := by
  rcases ho.edits_or_acts with ⟨edit, he, rfl⟩ | ha
  · exact whenStoreIdle_plain (edits_plain p s he)
  · exact acts_plain p s ha

/-- A request that the port takes is replied to. -/
theorem State.request_eq_reply {s : State} (kind tag : Byte) (p : List Byte) (ht : s.takesFrame = true) :
    ∃ k a, Plain s.hunt a ∧ s.request kind tag p = State.reply tag k a := by
  refine State.request_cases (P := fun t => ∃ k a, Plain s.hunt a ∧ t = State.reply tag k a) kind tag p s
    (fun k cls form owner ho => ⟨replyKind k, checked cls form owner p s.hunt, ?_, if_pos ht⟩)
    fun _ => ⟨unknownReplyKind kind, _, .kept .unknownKind [], if_pos ht⟩
  unfold checked
  split
  · split
    · exact .kept _ []
    · exact ho.plain p _
  · exact .kept .badForm []

/-- Settles O5. -/
theorem untakenAndRefusedRequestsChangeNothing : Obligations.UntakenAndRefusedRequestsChangeNothing := by
  unfold Obligations.UntakenAndRefusedRequestsChangeNothing
  refine ⟨fun kind tag p s ht => ?_, fun kind tag p s ht => ?_⟩
  · obtain ⟨k, a, ha, heq⟩ := State.request_eq_reply kind tag p ht
    exact State.reply_of_plain tag k ha heq
  · exact State.request_cases (P := fun t => t = s.hunt) kind tag p s
      (fun k cls form owner _ => s.serve_busy k tag cls form owner p ht)
      fun _ => if_neg (by rw [ht]; exact Bool.false_ne_true)

/-- Settles O6. -/
theorem requestRowsAreServed : Obligations.RequestRowsAreServed := by
  unfold Obligations.RequestRowsAreServed
  intro e tag p s
  dsimp only
  repeat' apply And.intro
  all_goals rfl

/-! #### The output lines -/

theorem State.brakeRelease_iff (s : State) : s.brakeRelease = true ↔
    (s.te.winder = .preparing ∧ (s.te.phase = .release ∨ s.te.phase = .settle)) ∨ s.te.winder = .prepared ∨
      ((s.te.winder = .winding ∨ s.te.winder = .stopping) ∧ s.te.rest ≠ .brakeConfirm) := by
  unfold State.brakeRelease
  cases s.te.winder <;> simp

theorem State.torqueReq_iff (s : State) : s.torqueReq = true ↔
    (s.te.winder = .preparing ∧ (s.te.phase = .torque ∨ s.te.phase = .release ∨ s.te.phase = .settle)) ∨
      s.te.winder = .prepared ∨ s.te.winder = .winding ∨ s.te.winder = .stopping := by
  unfold State.torqueReq
  cases s.te.winder <;> simp [or_assoc]

theorem State.clutchCmd_iff (s : State) : s.clutchCmd = true ↔
    s.cc.state = .released ∨ (s.cc.state = .releasing ∧ s.cc.step = .opening) := by
  unfold State.clutchCmd
  cases s.cc.state <;> simp

theorem FaultKind.mem_all (k : FaultKind) : k ∈ FaultKind.all := by cases k <;> decide

theorem State.mem_pendingKinds (s : State) (k : FaultKind) : k ∈ s.pendingKinds ↔ s.isPending k = true := by
  simp [State.pendingKinds, FaultKind.mem_all, State.isPending]

theorem State.advise_iff (s : State) : s.advise = true ↔
    s.te.winder ≠ .checking ∧ s.limits.adviseEnable = true ∧ ∃ k, s.isPending k = true ∧ s.severity k = 0 := by
  simp [State.advise, State.mem_pendingKinds, and_assoc]

theorem State.attn_iff (s : State) : s.attn = true ↔ s.te.winder ≠ .checking ∧
    ((s.limits.attnMode = .level ∧ s.link.events ≠ []) ∨ (s.limits.attnMode = .pulse ∧ s.link.pulse ≠ none)) := by
  unfold State.attn
  cases s.limits.attnMode <;> simp [Option.isSome_iff_ne_none]

/-- Settles O57. -/
theorem outputLinesFollowTheState : Obligations.OutputLinesFollowTheState := by
  unfold Obligations.OutputLinesFollowTheState
  intro s
  refine ⟨?_, s.brakeRelease_iff, s.torqueReq_iff, ?_, ?_, ?_, s.clutchCmd_iff, Iff.rfl, s.advise_iff, s.attn_iff,
    fun e => ⟨fun t ht => ?_, fun hn => ?_⟩⟩
  · unfold State.safety
    cases s.te.winder <;> decide
  · simp [State.loadPermit]
  · simp [State.lockoutLamp]
  · simp [State.bBrakeHold]
  · change execAttnPulseEnd e s = _
    simp only [execAttnPulseEnd, State.elapse_link, ht, State.modLink, State.reach_link]
  · change execAttnPulseEnd e s = _
    simp only [execAttnPulseEnd, State.elapse_link, hn]

/-! #### The values of power-on -/

theorem tableGet_replicate_none {α : Type} {n : Nat} (i : Nat) :
    tableGet (Vector.replicate n (none : Option α)) i = none := by
  rw [tableGet, Vector.getElem?_replicate]
  split <;> rfl

theorem State.reset_free : State.reset.free True := ⟨⟨Nat.zero_le _, List.nodup_nil, nofun⟩, rfl, fun _ => ⟨rfl, rfl⟩⟩

theorem State.reset_passage (i : Nat) : State.reset.passage i = .armed := by
  simp only [State.passage, State.reset, Vector.toList_replicate, List.getElem?_replicate]
  split <;> rfl

theorem State.reset_faults (k : FaultKind) :
    State.reset.isPending k = false ∧ (State.reset.fm.counts.toList[k.idx]?).getD 0 = 0 := by
  cases k <;> exact ⟨rfl, rfl⟩

theorem State.reset_laws : State.reset.laws True True := State.reset_free.laws rfl

/-- Settles O19. -/
theorem resetHoldsThePowerOnValues : Obligations.ResetHoldsThePowerOnValues := by
  unfold Obligations.ResetHoldsThePowerOnValues
  obtain ⟨hqueue, hclutch, href⟩ := State.reset_laws
  refine ⟨rfl, rfl, rfl, rfl, fun i => tableGet_replicate_none i, fun i => tableGet_replicate_none i,
    fun c => by cases c <;> rfl, rfl, rfl, by decide, by decide, by decide, rfl,
    fun c => by cases c <;> exact ⟨rfl, rfl, rfl, rfl, rfl, rfl, rfl, rfl, rfl, rfl, rfl, rfl, rfl, rfl, rfl, rfl⟩,
    State.reset_passage, rfl, rfl, rfl, rfl, rfl, rfl, rfl, rfl, rfl, rfl, rfl, rfl, rfl, rfl, rfl, rfl, rfl, rfl,
    rfl, rfl, rfl, rfl, rfl, rfl, rfl, rfl, rfl, rfl, fun id => tableGet_replicate_none id, rfl, rfl, rfl, rfl,
    rfl, rfl, State.reset_faults, rfl, rfl, rfl, rfl, rfl, rfl, rfl, rfl, Nat.zero_le _, ?_, ?_, hqueue,
    hclutch trivial, href trivial⟩
  · exact ⟨Nat.zero_le _, fun _ => rfl, by simp [State.reset, resetFaults]⟩
  · exact ⟨floorsKept_emptyDescription, floorsKept_emptyDescription⟩

end Sys2Proof.Machine
end

section
/-! A whole frame, byte by byte (R192, R193, R207). -/

namespace Sys2Proof.Machine

open Sys2Proof

/-- A state whose receiver has gathered some bytes of a frame. -/
def State.gathering (s : State) (bytes : List Byte) : State :=
  { s with link := { s.link with receive := .receiving, buffer := bytes } }

/-- What the CRC of a frame covers (R207). -/
def frameBody (address : Nat) (tag kind : Byte) (p : List Byte) : List Byte :=
  le8 address ++ le8 (p.length + 2) ++ [tag, kind] ++ p

section frames
variable {s : State} {address : Nat} {tag kind c0 c1 b : Byte} {p bytes pre rest : List Byte}

theorem State.hunt_gathering (hs : s.listens) : (s.gathering bytes).hunt = s := by
  obtain ⟨-, -, hr, hb⟩ := hs
  have hlink : { s.link with receive := .hunting, buffer := [] } = s.link := by rw [← hr, ← hb]
  change { s with link := { s.link with receive := .hunting, buffer := [] } } = s
  rw [hlink]

theorem State.receiveByte_gathering (hs : s.listens) :
    (s.gathering bytes).receiveByte b = (s.gathering bytes).gather b := by
  obtain ⟨hw, hr, -⟩ := hs
  exact State.receiveByte_receiving (s := s.gathering bytes) b hw hr rfl

/-- The bytes of a frame short of its last one are gathered. -/
theorem State.foldl_receiveByte_gathering (hs : s.listens) {n : Nat} (hlo : 2 ≤ n) (hhi : n ≤ 202)
    (hn : ((pre ++ rest).getD 2 0).toNat = n) (hlen : (pre ++ rest).length < n + 5) :
    rest.foldl (fun t b => t.receiveByte b) (s.gathering pre) = s.gathering (pre ++ rest) := by
  induction rest generalizing pre with
  | nil => simp
  | cons b rest ih =>
    have happ : pre ++ b :: rest = (pre ++ [b]) ++ rest := by simp
    rw [happ] at hn hlen ⊢
    have hb (h3 : 3 ≤ (pre ++ [b]).length) : ((pre ++ [b]).getD 2 0).toNat = n := by
      rw [← hn, List.getD_append (pre ++ [b]) rest 0 2 h3]
    have hstep : (s.gathering pre).receiveByte b = s.gathering (pre ++ [b]) := by
      rw [State.receiveByte_gathering hs]
      exact (State.gather_of_unfinished (s.gathering pre) b
        (fun h3 => by rw [State.gathering, hb h3.ge]; exact ⟨hlo, hhi⟩)
        fun h3 => by
          rw [State.gathering, hb h3]
          rw [List.length_append] at hlen
          change (pre ++ [b]).length < _
          omega)
    rw [List.foldl_cons, hstep, ih hn hlen]

/-- The byte that completes a frame. -/
theorem State.receiveByte_last (hs : s.listens) (hlo : 2 ≤ ((bytes ++ [b]).getD 2 0).toNat)
    (hlen : (bytes ++ [b]).length = ((bytes ++ [b]).getD 2 0).toNat + 5) :
    (s.gathering bytes).receiveByte b = s.frame (bytes ++ [b]) := by
  have hbuffer : (s.gathering bytes).link.buffer = bytes := rfl
  rw [State.receiveByte_gathering hs, State.gather, hbuffer, frameLength, octet_eq_getD,
    if_neg (by omega), if_pos ⟨by omega, hlen⟩,
    State.hunt_gathering hs]

theorem State.receiveBytes_frame (hs : s.listens) {n : Nat} (hlo : 2 ≤ n) (hhi : n ≤ 202)
    (hn : ((0xA5 :: (bytes ++ [b])).getD 2 0).toNat = n) (hlen : bytes.length = n + 3) :
    s.receiveBytes (0xA5 :: (bytes ++ [b])) = s.frame (0xA5 :: (bytes ++ [b])) := by
  have hfirst : s.receiveByte 0xA5 = s.gathering [0xA5] := by
    obtain ⟨hw, hr, hh, -⟩ := hs
    exact (State.receiveByte_hunting 0xA5 hw hr hh).trans (if_pos rfl)
  have hn' : (([0xA5] ++ bytes).getD 2 0).toNat = n := by
    rw [← hn, ← List.cons_append, List.getD_append (0xA5 :: bytes) [b] 0 2 (by rw [List.length_cons]; omega)]
    rfl
  rw [State.receiveBytes, List.foldl_cons, hfirst, List.foldl_append,
    State.foldl_receiveByte_gathering hs hlo hhi hn' (by simp; omega)]
  exact State.receiveByte_last hs (by rw [← hn] at hlo; exact hlo)
    (by rw [← hn] at hlen; simp at hlen ⊢; omega)

/-! #### What a whole frame spells -/

/-- A frame with any two CRC bytes. -/
def spelled (address : Nat) (tag kind : Byte) (p : List Byte) (c0 c1 : Byte) : List Byte :=
  [0xA5] ++ frameBody address tag kind p ++ [c0, c1]

theorem spelled_eq : spelled address tag kind p c0 c1 =
    0xA5 :: byteAt address 0 :: byteAt (p.length + 2) 0 :: tag :: kind :: (p ++ [c0, c1]) := by
  simp [spelled, frameBody, le8]

theorem frameLength_spelled (hp : p.length ≤ 200) : frameLength (spelled address tag kind p c0 c1) = p.length + 2 := by
  rw [frameLength, octet_eq_getD, spelled_eq]
  change (byteAt (p.length + 2) 0).toNat = _
  rw [byteAt_toNat, pow_zero, Nat.div_one, Nat.mod_eq_of_lt (by omega)]

theorem octet_spelled_address (ha : address < 256) : octet (spelled address tag kind p c0 c1) 1 = address := by
  rw [octet_eq_getD, spelled_eq]
  change (byteAt address 0).toNat = _
  rw [byteAt_toNat, pow_zero, Nat.div_one, Nat.mod_eq_of_lt ha]

theorem framePayload_spelled (hp : p.length ≤ 200) : framePayload (spelled address tag kind p c0 c1) = p := by
  rw [framePayload, frameLength_spelled hp, spelled_eq]
  simp

theorem le16_eq_iff {n : Nat} (hn : n < 65536) : le16 n = [c0, c1] ↔ n = natOfBytes [c0, c1] := by
  constructor
  · intro h
    rw [← h, natOfBytes_le16 hn]
  · rintro rfl
    simp only [le16, natOfBytes, List.cons.injEq, and_true]
    constructor
    all_goals
      apply BitVec.eq_of_toNat_eq
      rw [byteAt_toNat]
      omega

theorem crcAgrees_spelled (hp : p.length ≤ 200) : crcAgrees (spelled address tag kind p c0 c1) = true ↔
    le16 (crc16 (frameBody address tag kind p)).toNat = [c0, c1] := by
  have hbody : ((spelled address tag kind p c0 c1).drop 1).take (p.length + 4) = frameBody address tag kind p := by
    have hl : (frameBody address tag kind p).length = p.length + 4 := by simp [frameBody, le8]
    rw [← hl]
    simp [spelled]
  have hcrc : fieldNat (spelled address tag kind p c0 c1) (p.length + 5) 2 = natOfBytes [c0, c1] := by
    rw [fieldNat, spelled_eq]
    simp
  rw [crcAgrees, frameLength_spelled hp, hbody, hcrc, decide_eq_true_iff, le16_eq_iff (BitVec.isLt _)]

/-- A frame that is ours and whole is the request it carries; any other is dropped. -/
theorem State.frame_spelled (hs : s.listens) (ha : address < 256) (hp : p.length ≤ 200) :
    s.frame (spelled address tag kind p c0 c1) =
      if address = s.link.address ∧ le16 (crc16 (frameBody address tag kind p)).toNat = [c0, c1] then
        s.request kind tag p else s := by
  have hhunt : s.hunt = s := by
    have h := State.hunt_gathering (bytes := []) hs
    exact h
  have hkind : frameKind (spelled address tag kind p c0 c1) = kind := by rw [spelled_eq]; rfl
  have htag : frameTag (spelled address tag kind p c0 c1) = tag := by rw [spelled_eq]; rfl
  rw [State.frame, framePayload_spelled hp, hkind, htag, hhunt]
  refine if_congr ?_ rfl rfl
  rw [crcAgrees_spelled hp, octet_spelled_address ha, and_comm]

theorem State.receiveBytes_spelled (hs : s.listens) (ha : address < 256) (hp : p.length ≤ 200) :
    s.receiveBytes (spelled address tag kind p c0 c1) =
      if address = s.link.address ∧ le16 (crc16 (frameBody address tag kind p)).toNat = [c0, c1] then
        s.request kind tag p else s := by
  have hcons : spelled address tag kind p c0 c1 = 0xA5 :: ((frameBody address tag kind p ++ [c0]) ++ [c1]) := by
    simp [spelled]
  have hn := frameLength_spelled (address := address) (tag := tag) (kind := kind) (c0 := c0) (c1 := c1) hp
  rw [frameLength, octet_eq_getD, hcons] at hn
  rw [← State.frame_spelled hs ha hp, hcons]
  exact State.receiveBytes_frame hs (by omega) (by omega) hn (by simp [frameBody, le8])
end frames

/-- Settles O3. -/
theorem wholeFrameIsTakenAndADamagedOneIsNot : Obligations.WholeFrameIsTakenAndADamagedOneIsNot := by
  unfold Obligations.WholeFrameIsTakenAndADamagedOneIsNot
  refine ⟨fun tag kind p s hs ha hp => ?_, fun address tag kind c0 c1 p s hs _ haddr hp hne => ?_,
    fun e address tag kind c0 c1 p s hs _ haddr hp => ?_⟩
  · exact (State.receiveBytes_spelled (tag := tag) (kind := kind) hs ha hp).trans (if_pos ⟨rfl, rfl⟩)
  · refine (State.receiveBytes_spelled (tag := tag) (kind := kind) hs haddr hp).trans (if_neg ?_)
    rintro ⟨h1, h2⟩
    exact hne.elim (fun h => h h1) fun h => h h2
  · have hlast : (State.gathering (s.elapse e) ([0xA5] ++ frameBody address tag kind p ++ [c0])).receiveByte c1 =
        (s.elapse e).frame (spelled address tag kind p c0 c1) := by
      have hn := frameLength_spelled (address := address) (tag := tag) (kind := kind) (c0 := c0) (c1 := c1) hp
      have hspell : spelled address tag kind p c0 c1 = [0xA5] ++ frameBody address tag kind p ++ [c0] ++ [c1] := by
        simp [spelled]
      rw [frameLength, octet_eq_getD, hspell] at hn
      rw [hspell]
      refine State.receiveByte_last hs (by omega) ?_
      rw [hn]
      simp [frameBody, le8]
    have hframe := State.frame_spelled (s := s.elapse e) (tag := tag) (kind := kind) (c0 := c0) (c1 := c1) hs haddr hp
    exact ⟨fun h => congrArg Host.Outcome.next (hlast.trans (hframe.trans (if_pos h))),
      fun h => congrArg Host.Outcome.next (hlast.trans (hframe.trans (if_neg h)))⟩

end Sys2Proof.Machine
end

section
/-! The questions (R5, R47, R59, R148, R187, R189, R198, R205, R206), and the acknowledgement and clearing of the
fault log (R186, R188). -/

namespace Sys2Proof.Machine

open Sys2Proof

/-- The service of a request row: the time it brings, its kind, class and form, the owner, the tag and the payload
(R196, R198). -/
def Instr.service : Instr →
    Option (Elapse × Byte × RequestClass × (List Byte → Bool) × (List Byte → State → Answered) × Byte × List Byte)
  | .askIdentity e tag p => some (e, 0x01, .any, sized 0, askIdentity, tag, p)
  | .askStatus e tag p => some (e, 0x02, .any, sized 0, askStatus, tag, p)
  | .askPosition e tag p => some (e, 0x03, .any, sized 0, askPosition, tag, p)
  | .askQueue e tag p => some (e, 0x04, .any, sized 0, askQueue, tag, p)
  | .takeEvents e tag p => some (e, 0x05, .any, sized 1, takeEvents, tag, p)
  | .askFaults e tag p => some (e, 0x06, .any, sized 0, askFaults, tag, p)
  | .readFaultLog e tag p => some (e, 0x07, .any, sized 1, readFaultLog, tag, p)
  | .ackFault e tag p => some (e, 0x08, .any, sized 1, ackFault, tag, p)
  | .clearFaultLog e tag p => some (e, 0x09, .any, sized 0, clearFaultLog, tag, p)
  | .askWatch e tag p => some (e, 0x0A, .any, sized 0, askWatch, tag, p)
  | .putLevel e tag p => some (e, 0x10, .stood, formPutLevel, whenStoreIdle putLevel, tag, p)
  | .askLevel e tag p => some (e, 0x11, .any, sized 1, askLevel, tag, p)
  | .putMark e tag p => some (e, 0x12, .stood, formPutMark, whenStoreIdle putMark, tag, p)
  | .askMark e tag p => some (e, 0x13, .any, sized 1, askMark, tag, p)
  | .putDrum e tag p => some (e, 0x14, .stood, formPutDrum, whenStoreIdle putDrum, tag, p)
  | .askDrum e tag p => some (e, 0x15, .any, sized 1, askDrum, tag, p)
  | .putConveyance e tag p => some (e, 0x16, .stood, formPutConveyance, whenStoreIdle putConveyance, tag, p)
  | .askConveyance e tag p => some (e, 0x17, .any, sized 1, askConveyance, tag, p)
  | .putLimits e tag p => some (e, 0x18, .stood, sized 80, whenStoreIdle putLimits, tag, p)
  | .askLimits e tag p => some (e, 0x19, .any, sized 0, askLimits, tag, p)
  | .putSeverity e tag p => some (e, 0x1A, .stood, sized 2, whenStoreIdle putSeverity, tag, p)
  | .commit e tag p => some (e, 0x1B, .stood, sized 0, whenStoreIdle commit, tag, p)
  | .setDatum e tag p => some (e, 0x1C, .special, formSetDatum, datumRequest, tag, p)
  | .setServiceOn e tag => some (e, 0x20, .special, formSwitch, setService, tag, [1])
  | .setServiceOff e tag => some (e, 0x20, .special, formSwitch, setService, tag, [0])
  | .setMode e tag p => some (e, 0x21, .service, formSwitch, setMode, tag, p)
  | .queueTrip e tag p => some (e, 0x22, .service, formQueueTrip, queueTrip, tag, p)
  | .queueSkipCycles e tag p => some (e, 0x23, .service, formQueueSkip, queueSkip, tag, p)
  | .withdraw e tag p => some (e, 0x24, .service, sized 2, withdraw, tag, p)
  | .prepare e tag p => some (e, 0x25, .service, sized 2, prepare, tag, p)
  | .start e tag p => some (e, 0x26, .service, sized 2, start, tag, p)
  | .stop e tag p => some (e, 0x27, .service, sized 2, stop, tag, p)
  | .retarget e tag p => some (e, 0x28, .service, formRetarget, retarget, tag, p)
  | .setWatch e tag p => some (e, 0x29, .service, sized 14, setWatchPoint, tag, p)
  | .clearWatch e tag p => some (e, 0x2A, .service, sized 1, clearWatch, tag, p)
  | .clutchOut e tag p => some (e, 0x2B, .service, sized 0, clutchOut, tag, p)
  | .clutchIn e tag p => some (e, 0x2C, .service, sized 0, clutchIn, tag, p)
  | .resetTrip e tag p => some (e, 0x2D, .service, sized 0, resetRequest, tag, p)
  | .clearLockout e tag p => some (e, 0x2E, .special, sized 0, clearLockout, tag, p)
  | .restart e tag p => some (e, 0x2F, .special, sized 0, restart, tag, p)
  | _ => none

section served
variable {c : Instr} {s t : State} {e : Elapse} {k tag rk : Byte} {cls : RequestClass} {form : List Byte → Bool}
  {owner : List Byte → State → Answered} {p : List Byte}

/-- A request row is served. -/
theorem exec_eq_serve (hc : Instr.service c = some (e, k, cls, form, owner, tag, p)) (s : State) :
    exec c s = .next (State.serve k cls form owner tag p (s.elapse e)) := by
  cases c <;> cases hc <;> rfl

theorem State.admits_iff {cls : RequestClass} :
    s.admits cls = true ↔ s.takesFrame = true ∧ classRefusal cls s.te.winder = none := by
  rw [State.admits, Bool.and_eq_true, Option.isNone_iff_eq_none]

theorem State.admits_any (h : s.takesFrame = true) : s.admits .any = true := State.admits_iff.mpr ⟨h, rfl⟩

theorem State.admits_special (h : s.takesFrame = true) : s.admits .special = true := State.admits_iff.mpr ⟨h, rfl⟩

/-- A command that brings a request of good form and of a class that the winder state allows is its owner's answer,
sent (R195 to R197). -/
theorem exec_served (hc : Instr.service c = some (e, k, cls, form, owner, tag, p))
    (h : s.admits cls = true) (hf : form p = true := by rfl) (hk : k + 0x80 = rk := by rfl) :
    exec c s = .next (State.reply tag rk (owner p (s.elapse e).hunt)) := by
  obtain ⟨htake, hclass⟩ := State.admits_iff.mp h
  rw [exec_eq_serve hc, (s.elapse e).serve_owner k tag cls form owner p htake hf hclass, hk]

theorem exec_answered (hc : Instr.service c = some (e, k, cls, form, owner, tag, p)) (h : s.admits cls = true)
    {code : ResultCode} {d : List Byte} (ho : owner p (s.elapse e).hunt = answer code d t.hunt)
    (hf : form p = true := by rfl) (hk : k + 0x80 = rk := by rfl) :
    exec c s = .next (t.answered rk tag code d) := by
  rw [exec_served hc h hf hk, ho]
  rfl

theorem exec_refused (hc : Instr.service c = some (e, k, cls, form, owner, tag, p)) (h : s.admits cls = true)
    {code : ResultCode} (ho : owner p (s.elapse e).hunt = refuse code (s.elapse e).hunt)
    (hf : form p = true := by rfl) (hk : k + 0x80 = rk := by rfl) :
    exec c s = .next ((s.elapse e).answered rk tag code []) := exec_answered hc h ho hf hk
end served

/-! #### The questions -/

section questions
variable (s : State) (b : Byte)

theorem statusSummary_hunt (d : Int) : statusSummary s.hunt d = statusSummary s d := rfl

theorem askStatus_hunt (p : List Byte) :
    askStatus p s.hunt = answer .ok (statusSummary s s.distanceToGo) s.hunt := by
  rw [askStatus, statusSummary_hunt, State.hunt_distanceToGo]

theorem octet_code (c : Conv) : octet (le8 c.code) 0 = c.code := by cases c <;> rfl

theorem Conv.ofCode_code (c : Conv) : Conv.ofCode c.code = some c := by cases c <;> rfl

theorem Conv.ofCode_eq_none {n : Nat} (h1 : n ≠ 1) (h2 : n ≠ 2) : Conv.ofCode n = none := by
  unfold Conv.ofCode
  split
  · exact absurd rfl h1
  · exact absurd rfl h2
  · rfl

theorem Conv.ofCode_octet_eq_none {b : Byte} (h1 : b ≠ 1) (h2 : b ≠ 2) : Conv.ofCode (octet [b] 0) = none := by
  rw [octet_singleton]
  exact Conv.ofCode_eq_none (fun h => h1 (BitVec.eq_of_toNat_eq h)) fun h => h2 (BitVec.eq_of_toNat_eq h)

theorem readFaultLog_of_le (h : b.toNat ≤ 15) : readFaultLog [b] s = answer .ok (logBytes s.fm b.toNat) s := by
  rw [readFaultLog, octet_singleton, if_neg (by omega)]

theorem readFaultLog_of_gt (h : 15 < b.toNat) : readFaultLog [b] s = refuse .badRange s := by
  rw [readFaultLog, octet_singleton, if_pos h]

theorem askLevel_of_lt (h : b.toNat < 48) :
    askLevel [b] s = answer .ok (statusBytes s.ds ++ levelBytes b.toNat (s.level b.toNat)) s := by
  rw [askLevel, octet_singleton, if_neg (by omega)]

theorem askLevel_of_ge (h : 48 ≤ b.toNat) : askLevel [b] s = refuse .badRange s := by
  rw [askLevel, octet_singleton, if_pos h]

theorem askMark_of_lt (h : b.toNat < 24) :
    askMark [b] s = answer .ok (statusBytes s.ds ++ markBytes b.toNat (s.mark b.toNat)) s := by
  rw [askMark, octet_singleton, if_neg (by omega)]

theorem askMark_of_ge (h : 24 ≤ b.toNat) : askMark [b] s = refuse .badRange s := by
  rw [askMark, octet_singleton, if_pos h]

theorem askDrum_code (c : Conv) : askDrum (le8 c.code) s =
    answer .ok (statusBytes s.ds ++ drumBytes c (s.ds.desc.drums.get c)) s := by
  simp only [askDrum, octet_code, Conv.ofCode_code]

theorem askConveyance_code (c : Conv) : askConveyance (le8 c.code) s =
    answer .ok (statusBytes s.ds ++ conveyanceBytes c (s.convRec c)) s := by
  simp only [askConveyance, octet_code, Conv.ofCode_code]

theorem askDrum_of_other {b : Byte} (h1 : b ≠ 1) (h2 : b ≠ 2) : askDrum [b] s = refuse .badRange s := by
  simp only [askDrum, Conv.ofCode_octet_eq_none h1 h2]

theorem askConveyance_of_other {b : Byte} (h1 : b ≠ 1) (h2 : b ≠ 2) :
    askConveyance [b] s = refuse .badRange s := by
  simp only [askConveyance, Conv.ofCode_octet_eq_none h1 h2]

theorem clearWatch_of_other {b : Byte} (h : 15 < b.toNat) (hall : b ≠ 0xFF) :
    clearWatch [b] s = refuse .badRange s := by
  have hne : b.toNat ≠ 0xFF := fun heq => hall (BitVec.eq_of_toNat_eq heq)
  rw [clearWatch, octet_singleton, if_neg hne, if_pos h]
end questions

/-- Settles O7. -/
theorem questionsAnswerOrRefuseTheirParameter : Obligations.QuestionsAnswerOrRefuseTheirParameter := by
  unfold Obligations.QuestionsAnswerOrRefuseTheirParameter
  refine ⟨fun e tag s h => ?_, fun e tag b s h => ?_⟩
  · have hany := State.admits_any h
    refine ⟨exec_answered rfl hany (by rfl), exec_answered rfl hany (askStatus_hunt _ _),
      exec_answered rfl hany (by rfl),
      exec_answered rfl hany (by rfl), exec_answered rfl hany (by rfl),
      fun b hb => exec_answered rfl hany (readFaultLog_of_le _ b hb), exec_answered rfl hany (by rfl),
      fun b hb => exec_answered rfl hany (askLevel_of_lt _ b hb),
      fun b hb => exec_answered rfl hany (askMark_of_lt _ b hb),
      fun c => ⟨exec_answered rfl hany (askDrum_code _ c), exec_answered rfl hany (askConveyance_code _ c)⟩,
      exec_answered rfl hany (by rfl)⟩
  · have hany := State.admits_any h
    exact ⟨fun hb => exec_refused rfl hany (readFaultLog_of_gt _ b hb),
      fun hb => exec_refused rfl hany (askLevel_of_ge _ b hb),
      fun hb => exec_refused rfl hany (askMark_of_ge _ b hb),
      fun h1 h2 => ⟨exec_refused rfl hany (askDrum_of_other _ h1 h2),
        exec_refused rfl hany (askConveyance_of_other _ h1 h2)⟩,
      fun hb hall hs => exec_refused rfl hs (clearWatch_of_other _ hb hall)⟩

/-! #### Acknowledgement -/

section acknowledgement
variable (s : State) (k : FaultKind)

theorem FaultKind.ofCode_code : FaultKind.ofCode k.code = some k := by cases k <;> rfl

theorem FaultKind.code_lt : k.code < 256 := by cases k <;> decide

theorem FaultKind.code_eq : k.code = k.idx + 1 := by cases k <;> rfl

theorem FaultKind.octet_code : octet (le8 k.code) 0 = k.code := natOfBytes_le8 (FaultKind.code_lt k)

theorem FaultKind.filter_eq_self : FaultKind.all.filter (fun x => x = k) = [k] := by cases k <;> decide

theorem FaultKind.exists_idx : ∀ i : Fin 31, ∃ k ∈ FaultKind.all, k.idx = i := by decide

theorem FaultKind.ofCode_of_outside {n : Nat} (h : n = 0 ∨ 31 < n) : FaultKind.ofCode n = none := by
  unfold FaultKind.ofCode
  split <;> first | rfl | omega

theorem State.pendingKinds_eq : s.pendingKinds = FaultKind.all.filter s.isPending := rfl

theorem State.pendingKinds_filter_eq :
    (s.pendingKinds.filter fun x => x = k) = if s.isPending k then [k] else [] := by
  rw [State.pendingKinds_eq, List.filter_comm, FaultKind.filter_eq_self, List.filter_singleton]
  cases s.isPending k <;> rfl

/-- The pending flags of some kinds cleared. -/
def clearFlags (ks : List FaultKind) (v : Vector Bool 31) : Vector Bool 31 :=
  ks.foldl (fun v k => v.setIfInBounds k.idx false) v

theorem State.foldl_setPending (ks : List FaultKind) : ks.foldl (fun s k => s.setPending k false) s =
    s.modFm fun f => { f with pending := clearFlags ks f.pending } := by
  induction ks generalizing s with
  | nil => rfl
  | cons k ks ih => exact ih _

theorem clearFlags_getElem (ks : List FaultKind) (v : Vector Bool 31) (i : Nat) (hi : i < 31) :
    (clearFlags ks v)[i] = (v[i] && !ks.any fun k => k.idx = i) := by
  induction ks generalizing v with
  | nil => simp [clearFlags]
  | cons k ks ih =>
    refine (ih _).trans ?_
    rw [Vector.getElem_setIfInBounds hi, List.any_cons]
    by_cases h : k.idx = i <;> simp [h]

theorem clearFlags_all (v : Vector Bool 31) : clearFlags FaultKind.all v = Vector.replicate 31 false := by
  ext i hi
  obtain ⟨k, hk, hki⟩ := FaultKind.exists_idx ⟨i, hi⟩
  have hany : (FaultKind.all.any fun k => k.idx = i) = true := List.any_eq_true.mpr ⟨k, hk, by simpa using hki⟩
  rw [clearFlags_getElem _ _ _ hi, hany, Vector.getElem_replicate]
  simp

/-- The encoders after ENCODER_DISAGREE is acknowledged (R26). -/
def State.freed (t : State) (rest : Bool) : State := { t with efe := { t.efe with drums :=
  ⟨{ t.efe.drums.a with offset := if rest then none else t.efe.drums.a.offset, disagree := false },
   { t.efe.drums.b with offset := if rest then none else t.efe.drums.b.offset, disagree := false }⟩ } }

theorem State.ackDisagree_eq : s.ackDisagree = s.freed s.atStandstill := by
  unfold State.ackDisagree State.freed
  cases s.atStandstill <;> rfl

theorem State.clearPending_one : s.clearPending (fun x => x = k) =
    if k = .encoderDisagree ∧ s.isPending .encoderDisagree then (s.setPending k false).freed s.atStandstill
    else s.setPending k false := by
  unfold State.clearPending
  rw [FaultKind.filter_eq_self]
  simp only [List.foldl_cons, List.foldl_nil, State.ackDisagree_eq]
  refine if_congr ?_ rfl rfl
  rw [Bool.and_eq_true, decide_eq_true_iff, eq_comm]

theorem State.clearPending_all : s.clearPending (fun _ => true) =
    if s.isPending .encoderDisagree then
      (s.modFm fun f => { f with pending := Vector.replicate 31 false }).freed s.atStandstill
    else s.modFm fun f => { f with pending := Vector.replicate 31 false } := by
  unfold State.clearPending
  have hall : FaultKind.all.filter (fun _ => true) = FaultKind.all := by decide
  rw [hall, State.foldl_setPending]
  simp only [clearFlags_all, State.ackDisagree_eq, Bool.true_and]
  rfl

theorem ackFault_code : ackFault (le8 k.code) s =
    answer .ok (le8 (if s.isPending k then 1 else 0)) (s.clearPending fun x => x = k) := by
  have hpick : ackPick (octet (le8 k.code) 0) = some fun x => decide (x = k) := by
    rw [FaultKind.octet_code, ackPick, if_neg (by have := FaultKind.idx_lt k; rw [FaultKind.code_eq]; omega),
      FaultKind.ofCode_code, Option.map_some]
  have hlen : (s.pendingKinds.filter fun x => x = k).length = if s.isPending k then 1 else 0 := by
    rw [State.pendingKinds_filter_eq]
    cases s.isPending k <;> rfl
  rw [ackFault, hpick]
  dsimp only
  rw [hlen]

theorem ackFault_all : ackFault [0xFF] s =
    answer .ok (le8 s.pendingKinds.length) (s.clearPending fun _ => true) := by
  have hpick : ackPick (octet [0xFF] 0) = some fun _ => true := rfl
  have hfilter : s.pendingKinds.filter (fun _ => true) = s.pendingKinds := List.filter_true _
  rw [ackFault, hpick]
  dsimp only
  rw [hfilter]

theorem ackFault_of_outside {b : Byte} (h : b = 0 ∨ (31 < b.toNat ∧ b ≠ 0xFF)) :
    ackFault [b] s = refuse .badRange s := by
  have hpick : ackPick (octet [b] 0) = none := by
    have hne : b.toNat ≠ 0xFF := by
      rintro heq
      rcases h with rfl | ⟨-, hall⟩
      · exact absurd heq (by decide)
      · exact hall (BitVec.eq_of_toNat_eq heq)
    rw [octet_singleton, ackPick, if_neg hne, FaultKind.ofCode_of_outside, Option.map_none]
    exact h.imp (fun h => by rw [h]; rfl) And.left
  rw [ackFault, hpick]

theorem State.pendingKinds_isEmpty : s.pendingKinds.isEmpty = true ↔ ∀ k, s.isPending k = false := by
  rw [List.isEmpty_iff, List.eq_nil_iff_forall_not_mem]
  simp only [State.mem_pendingKinds, Bool.not_eq_true]
end acknowledgement

/-- Settles O11. -/
theorem acknowledgementAndClearingOfTheLog : Obligations.AcknowledgementAndClearingOfTheLog := by
  unfold Obligations.AcknowledgementAndClearingOfTheLog
  refine ⟨fun e tag s h => ?_, fun e tag s h => ?_⟩
  · have hany := State.admits_any h
    refine ⟨fun k => ?_, ?_, fun b hb => ?_⟩
    · refine exec_answered rfl hany ((ackFault_code _ k).trans ?_)
      rw [State.clearPending_one]
      rw [apply_ite State.hunt]
      exact congrArg _ (if_congr Iff.rfl rfl rfl)
    · refine exec_answered rfl hany ((ackFault_all _).trans ?_)
      rw [State.clearPending_all]
      rw [apply_ite State.hunt]
      exact congrArg _ (if_congr Iff.rfl rfl rfl)
    · exact exec_refused rfl hany (ackFault_of_outside _ hb)
  · have hany := State.admits_any h
    refine ⟨fun hk => ?_, fun ⟨k, hk⟩ => ?_⟩
    · exact exec_answered rfl hany (if_pos ((State.pendingKinds_isEmpty _).mpr hk))
    · refine exec_refused rfl hany (if_neg fun hempty => ?_)
      have hnot := (State.pendingKinds_isEmpty s).mp hempty k
      rw [hk] at hnot
      cases hnot

end Sys2Proof.Machine
end

section
/-! The contents of the replies (R3, R47, R59, R148, R184 to R189, R205, R206, R209): O8 and O9. -/

namespace Sys2Proof.Machine

open Sys2Proof

/-! #### Fields of a reply -/

section fields
variable {p q : List Byte} {i n : Nat}

theorem octet_of_le8 (hn : n < 256) (h : (p.drop i).take 1 = le8 n := by rfl) : octet p i = n := by
  rw [octet, fieldNat, h, natOfBytes_le8 hn]

theorem octet_of_leBool {b : Bool} (h : (p.drop i).take 1 = leBool b := by rfl) : octet p i = b.toNat := by
  rw [octet, fieldNat, h, natOfBytes_leBool]
  cases b <;> rfl

theorem fieldNat_of_le16 (hn : n < 2 ^ 16) (h : (p.drop i).take 2 = le16 n := by rfl) : fieldNat p i 2 = n := by
  rw [fieldNat, h, natOfBytes_le16 hn]

theorem fieldNat_of_leNat32 (hn : n < 2 ^ 32) (h : (p.drop i).take 4 = leNat32 n := by rfl) : fieldNat p i 4 = n := by
  rw [fieldNat, h, natOfBytes_leNat32 hn]

theorem fieldNat_of_leWord {w : Word32} (h : (p.drop i).take 4 = leWord w := by rfl) : fieldNat p i 4 = w.toNat := by
  rw [fieldNat, h, natOfBytes_leWord]

theorem fieldInt_of_leInt {x : Int} (hx : -2 ^ 31 ≤ x ∧ x < 2 ^ 31) (h : (p.drop i).take 4 = leInt x := by rfl) :
    fieldInt p i = x := by
  rw [fieldInt, fieldNat, h, toInt_ofNat_natOfBytes_leInt hx.1 hx.2]

/-- A field of a record that is laid out field after field. -/
theorem take_drop_flatten {segs : List (List Byte)} {seg : List Byte} {w : Nat} (hp : p = segs.flatten) (k : Nat)
    (hk : segs[k]? = some seg) (hi : (segs.take k).flatten.length = i) (hw : seg.length = w) :
    (p.drop i).take w = seg := by
  obtain ⟨hlt, rfl⟩ := List.getElem?_eq_some_iff.mp hk
  have hsplit : segs.flatten = (segs.take k).flatten ++ (segs[k] ++ (segs.drop (k + 1)).flatten) := by
    rw [← List.flatten_cons, ← List.flatten_append, ← List.drop_eq_getElem_cons, List.take_append_drop]
  rw [hp, hsplit, List.drop_left' hi, List.take_left' hw]

theorem fits_of_depthInRange {x : Int} (h : depthInRange x = true) : -2 ^ 31 ≤ x ∧ x < 2 ^ 31 := by
  rw [depthInRange, Bool.and_eq_true, decide_eq_true_eq, decide_eq_true_eq, Config.depthMin, Config.depthMax] at h
  omega

theorem fits_of_mag {x : Int} (h : mag x < 2 ^ 31) : -2 ^ 31 ≤ x ∧ x < 2 ^ 31 := by
  unfold mag at h
  omega
end fields

/-! #### Identity and status -/

theorem identityBytes_fields {l : ControlLink} (hl : l.address < 256) :
    octet (identityBytes l) 34 = l.address ∧ octet (identityBytes l) 35 = l.fast.toNat :=
  ⟨octet_of_le8 hl, octet_of_leBool⟩

section status
variable (s : State)

theorem WinderState.code_lt (w : WinderState) : w.code < 256 := by cases w <;> decide
theorem Certainty.code_lt (c : Certainty) : c.code < 256 := by cases c <;> decide
theorem ClutchState.code_lt (c : ClutchState) : c.code < 256 := by cases c <;> decide
theorem SegmentLabel.code_lt (c : SegmentLabel) : c.code < 256 := by cases c <;> decide

theorem Executive.phaseShown_lt (t : Executive) : t.phaseShown < 256 := by
  unfold Executive.phaseShown
  cases t.phase <;> split <;> decide

theorem Executive.restShown_lt (t : Executive) : t.restShown < 256 := by
  unfold Executive.restShown
  cases t.rest <;> split <;> decide

theorem Executive.reasonShown_lt (t : Executive) : t.reasonShown < 256 := by
  unfold Executive.reasonShown
  cases t.stopReason <;> split <;> decide

theorem Executive.dwellShown_lt (t : Executive) : t.dwellShown < 256 := by
  unfold Executive.dwellShown
  cases t.dwell <;> split <;> decide

theorem Executive.restShown_eq (t : Executive) : t.restShown =
    if t.winder = .winding ∨ t.winder = .stopping then t.rest.code else 0 := by
  unfold Executive.restShown
  cases t.winder <;> rfl

theorem lineWeight_le (b : Bool) (w : Nat) : lineWeight b w ≤ w := by cases b <;> simp [lineWeight]

theorem State.outputs_lt : s.outputs < 2 ^ 16 := by
  have h1 := lineWeight_le s.safety 1
  have h2 := lineWeight_le s.brakeRelease 2
  have h3 := lineWeight_le s.torqueReq 4
  have h4 := lineWeight_le s.bBrakeHold 8
  have h5 := lineWeight_le s.clutchCmd 16
  have h6 := lineWeight_le s.stopReq 32
  have h7 := lineWeight_le s.advise 64
  have h8 := lineWeight_le s.lockoutLamp 128
  have h9 := lineWeight_le s.loadPermit 256
  have h10 := lineWeight_le s.attn 512
  unfold State.outputs
  omega

theorem State.length_pendingKinds_lt : s.pendingKinds.length < 256 :=
  lt_of_le_of_lt (List.length_filter_le _ _) (by decide)

theorem State.unitTime_lt : s.unitTime < 2 ^ 32 := Nat.mod_lt _ (by decide)

theorem firstKind_code_lt (f : Option FirstFault) : (f.map fun f => f.kind.code).getD 0 < 256 := by
  cases f with
  | none => decide
  | some f => exact FaultKind.code_lt f.kind

theorem fits_of_speed {x : Int} (h : mag x ≤ 65535) : -2 ^ 31 ≤ x ∧ x < 2 ^ 31 := fits_of_mag (by omega)

/-- The fields of the status reply in their order (R206, R209), its result code first. -/
def State.statusFields (d : Int) : List (List Byte) :=
  [le8 ResultCode.ok.code, le8 s.te.winder.code, le8 s.te.phaseShown, le8 s.te.restShown, le8 s.te.reasonShown,
   le8 s.te.dwellShown, le8 s.te.unitMode.code, le8 s.cc.state.code, le8 s.rg.label.code,
   le8 (s.conv .a).certainty.code, le8 (s.conv .b).certainty.code, le16 s.activeId,
   leInt (s.conv .a).depth, leInt (s.conv .b).depth, leInt (s.conv .a).speed,
   leInt (s.conv .b).speed, leInt s.rg.refSent, le16 s.es.env, le16 s.es.margin,
   le16 s.es.tier1, le16 s.es.tier2, leInt d, le8 s.pendingKinds.length, le8 s.link.events.length, le16 s.outputs,
   le8 ((s.fm.first.map fun f => f.kind.code).getD 0), leNat32 s.unitTime]

/-- The bytes of the status reply, its result code first. -/
def State.statusReply (d : Int) : List Byte := le8 ResultCode.ok.code ++ statusSummary s d

variable (d : Int)

theorem State.statusReply_eq : s.statusReply d = (s.statusFields d).flatten := by
  unfold State.statusReply statusSummary State.statusFields
  simp only [List.flatten_cons, List.flatten_nil, List.append_assoc, List.append_nil]

theorem State.take_drop_statusReply {seg : List Byte} {i w : Nat} (k : Nat)
    (hk : (s.statusFields d)[k]? = some seg) (hi : ((s.statusFields d).take k).flatten.length = i)
    (hw : seg.length = w) : ((s.statusReply d).drop i).take w = seg :=
  take_drop_flatten (s.statusReply_eq d) k hk hi hw

theorem State.statusReply_states :
    octet (s.statusReply d) 0 = 0 ∧ octet (s.statusReply d) 1 = s.te.winder.code ∧
      octet (s.statusReply d) 2 = s.te.phaseShown ∧ octet (s.statusReply d) 3 = s.te.restShown ∧
      octet (s.statusReply d) 4 = s.te.reasonShown ∧ octet (s.statusReply d) 5 = s.te.dwellShown ∧
      octet (s.statusReply d) 6 = s.te.unitMode.code :=
  ⟨octet_of_le8 (n := ResultCode.ok.code) (by decide) (s.take_drop_statusReply d 0 rfl rfl rfl), octet_of_le8 (WinderState.code_lt _) (s.take_drop_statusReply d 1 rfl rfl rfl), octet_of_le8 (Executive.phaseShown_lt _) (s.take_drop_statusReply d 2 rfl rfl rfl),
    octet_of_le8 (Executive.restShown_lt _) (s.take_drop_statusReply d 3 rfl rfl rfl),
      octet_of_le8 (Executive.reasonShown_lt _) (s.take_drop_statusReply d 4 rfl rfl rfl),
    octet_of_le8 (Executive.dwellShown_lt _) (s.take_drop_statusReply d 5 rfl rfl rfl),
      octet_of_le8 (by cases s.te.unitMode <;> decide) (s.take_drop_statusReply d 6 rfl rfl rfl)⟩

theorem State.statusReply_codes :
    octet (s.statusReply d) 7 = s.cc.state.code ∧ octet (s.statusReply d) 8 = s.rg.label.code ∧
      octet (s.statusReply d) 9 = (s.conv .a).certainty.code ∧
      octet (s.statusReply d) 10 = (s.conv .b).certainty.code :=
  ⟨octet_of_le8 (ClutchState.code_lt _) (s.take_drop_statusReply d 7 rfl rfl rfl),
    octet_of_le8 (SegmentLabel.code_lt _) (s.take_drop_statusReply d 8 rfl rfl rfl),
    octet_of_le8 (Certainty.code_lt _) (s.take_drop_statusReply d 9 rfl rfl rfl),
      octet_of_le8 (Certainty.code_lt _) (s.take_drop_statusReply d 10 rfl rfl rfl)⟩

theorem State.statusReply_motion (hid : s.activeId < 2 ^ 16)
    (hconv : ∀ c, depthInRange (s.conv c).depth = true ∧ mag (s.conv c).speed ≤ 65535)
    (href : mag s.rg.refSent ≤ 65535) :
    fieldNat (s.statusReply d) 11 2 = s.activeId ∧ fieldInt (s.statusReply d) 13 = (s.conv .a).depth ∧
      fieldInt (s.statusReply d) 17 = (s.conv .b).depth ∧ fieldInt (s.statusReply d) 21 = (s.conv .a).speed ∧
      fieldInt (s.statusReply d) 25 = (s.conv .b).speed ∧ fieldInt (s.statusReply d) 29 = s.rg.refSent := by
  obtain ⟨ha, hsa⟩ := hconv .a
  obtain ⟨hb, hsb⟩ := hconv .b
  exact ⟨fieldNat_of_le16 hid (s.take_drop_statusReply d 11 rfl rfl rfl),
    fieldInt_of_leInt (fits_of_depthInRange ha) (s.take_drop_statusReply d 12 rfl rfl rfl),
    fieldInt_of_leInt (fits_of_depthInRange hb) (s.take_drop_statusReply d 13 rfl rfl rfl),
      fieldInt_of_leInt (fits_of_speed hsa) (s.take_drop_statusReply d 14 rfl rfl rfl),
    fieldInt_of_leInt (fits_of_speed hsb) (s.take_drop_statusReply d 15 rfl rfl rfl),
      fieldInt_of_leInt (fits_of_speed href) (s.take_drop_statusReply d 16 rfl rfl rfl)⟩

theorem State.statusReply_envelope (htier2 : s.es.tier2 < 2 ^ 16) (henv : s.es.env ≤ s.es.tier2)
    (hmargin : s.es.margin ≤ s.es.tier2) (htier1 : s.es.tier1 ≤ s.es.tier2) (hd : mag d < 2 ^ 31) :
    fieldNat (s.statusReply d) 33 2 = s.es.env ∧ fieldNat (s.statusReply d) 35 2 = s.es.margin ∧
      fieldNat (s.statusReply d) 37 2 = s.es.tier1 ∧ fieldNat (s.statusReply d) 39 2 = s.es.tier2 ∧
      fieldInt (s.statusReply d) 41 = d :=
  ⟨fieldNat_of_le16 (by omega) (s.take_drop_statusReply d 17 rfl rfl rfl), fieldNat_of_le16 (by omega) (s.take_drop_statusReply d 18 rfl rfl rfl), fieldNat_of_le16 (by omega) (s.take_drop_statusReply d 19 rfl rfl rfl), fieldNat_of_le16 htier2 (s.take_drop_statusReply d 20 rfl rfl rfl),
    fieldInt_of_leInt (fits_of_mag hd) (s.take_drop_statusReply d 21 rfl rfl rfl)⟩

theorem State.statusReply_counts (hevents : s.link.events.length ≤ 32) :
    octet (s.statusReply d) 45 = s.pendingKinds.length ∧ octet (s.statusReply d) 46 = s.link.events.length ∧
      fieldNat (s.statusReply d) 47 2 = s.outputs ∧
      octet (s.statusReply d) 49 = (match s.fm.first with | none => 0 | some f => f.kind.code) ∧
      fieldNat (s.statusReply d) 50 4 = s.unitTime := by
  refine ⟨octet_of_le8 s.length_pendingKinds_lt (s.take_drop_statusReply d 22 rfl rfl rfl), octet_of_le8 (by omega) (s.take_drop_statusReply d 23 rfl rfl rfl), fieldNat_of_le16 s.outputs_lt (s.take_drop_statusReply d 24 rfl rfl rfl), ?_,
    fieldNat_of_leNat32 s.unitTime_lt (s.take_drop_statusReply d 26 rfl rfl rfl)⟩
  refine (octet_of_le8 (firstKind_code_lt s.fm.first) (s.take_drop_statusReply d 25 rfl rfl rfl)).trans ?_
  cases s.fm.first <;> rfl

theorem State.length_statusReply : (s.statusReply d).length = 54 := by
  rw [State.statusReply_eq]
  rfl
end status

theorem length_frameBytes (address : Nat) (tag kind : Byte) (p : List Byte) :
    (frameBytes address tag kind p).length = p.length + 7 := by
  simp [frameBytes, le8, le16]

/-- Settles O8. -/
theorem identityAndStatusFields : Obligations.IdentityAndStatusFields := by
  unfold Obligations.IdentityAndStatusFields
  refine ⟨fun l hl => ⟨rfl, rfl, rfl, rfl, rfl, octet_of_le8 hl, octet_of_leBool, rfl⟩,
    fun e tag s h => exec_answered rfl (State.admits_any h) (askStatus_hunt _ _),
    fun address tag s hid htier2 henv hmargin htier1 hevents hconv href hdist => ?_⟩
  obtain ⟨h0, h1, h2, h3, h4, h5, h6⟩ := s.statusReply_states s.distanceToGo
  obtain ⟨h7, h8, h9, h10⟩ := s.statusReply_codes s.distanceToGo
  obtain ⟨h11, h13, h17, h21, h25, h29⟩ := s.statusReply_motion s.distanceToGo hid hconv href
  obtain ⟨h33, h35, h37, h39, h41⟩ := s.statusReply_envelope s.distanceToGo htier2 henv hmargin htier1 hdist
  obtain ⟨h45, h46, h47, h49, h50⟩ := s.statusReply_counts s.distanceToGo hevents
  have hlen := s.length_statusReply s.distanceToGo
  exact ⟨hlen, h0, h1, h2, h3.trans (Executive.restShown_eq _), h4, h5, h6, h7, h8, h9, h10, h11, h13, h17, h21, h25,
    h29, h33, h35, h37, h39, h41, h45, h46, h47, h49, h50,
    (length_frameBytes ..).trans (congrArg (· + 7) hlen),
    (frameLength_spelled (p := s.statusReply s.distanceToGo) (by omega)).trans (congrArg (· + 2) hlen)⟩

end Sys2Proof.Machine
end

section
/-! The items of the replies that carry records (R3, R47, R59, R148, R184 to R189): O9. -/

namespace Sys2Proof.Machine

open Sys2Proof

section layout
variable {p q : List Byte} {i j w n : Nat}

theorem fieldNat_append_right (h : p.length = n) (i w : Nat) : fieldNat (p ++ q) (n + i) w = fieldNat q i w := by
  rw [fieldNat, fieldNat, ← h, List.drop_length_add_append]

theorem fieldNat_append_left (h : i + w ≤ p.length) : fieldNat (p ++ q) i w = fieldNat p i w := by
  rw [fieldNat, fieldNat, List.drop_append_of_le_length (by omega),
    List.take_append_of_le_length (by rw [List.length_drop]; omega)]

theorem octet_eq_of_fieldNat (h : fieldNat p i 1 = fieldNat q j 1) : octet p i = octet q j := h

theorem fieldInt_eq_of_fieldNat (h : fieldNat p i 4 = fieldNat q j 4) : fieldInt p i = fieldInt q j := by
  rw [fieldInt, h, ← fieldInt]

/-- Records of one length, one after another. -/
theorem length_flatMap_records {α : Type} {f : α → List Byte} (hf : ∀ x, (f x).length = n) (l : List α) :
    (l.flatMap f).length = n * l.length := by
  induction l with
  | nil => rfl
  | cons x l ih => rw [List.flatMap_cons, List.length_append, hf, ih, List.length_cons, Nat.mul_succ, Nat.add_comm]

theorem drop_flatMap_records {α : Type} {f : α → List Byte} (hf : ∀ x, (f x).length = n) (l : List α) (i : Nat) :
    (l.flatMap f).drop (n * i) = (l.drop i).flatMap f := by
  induction l generalizing i with
  | nil => simp
  | cons x l ih =>
    cases i with
    | zero => rfl
    | succ i =>
      rw [List.flatMap_cons, Nat.mul_succ, Nat.add_comm, ← List.drop_drop, List.drop_left' (hf x), ih]
      rfl

theorem take_drop_flatMap_records {α : Type} {f : α → List Byte} (hf : ∀ x, (f x).length = n) (l : List α) (i : Nat)
    (h : i < l.length) : ((l.flatMap f).drop (n * i)).take n = f l[i] := by
  rw [drop_flatMap_records hf, List.drop_eq_getElem_cons h, List.flatMap_cons, List.take_left' (hf _)]

/-- A field of the record at a place. -/
theorem fieldNat_flatMap_records {α : Type} {f : α → List Byte} (hf : ∀ x, (f x).length = n) {l : List α}
    {i : Nat} {x : α} (hx : l[i]? = some x) (hj : j + w ≤ n) :
    fieldNat (l.flatMap f) (n * i + j) w = fieldNat (f x) j w := by
  obtain ⟨h, rfl⟩ := List.getElem?_eq_some_iff.mp hx
  rw [fieldNat, ← List.drop_drop, drop_flatMap_records hf, List.drop_eq_getElem_cons h, List.flatMap_cons,
    ← fieldNat, fieldNat_append_left (by rw [hf]; exact hj)]
end layout

/-! #### ASK_POSITION -/

section position
variable (s : State)

theorem length_convBytes (m : ConvModel) : (convBytes m).length = 30 := rfl

theorem length_drumItemBytes (f : DrumFront) (d : DrumModel) : (drumItemBytes f d).length = 19 := rfl

theorem passageBytes_eq : passageBytes s = (s.ds.desc.marks.toList.zip s.pm.passage.toList).map fun x =>
    byteAt (if x.1.isSome then x.2.code else 0xFF) 0 := by
  rw [passageBytes, List.map_eq_flatMap]
  congr 1
  funext x
  split <;> rfl

theorem length_passageBytes : (passageBytes s).length = 24 := by
  rw [passageBytes_eq, List.length_map, List.length_zip, Vector.length_toList, Vector.length_toList]
  rfl

theorem Passage.code_lt (r : Passage) : r.code < 256 := by cases r <;> decide

theorem octet_passageBytes {i : Nat} (hi : i < 24) : octet (passageBytes s) i =
    if (s.mark i).isSome then (s.passage i).code else 255 := by
  have hmark : s.mark i = s.ds.desc.marks[i] := by
    rw [State.mark, tableGet, Vector.getElem?_eq_getElem hi, Option.join_some]
  have hpassage : s.passage i = s.pm.passage[i] := by
    rw [State.passage, List.getElem?_eq_getElem (by simpa using hi), Option.getD_some, Vector.getElem_toList]
  have hlt : (if (s.mark i).isSome then (s.passage i).code else 255) < 256 := by
    split
    · exact Passage.code_lt _
    · decide
  rw [octet_eq_getD, passageBytes_eq, List.getD_eq_getElem _ _ (by simpa using hi), List.getElem_map,
    List.getElem_zip, Vector.getElem_toList, Vector.getElem_toList, ← hmark, ← hpassage, byteAt_toNat, pow_zero,
    Nat.div_one, Nat.mod_eq_of_lt hlt]

/-- The items of a conveyance. -/
theorem fieldNat_positionBytes_conv (c : Conv) {j w : Nat} (h : j + w ≤ 30) :
    fieldNat (positionBytes s) ((if c = .a then 0 else 30) + j) w = fieldNat (convBytes (s.conv c)) j w := by
  unfold positionBytes
  simp only [List.append_assoc]
  cases c with
  | a => exact (congrArg (fieldNat _ · w) (Nat.zero_add j)).trans (fieldNat_append_left h)
  | b => exact (fieldNat_append_right (length_convBytes _) j w).trans (fieldNat_append_left h)

/-- The items of a drum. -/
theorem fieldNat_positionBytes_drum (c : Conv) {j w : Nat} (h : j + w ≤ 19) :
    fieldNat (positionBytes s) ((if c = .a then 60 else 79) + j) w =
      fieldNat (drumItemBytes (s.front c) (s.drum c)) j w := by
  have h60 : (convBytes (s.conv .a) ++ convBytes (s.conv .b)).length = 60 := rfl
  unfold positionBytes
  cases c with
  | a =>
    rw [List.append_assoc, List.append_assoc]
    exact (fieldNat_append_right h60 j w).trans (fieldNat_append_left h)
  | b =>
    rw [List.append_assoc]
    exact (fieldNat_append_right (n := 79) rfl j w).trans (fieldNat_append_left h)

theorem fieldNat_positionBytes_passage (j w : Nat) :
    fieldNat (positionBytes s) (98 + j) w = fieldNat (passageBytes s) j w := fieldNat_append_right rfl j w

theorem length_positionBytes : (positionBytes s).length = 122 := by
  rw [positionBytes, List.length_append, length_passageBytes]
  rfl

/-- The quantities of a conveyance and of its drum fit the fields of ASK_POSITION. -/
def State.positionFits (c : Conv) : Prop :=
  let fits (x : Int) : Prop := -2 ^ 31 ≤ x ∧ x < 2 ^ 31
  let m := s.conv c
  fits m.depth ∧ fits m.speed ∧ fits m.correction ∧ fits m.datumCount ∧ fits m.datumDepth ∧
    fits m.sDatum ∧ m.degraded < 2 ^ 32 ∧ fits (s.front c).primary.count ∧
    fits (s.front c).check.count ∧ (∀ o, (s.front c).offset = some o → fits o) ∧
    fits ((s.drum c).paidOut.tdiv 1000000)

theorem RunState.code_lt (r : RunState) : r.code < 256 := by cases r <;> decide
theorem LoadClass.code_lt (r : LoadClass) : r.code < 256 := by cases r <;> decide


theorem positionBytes_conv {s : State} {c : Conv} (h : s.positionFits c) :
    let m := s.conv c
    let b := positionBytes s
    let i := if c = .a then 0 else 30
    fieldInt b i = m.depth ∧ fieldInt b (i + 4) = m.speed ∧ octet b (i + 8) = m.certainty.code ∧
      octet b (i + 9) = m.loadClass.code ∧ fieldInt b (i + 10) = m.correction ∧
      fieldInt b (i + 14) = m.datumCount ∧ fieldInt b (i + 18) = m.datumDepth ∧
      fieldInt b (i + 22) = m.sDatum ∧ fieldNat b (i + 26) 4 = m.degraded := by
  obtain ⟨hdepth, hspeed, hcorr, hcount, hdatum, hs, hdeg, -⟩ := h
  have int (j : Nat) (hj : j + 4 ≤ 30) := fieldInt_eq_of_fieldNat (fieldNat_positionBytes_conv s c hj)
  have byte (j : Nat) (hj : j + 1 ≤ 30) := octet_eq_of_fieldNat (fieldNat_positionBytes_conv s c hj)
  exact ⟨(int 0 (by decide)).trans (fieldInt_of_leInt hdepth), (int 4 (by decide)).trans (fieldInt_of_leInt hspeed),
    (byte 8 (by decide)).trans (octet_of_le8 (Certainty.code_lt _)),
    (byte 9 (by decide)).trans (octet_of_le8 (LoadClass.code_lt _)),
    (int 10 (by decide)).trans (fieldInt_of_leInt hcorr), (int 14 (by decide)).trans (fieldInt_of_leInt hcount),
    (int 18 (by decide)).trans (fieldInt_of_leInt hdatum), (int 22 (by decide)).trans (fieldInt_of_leInt hs),
    (fieldNat_positionBytes_conv s c (by decide)).trans (fieldNat_of_leNat32 hdeg)⟩

theorem fits_offsetCode {o : Option Int} (h : ∀ x, o = some x → -2 ^ 31 ≤ x ∧ x < 2 ^ 31) :
    -2 ^ 31 ≤ offsetCode o ∧ offsetCode o < 2 ^ 31 := by
  cases o with
  | none => decide
  | some x => exact h x rfl

theorem positionBytes_drum {s : State} {c : Conv} (h : s.positionFits c) :
    let f := s.front c
    let b := positionBytes s
    let i := if c = .a then 60 else 79
    fieldInt b i = f.primary.count ∧ octet b (i + 4) = f.primary.valid.toNat ∧
      fieldInt b (i + 5) = f.check.count ∧ octet b (i + 9) = f.check.valid.toNat ∧
      fieldInt b (i + 10) = f.offset.getD (-2 ^ 31) ∧ octet b (i + 14) = (s.drum c).run.code ∧
      fieldInt b (i + 15) = (s.drum c).paidOut.tdiv 1000000 := by
  obtain ⟨-, -, -, -, -, -, -, hprimary, hcheck, hoffset, hlength⟩ := h
  have int (j : Nat) (hj : j + 4 ≤ 19) := fieldInt_eq_of_fieldNat (fieldNat_positionBytes_drum s c hj)
  have byte (j : Nat) (hj : j + 1 ≤ 19) := octet_eq_of_fieldNat (fieldNat_positionBytes_drum s c hj)
  exact ⟨(int 0 (by decide)).trans (fieldInt_of_leInt hprimary), (byte 4 (by decide)).trans octet_of_leBool,
    (int 5 (by decide)).trans (fieldInt_of_leInt hcheck), (byte 9 (by decide)).trans octet_of_leBool,
    (int 10 (by decide)).trans (fieldInt_of_leInt (fits_offsetCode hoffset)),
    (byte 14 (by decide)).trans (octet_of_le8 (RunState.code_lt _)),
    (int 15 (by decide)).trans (fieldInt_of_leInt hlength)⟩
end position

/-! #### ASK_QUEUE -/

section queue
variable (r : TripRecord)

theorem Mode.code_lt (m : Mode) : m.code < 256 := by cases m <;> decide
theorem Leg.code_lt (l : Leg) : l.code < 256 := by cases l <;> decide

theorem length_bodyBytes (b : TripBody) : (bodyBytes b).length = 7 := by
  cases b with
  | cage m t d => cases t <;> rfl
  | skip => rfl

theorem length_tripBytes : (tripBytes r).length = 15 := by
  simp only [tripBytes, List.length_append, length_bodyBytes]
  rfl

theorem tripBytes_body {j w : Nat} (h : j + w ≤ 7) :
    fieldNat (tripBytes r) (6 + j) w = fieldNat (bodyBytes r.body) j w := by
  unfold tripBytes
  rw [List.append_assoc]
  exact (fieldNat_append_right (n := 6) rfl j w).trans (fieldNat_append_left (by rw [length_bodyBytes]; exact h))

theorem tripBytes_head (hid : r.id < 2 ^ 16) (hover : r.override.getD 0 < 2 ^ 16) :
    fieldNat (tripBytes r) 0 2 = r.id ∧ octet (tripBytes r) 2 = r.body.typeCode ∧
      octet (tripBytes r) 3 = r.body.mode.code ∧ octet (tripBytes r) 4 = r.active.toNat ∧
      octet (tripBytes r) 5 = r.interrupted.toNat ∧ fieldNat (tripBytes r) 13 2 = r.override.getD 0 := by
  refine ⟨fieldNat_of_le16 hid, octet_of_le8 ?_, octet_of_le8 (Mode.code_lt _), octet_of_leBool, octet_of_leBool, ?_⟩
  · cases r.body <;> simp [TripBody.typeCode]
  · have hlen : (le16 r.id ++ le8 r.body.typeCode ++ le8 r.body.mode.code ++ leBool r.active ++
        leBool r.interrupted ++ bodyBytes r.body).length = 13 := by
      rw [List.length_append, length_bodyBytes]
      rfl
    exact (fieldNat_append_right hlen 0 2).trans (fieldNat_of_le16 hover)

theorem tripBytes_cage {m : Mode} {t : Target} {x : Int} (hb : r.body = .cage m t x)
    (hx : -2 ^ 31 ≤ x ∧ x < 2 ^ 31) : fieldInt (tripBytes r) 9 = x ∧
      (∀ level deck, t = .station level deck → level < 256 → deck < 256 →
        octet (tripBytes r) 6 = 0 ∧ octet (tripBytes r) 7 = level ∧ octet (tripBytes r) 8 = deck) ∧
      ∀ y, t = .depth y → octet (tripBytes r) 6 = 1 ∧ octet (tripBytes r) 7 = 0 ∧ octet (tripBytes r) 8 = 0 := by
  have byte (j : Nat) (hj : j + 1 ≤ 7) := octet_eq_of_fieldNat (tripBytes_body r hj)
  have int := fieldInt_eq_of_fieldNat (tripBytes_body r (j := 3) (w := 4) (by decide))
  rw [hb] at byte int
  refine ⟨int.trans ?_, ?_, ?_⟩
  · cases t <;> exact fieldInt_of_leInt hx
  · rintro level deck rfl hl hd
    exact ⟨(byte 0 (by decide)).trans rfl, (byte 1 (by decide)).trans (octet_of_le8 hl),
      (byte 2 (by decide)).trans (octet_of_le8 hd)⟩
  · rintro y rfl
    exact ⟨(byte 0 (by decide)).trans rfl, (byte 1 (by decide)).trans rfl, (byte 2 (by decide)).trans rfl⟩

theorem tripBytes_skip {pocket tipple count left : Nat} {leg : Leg} (hb : r.body = .skip pocket tipple count left leg)
    (hp : pocket < 256) (ht : tipple < 256) (hc : count < 2 ^ 16) (hl : left < 2 ^ 16) :
    octet (tripBytes r) 6 = leg.code ∧ octet (tripBytes r) 7 = pocket ∧ octet (tripBytes r) 8 = tipple ∧
      fieldNat (tripBytes r) 9 2 = count ∧ fieldNat (tripBytes r) 11 2 = left := by
  have byte (j : Nat) (hj : j + 1 ≤ 7) := octet_eq_of_fieldNat (tripBytes_body r hj)
  have word (j : Nat) (hj : j + 2 ≤ 7) := tripBytes_body r hj
  rw [hb] at byte word
  exact ⟨(byte 0 (by decide)).trans (octet_of_le8 (Leg.code_lt leg)), (byte 1 (by decide)).trans (octet_of_le8 hp),
    (byte 2 (by decide)).trans (octet_of_le8 ht), (word 3 (by decide)).trans (fieldNat_of_le16 hc),
    (word 5 (by decide)).trans (fieldNat_of_le16 hl)⟩
end queue

/-! #### ASK_FAULTS -/

section faults
variable (s : State) (k : FaultKind)

theorem FaultKind.all_getElem : FaultKind.all[k.idx]? = some k := by cases k <;> rfl

theorem length_faultRowBytes : (faultRowBytes s k).length = 5 := rfl

theorem severity_lt (v : Severity) : v.val < 256 := by omega

theorem faultsBytes_row (hcounts : ∀ n ∈ s.fm.counts.toList, n ≤ 255) :
    let b := faultsBytes s
    let i := 4 + 5 * (k.code - 1)
    octet b i = (s.severity k).val ∧ octet b (i + 1) = (floorOf k).val ∧
      octet b (i + 2) = ((defaultSeverities.toList[k.code - 1]?).getD 0).val ∧
      octet b (i + 3) = (s.isPending k).toNat ∧
      octet b (i + 4) = (s.fm.counts.toList[k.code - 1]?).getD 0 := by
  have row (j : Nat) (hj : j + 1 ≤ 5) :
      octet (faultsBytes s) (4 + 5 * (k.code - 1) + j) = octet (faultRowBytes s k) j := by
    rw [Nat.add_assoc]
    exact (fieldNat_append_right (n := 4) rfl _ 1).trans
      (fieldNat_flatMap_records (length_faultRowBytes s) (FaultKind.all_getElem k) hj)
  have hcount : (s.fm.counts.toList[k.idx]?).getD 0 < 256 := by
    cases hk : s.fm.counts.toList[k.idx]? with
    | none => decide
    | some n => exact Nat.lt_succ_of_le (hcounts n (List.mem_of_getElem? hk))
  exact ⟨(row 0 (by decide)).trans (octet_of_le8 (severity_lt _)),
    (row 1 (by decide)).trans (octet_of_le8 (severity_lt _)),
    (row 2 (by decide)).trans (octet_of_le8 (severity_lt _)), (row 3 (by decide)).trans octet_of_leBool,
    (row 4 (by decide)).trans (octet_of_le8 hcount)⟩

theorem faultsBytes_head : (faultsBytes s).length = 159 ∧ octet (faultsBytes s) 0 = s.pendingKinds.length ∧
    octet (faultsBytes s) 1 = (match s.fm.inForce with | none => 255 | some v => v.val) ∧
    octet (faultsBytes s) 2 = s.stopReq.toNat ∧ octet (faultsBytes s) 3 = s.advise.toNat := by
  refine ⟨?_, octet_of_le8 s.length_pendingKinds_lt, ?_, octet_of_leBool, octet_of_leBool⟩
  · rw [faultsBytes, List.length_append, length_flatMap_records (length_faultRowBytes s)]
    rfl
  · have hlt : inForceCode s.fm.inForce < 256 := by
      cases s.fm.inForce with
      | none => decide
      | some v => exact severity_lt v
    refine (octet_of_le8 hlt).trans ?_
    cases s.fm.inForce <;> rfl
end faults

/-! #### ASK_WATCH -/

section watch
variable (id : Nat) (w : WatchEntry)

theorem length_watchBytes : (watchBytes id w).length = 12 := rfl

theorem toInt_natOfBytes_leInt24 {x : Int} (h : depthInRange x = true) :
    (BitVec.ofNat 24 (natOfBytes (leInt24 x))).toInt = x := by
  rw [depthInRange, Bool.and_eq_true, decide_eq_true_eq, decide_eq_true_eq, Config.depthMin, Config.depthMax] at h
  have hn : natOfBytes (leInt24 x) = (BitVec.ofInt 24 x).toNat := by
    have hlt := (BitVec.ofInt 24 x).isLt
    simp only [leInt24, le24, natOfBytes, byteAt_toNat]
    omega
  rw [hn, BitVec.ofNat_toNat, BitVec.setWidth_eq, BitVec.toInt_ofInt]
  exact Int.bmod_eq_of_le (by omega) (by omega)

theorem signed_of_leInt24 {p : List Byte} {i : Nat} {x : Int} (h : depthInRange x = true)
    (hp : (p.drop i).take 3 = leInt24 x := by rfl) : (BitVec.ofNat 24 (fieldNat p i 3)).toInt = x := by
  rw [fieldNat, hp, toInt_natOfBytes_leInt24 h]

theorem lineWeight_decide (c : Prop) [Decidable c] (n : Nat) : lineWeight c n = if c then n else 0 := by
  by_cases h : c <;> simp [lineWeight, h]

theorem watchBytes_flags (hid : id < 16) : octet (watchBytes id w) 0 =
    id + (if w.conv = .b then 16 else 0) + (if w.binding = .tagged then 32 else 0) +
      (if w.persistence = .always then 64 else 0) := by
  have h16 := lineWeight_le (w.conv = .b) 16
  have h32 := lineWeight_le (w.binding = .tagged) 32
  have h64 := lineWeight_le (w.persistence = .always) 64
  have hlt : id + lineWeight (w.conv = .b) 16 + lineWeight (w.binding = .tagged) 32 +
      lineWeight (w.persistence = .always) 64 < 256 := by omega
  refine (octet_of_le8 hlt).trans ?_
  rw [lineWeight_decide, lineWeight_decide, lineWeight_decide]

theorem watchBytes_codes : octet (watchBytes id w) 1 =
    (match w.facing with | .down => 1 | .up => 2 | .either => 3) +
      4 * (match w.action with | .notify => 1 | .slow _ => 2 | .stop => 3) +
      16 * (match w.bound with
        | none => 0 | some (.notify, _) => 1 | some (.slow, _) => 2 | some (.stop, _) => 3) := by
  have hfacing : w.facing.code = (match w.facing with | .down => 1 | .up => 2 | .either => 3) ∧ w.facing.code ≤ 3 := by
    cases w.facing <;> exact ⟨rfl, by decide⟩
  have haction : w.action.code = (match w.action with | .notify => 1 | .slow _ => 2 | .stop => 3) ∧
      w.action.code ≤ 3 := by
    cases w.action <;> exact ⟨rfl, by simp [WatchAction.code]⟩
  have hbound : bindCode w.bound = (match w.bound with
      | none => 0 | some (.notify, _) => 1 | some (.slow, _) => 2 | some (.stop, _) => 3) ∧ bindCode w.bound ≤ 3 := by
    rcases w.bound with _ | ⟨k, x⟩
    · exact ⟨rfl, by decide⟩
    · cases k <;> exact ⟨rfl, by simp [bindCode, BindKind.code]⟩
  rw [← hfacing.1, ← haction.1, ← hbound.1]
  obtain ⟨-, hf⟩ := hfacing
  obtain ⟨-, ha⟩ := haction
  obtain ⟨-, hb⟩ := hbound
  exact octet_of_le8 (by omega)

theorem watchBytes_values (htrip : w.trip.getD 0 < 2 ^ 16) (hdepth : depthInRange w.depth = true)
    (hcap : ∀ c, w.action = .slow c → c < 2 ^ 16)
    (hbound : ∀ k x, w.bound = some (k, x) → depthInRange x = true) :
    (BitVec.ofNat 24 (fieldNat (watchBytes id w) 2 3)).toInt = w.depth ∧
      fieldNat (watchBytes id w) 5 2 = (match w.action with | .slow c => c | .notify | .stop => 0) ∧
      fieldNat (watchBytes id w) 7 2 = w.trip.getD 0 ∧
      (BitVec.ofNat 24 (fieldNat (watchBytes id w) 9 3)).toInt =
        (match w.bound with | none => 0 | some (_, x) => x) := by
  refine ⟨signed_of_leInt24 hdepth, ?_, fieldNat_of_le16 htrip, ?_⟩
  · have hlt : w.action.cap < 2 ^ 16 := by
      cases ha : w.action with
      | slow c => exact hcap c ha
      | notify => decide
      | stop => decide
    refine (fieldNat_of_le16 hlt).trans ?_
    cases w.action <;> rfl
  · have hin : depthInRange ((w.bound.map Prod.snd).getD 0) = true := by
      rcases hb : w.bound with _ | ⟨k, x⟩
      · decide
      · exact hbound k x hb
    refine (signed_of_leInt24 hin).trans ?_
    rcases w.bound with _ | ⟨k, x⟩ <;> rfl
end watch

/-! #### READ_FAULT_LOG -/

section log
variable {f : FaultManager}

/-- A Later-Fault record at an offset. -/
def laterAt (b : List Byte) (i : Nat) (r : LaterFault) : Prop :=
  octet b i = r.kind.code ∧ octet b (i + 1) = r.severity.val ∧ fieldNat b (i + 2) 4 = r.time ∧
    fieldInt b (i + 6) = r.depth ∧ fieldNat b (i + 10) 2 = r.trip.getD 0

theorem length_laterFaultBytes (r : LaterFault) : (laterFaultBytes r).length = 12 := rfl

/-- The Later-Fault List holds at most 15 records, whose quantities fit their fields. -/
def FaultManager.laterFits (f : FaultManager) : Prop := f.later.length ≤ 15 ∧
  ∀ r ∈ f.later, r.time < 2 ^ 32 ∧ (-2 ^ 31 ≤ r.depth ∧ r.depth < 2 ^ 31) ∧ r.trip.getD 0 < 2 ^ 16

theorem laterAt_of_fits {r : LaterFault}
    (h : r.time < 2 ^ 32 ∧ (-2 ^ 31 ≤ r.depth ∧ r.depth < 2 ^ 31) ∧ r.trip.getD 0 < 2 ^ 16) :
    laterAt (laterFaultBytes r) 0 r := by
  obtain ⟨htime, hdepth, htrip⟩ := h
  exact ⟨octet_of_le8 (FaultKind.code_lt _), octet_of_le8 (severity_lt _), fieldNat_of_leNat32 htime,
    fieldInt_of_leInt hdepth, fieldNat_of_le16 htrip⟩

/-- The later records of a reply, behind a head of `n` bytes. -/
theorem laterAt_append {head : List Byte} {n : Nat} (hn : head.length = n) {rs : List LaterFault} {i : Nat}
    {r : LaterFault} (hr : rs[i]? = some r)
    (hfits : r.time < 2 ^ 32 ∧ (-2 ^ 31 ≤ r.depth ∧ r.depth < 2 ^ 31) ∧ r.trip.getD 0 < 2 ^ 16) :
    laterAt (head ++ rs.flatMap laterFaultBytes) (n + 12 * i) r := by
  have field (j w : Nat) (hj : j + w ≤ 12) : fieldNat (head ++ rs.flatMap laterFaultBytes) (n + 12 * i + j) w =
      fieldNat (laterFaultBytes r) j w := by
    rw [Nat.add_assoc]
    exact (fieldNat_append_right hn _ w).trans (fieldNat_flatMap_records length_laterFaultBytes hr hj)
  obtain ⟨hkind, hseverity, htime, hdepth, htrip⟩ := laterAt_of_fits hfits
  exact ⟨(octet_eq_of_fieldNat (field 0 1 (by decide))).trans hkind,
    (octet_eq_of_fieldNat (field 1 1 (by decide))).trans hseverity, (field 2 4 (by decide)).trans htime,
    (fieldInt_eq_of_fieldNat (field 6 4 (by decide))).trans hdepth, (field 10 2 (by decide)).trans htrip⟩

theorem octet_logBytes_length (h : f.laterFits) (n : Nat) : octet (logBytes f n) 0 = f.later.length := by
  obtain ⟨hlen, -⟩ := h
  refine (octet_eq_of_fieldNat (fieldNat_append_left (by exact le_rfl))).trans (octet_of_le8 (by omega))

theorem getElem?_take_drop {α : Type} {l : List α} {m i : Nat} (h : m + i < l.length) (hi : i < 8) :
    ((l.drop m).take 8)[i]? = some l[m + i] := by
  rw [List.getElem?_take_of_lt hi, List.getElem?_drop, List.getElem?_eq_getElem h]

theorem logBytes_from (h : f.laterFits) {n : Nat} (hn : 1 ≤ n) :
    (logBytes f n).length = 1 + 12 * min 8 (f.later.length - (n - 1)) ∧
      ∀ i (h : n - 1 + i < f.later.length), i < 8 → laterAt (logBytes f n) (1 + 12 * i) f.later[n - 1 + i] := by
  have heq : logBytes f n = le8 f.later.length ++ ((f.later.drop (n - 1)).take 8).flatMap laterFaultBytes := by
    rw [logBytes, if_neg (by omega)]
  rw [heq]
  refine ⟨?_, fun i hi hi8 => ?_⟩
  · rw [List.length_append, length_flatMap_records length_laterFaultBytes, List.length_take, List.length_drop]
    rfl
  · exact laterAt_append rfl (getElem?_take_drop hi hi8) (h.2 _ (List.getElem_mem hi))

theorem logBytes_zero (h : f.laterFits) {n : Nat} (hn : (firstFaultBytes f.first).length = n) :
    (logBytes f 0).length = 1 + n + 12 * min 8 f.later.length ∧
      (∀ i (h : i < f.later.length), i < 8 → laterAt (logBytes f 0) (1 + n + 12 * i) f.later[i]) ∧
      ∀ j w, j + w ≤ n → fieldNat (logBytes f 0) (1 + j) w = fieldNat (firstFaultBytes f.first) j w := by
  have heq : logBytes f 0 = (le8 f.later.length ++ firstFaultBytes f.first) ++
      (f.later.take 8).flatMap laterFaultBytes := by
    rw [logBytes, if_pos rfl, List.append_assoc]
  have hhead : (le8 f.later.length ++ firstFaultBytes f.first).length = 1 + n := by
    rw [List.length_append, hn]
    rfl
  rw [heq]
  refine ⟨?_, fun i hi hi8 => ?_, fun j w hj => ?_⟩
  · rw [List.length_append, hhead, length_flatMap_records length_laterFaultBytes, List.length_take]
  · refine laterAt_append hhead ?_ (h.2 _ (List.getElem_mem hi))
    rw [List.getElem?_take_of_lt hi8, List.getElem?_eq_getElem hi]
  · exact (fieldNat_append_left (by omega)).trans (fieldNat_append_right rfl j w)

/-- The fields of the First-Fault Record in a reply (R184). -/
def firstFaultFields (x : FirstFault) : List (List Byte) :=
  [le8 x.kind.code, le8 x.severity, leNat32 x.time, le8 x.winder.code, le16 (x.trip.getD 0), le8 x.label.code,
   leInt x.depth.a, leInt x.depth.b, leInt x.speed.a, leInt x.speed.b, leInt x.ref, le16 x.env,
   le8 x.certainty.a.code, le8 x.certainty.b.code, le8 x.clutch.code, leWord x.v1, leWord x.v2, leWord x.v3,
   leWord x.v4]

theorem firstFaultBytes_some (x : FirstFault) : firstFaultBytes (some x) = (firstFaultFields x).flatten := by
  unfold firstFaultBytes firstFaultFields
  simp only [List.flatten_cons, List.flatten_nil, List.append_assoc, List.append_nil]

theorem take_drop_firstFaultBytes {x : FirstFault} {seg : List Byte} {i w : Nat} (k : Nat)
    (hk : (firstFaultFields x)[k]? = some seg) (hi : ((firstFaultFields x).take k).flatten.length = i)
    (hw : seg.length = w) : ((firstFaultBytes (some x)).drop i).take w = seg :=
  take_drop_flatten (firstFaultBytes_some x) k hk hi hw

theorem length_firstFaultBytes_some (x : FirstFault) : (firstFaultBytes (some x)).length = 51 := by
  rw [firstFaultBytes_some]
  rfl

/-- The quantities of the First-Fault Record fit their fields. -/
def firstFaultFits (x : FirstFault) : Prop :=
  x.time < 2 ^ 32 ∧ x.trip.getD 0 < 2 ^ 16 ∧ x.env < 2 ^ 16 ∧ (-2 ^ 31 ≤ x.ref ∧ x.ref < 2 ^ 31) ∧
    ∀ c, (-2 ^ 31 ≤ x.depth.get c ∧ x.depth.get c < 2 ^ 31) ∧ (-2 ^ 31 ≤ x.speed.get c ∧ x.speed.get c < 2 ^ 31)

theorem firstFaultBytes_states {x : FirstFault} (h : firstFaultFits x) :
    let b := firstFaultBytes (some x)
    octet b 0 = x.kind.code ∧ octet b 1 = x.severity.val ∧ fieldNat b 2 4 = x.time ∧
      octet b 6 = x.winder.code ∧ fieldNat b 7 2 = x.trip.getD 0 ∧ octet b 9 = x.label.code := by
  obtain ⟨htime, htrip, -⟩ := h
  exact ⟨octet_of_le8 (FaultKind.code_lt _) (take_drop_firstFaultBytes 0 rfl rfl rfl),
    octet_of_le8 (severity_lt _) (take_drop_firstFaultBytes 1 rfl rfl rfl),
    fieldNat_of_leNat32 htime (take_drop_firstFaultBytes 2 rfl rfl rfl),
    octet_of_le8 (WinderState.code_lt _) (take_drop_firstFaultBytes 3 rfl rfl rfl),
    fieldNat_of_le16 htrip (take_drop_firstFaultBytes 4 rfl rfl rfl),
    octet_of_le8 (SegmentLabel.code_lt _) (take_drop_firstFaultBytes 5 rfl rfl rfl)⟩

theorem firstFaultBytes_motion {x : FirstFault} (h : firstFaultFits x) :
    let b := firstFaultBytes (some x)
    fieldInt b 10 = x.depth.a ∧ fieldInt b 14 = x.depth.b ∧ fieldInt b 18 = x.speed.a ∧
      fieldInt b 22 = x.speed.b ∧ fieldInt b 26 = x.ref ∧ fieldNat b 30 2 = x.env := by
  obtain ⟨-, -, henv, href, hconv⟩ := h
  obtain ⟨hda, hsa⟩ := hconv .a
  obtain ⟨hdb, hsb⟩ := hconv .b
  exact ⟨fieldInt_of_leInt hda (take_drop_firstFaultBytes 6 rfl rfl rfl),
    fieldInt_of_leInt hdb (take_drop_firstFaultBytes 7 rfl rfl rfl),
    fieldInt_of_leInt hsa (take_drop_firstFaultBytes 8 rfl rfl rfl),
    fieldInt_of_leInt hsb (take_drop_firstFaultBytes 9 rfl rfl rfl),
    fieldInt_of_leInt href (take_drop_firstFaultBytes 10 rfl rfl rfl),
    fieldNat_of_le16 henv (take_drop_firstFaultBytes 11 rfl rfl rfl)⟩

theorem firstFaultBytes_values (x : FirstFault) :
    let b := firstFaultBytes (some x)
    octet b 32 = x.certainty.a.code ∧ octet b 33 = x.certainty.b.code ∧ octet b 34 = x.clutch.code ∧
      fieldNat b 35 4 = x.v1.toNat ∧ fieldNat b 39 4 = x.v2.toNat ∧ fieldNat b 43 4 = x.v3.toNat ∧
      fieldNat b 47 4 = x.v4.toNat :=
  ⟨octet_of_le8 (Certainty.code_lt _) (take_drop_firstFaultBytes 12 rfl rfl rfl),
    octet_of_le8 (Certainty.code_lt _) (take_drop_firstFaultBytes 13 rfl rfl rfl),
    octet_of_le8 (ClutchState.code_lt _) (take_drop_firstFaultBytes 14 rfl rfl rfl),
    fieldNat_of_leWord (take_drop_firstFaultBytes 15 rfl rfl rfl),
    fieldNat_of_leWord (take_drop_firstFaultBytes 16 rfl rfl rfl),
    fieldNat_of_leWord (take_drop_firstFaultBytes 17 rfl rfl rfl),
    fieldNat_of_leWord (take_drop_firstFaultBytes 18 rfl rfl rfl)⟩

/-- The First-Fault Record in the reply, behind the number of later records. -/
theorem logBytes_first (hf : f.laterFits) {x : FirstFault} (hx : f.first = some x) (h : firstFaultFits x) :
    let b := logBytes f 0
    octet b 1 = x.kind.code ∧ octet b 2 = x.severity.val ∧ fieldNat b 3 4 = x.time ∧
      octet b 7 = x.winder.code ∧ fieldNat b 8 2 = x.trip.getD 0 ∧ octet b 10 = x.label.code ∧
      fieldInt b 11 = x.depth.a ∧ fieldInt b 15 = x.depth.b ∧ fieldInt b 19 = x.speed.a ∧
      fieldInt b 23 = x.speed.b ∧ fieldInt b 27 = x.ref ∧ fieldNat b 31 2 = x.env ∧
      octet b 33 = x.certainty.a.code ∧ octet b 34 = x.certainty.b.code ∧ octet b 35 = x.clutch.code ∧
      fieldNat b 36 4 = x.v1.toNat ∧ fieldNat b 40 4 = x.v2.toNat ∧ fieldNat b 44 4 = x.v3.toNat ∧
      fieldNat b 48 4 = x.v4.toNat := by
  have hlen : (firstFaultBytes f.first).length = 51 := by rw [hx, length_firstFaultBytes_some]
  obtain ⟨-, -, field⟩ := logBytes_zero hf hlen
  rw [hx] at field
  have byte (j : Nat) (hj : j + 1 ≤ 51) := octet_eq_of_fieldNat (field j 1 hj)
  have int (j : Nat) (hj : j + 4 ≤ 51) := fieldInt_eq_of_fieldNat (field j 4 hj)
  obtain ⟨h0, h1, h2, h6, h7, h9⟩ := firstFaultBytes_states h
  obtain ⟨h10, h14, h18, h22, h26, h30⟩ := firstFaultBytes_motion h
  obtain ⟨h32, h33, h34, h35, h39, h43, h47⟩ := firstFaultBytes_values x
  exact ⟨(byte 0 (by decide)).trans h0, (byte 1 (by decide)).trans h1, (field 2 4 (by decide)).trans h2,
    (byte 6 (by decide)).trans h6, (field 7 2 (by decide)).trans h7, (byte 9 (by decide)).trans h9,
    (int 10 (by decide)).trans h10, (int 14 (by decide)).trans h14, (int 18 (by decide)).trans h18,
    (int 22 (by decide)).trans h22, (int 26 (by decide)).trans h26, (field 30 2 (by decide)).trans h30,
    (byte 32 (by decide)).trans h32, (byte 33 (by decide)).trans h33, (byte 34 (by decide)).trans h34,
    (field 35 4 (by decide)).trans h35, (field 39 4 (by decide)).trans h39, (field 43 4 (by decide)).trans h43,
    (field 47 4 (by decide)).trans h47⟩
end log

/-- Settles O9. -/
theorem repliesCarryWhatTheyShow : Obligations.RepliesCarryWhatTheyShow := by
  unfold Obligations.RepliesCarryWhatTheyShow
  refine ⟨fun s h => ?position,
    fun r hid hover => ?trip, fun rs i h => take_drop_flatMap_records length_tripBytes rs i h,
    fun s hcounts => ?faults, fun id w hid htrip hdepth hcap hbound => ?watch,
    fun ws i h => take_drop_flatMap_records (f := fun x : Nat × WatchEntry => watchBytes x.1 x.2)
      (fun x => length_watchBytes x.1 x.2) ws i h, fun d => ?status,
    fun f hlen hlater => ?log⟩
  case position =>
    have hfits (c : Conv) : s.positionFits c := h c
    exact ⟨length_positionBytes s, fun c => positionBytes_conv (hfits c), fun c => positionBytes_drum (hfits c),
      fun i hi => (octet_eq_of_fieldNat (fieldNat_positionBytes_passage s i 1)).trans (octet_passageBytes s hi)⟩
  case trip =>
    obtain ⟨h0, h2, h3, h4, h5, h13⟩ := tripBytes_head r hid hover
    refine ⟨length_tripBytes r, h0, h4, h5, h13, fun m x target hb hx => ?_,
      fun pocket tipple count left leg hb hp ht hc hl => ?_⟩
    · rw [hb] at h2 h3
      exact ⟨h2, h3, tripBytes_cage r hb hx⟩
    · rw [hb] at h2 h3
      exact ⟨h2, h3, tripBytes_skip r hb hp ht hc hl⟩
  case faults =>
    obtain ⟨hl, h0, h1, h2, h3⟩ := faultsBytes_head s
    exact ⟨hl, h0, h1, h2, h3, fun k => faultsBytes_row s k hcounts⟩
  case watch =>
    exact ⟨rfl, watchBytes_flags id w hid, watchBytes_codes id w, watchBytes_values id w htrip hdepth hcap hbound⟩
  case status =>
    unfold statusBytes
    cases d.storeState <;> cases d.lastWrite <;> rfl
  case log =>
    have h : f.laterFits := ⟨hlen, hlater⟩
    refine ⟨fun n => octet_logBytes_length h n, fun n hn _ => logBytes_from h hn, fun hnone => ?_,
      fun x hx htime htrip henv href hconv => ?_⟩
    · have hl : (firstFaultBytes f.first).length = 1 := by rw [hnone]; rfl
      obtain ⟨hlength, hlaters, field⟩ := logBytes_zero h hl
      refine ⟨(octet_eq_of_fieldNat (field 0 1 le_rfl)).trans ?_, hlength, hlaters⟩
      rw [hnone]
      rfl
    · have hl : (firstFaultBytes f.first).length = 51 := by rw [hx, length_firstFaultBytes_some]
      obtain ⟨hlength, hlaters, -⟩ := logBytes_zero h hl
      exact ⟨hlength, hlaters, logBytes_first h hx ⟨htime, htrip, henv, href, hconv⟩⟩

end Sys2Proof.Machine
end

section
/-! The records of the description and the watch entries, read back from the bytes that lay them out (R6 to R15,
R146): O12. -/

namespace Sys2Proof.Machine

open Sys2Proof

/-! #### Codes read back -/

section codes

theorem LevelKind.ofCode_code (k : LevelKind) : LevelKind.ofCode k.code = some k := by cases k <;> rfl
theorem ConvKind.ofCode_code (k : ConvKind) : ConvKind.ofCode k.code = some k := by cases k <;> rfl
theorem Facing.ofCode_code (k : Facing) : Facing.ofCode k.code = some k := by cases k <;> rfl
theorem WatchBinding.ofCode_code (k : WatchBinding) : WatchBinding.ofCode k.code = some k := by cases k <;> rfl
theorem Persistence.ofCode_code (k : Persistence) : Persistence.ofCode k.code = some k := by cases k <;> rfl
theorem boolOf_toNat (b : Bool) : boolOf b.toNat = some b := by cases b <;> rfl

theorem ModeSet.ofCode_code (m : ModeSet) : ModeSet.ofCode m.code = some m := by
  obtain ⟨man, material, rock, inspection⟩ := m
  cases man <;> cases material <;> cases rock <;> cases inspection <;> rfl

theorem ModeSet.code_lt (m : ModeSet) : m.code < 256 := by
  unfold ModeSet.code
  (repeat' split) <;> decide

theorem gateOf_gateCode (g : Option (Fin 16)) : gateOf (gateCode g) = some g := by
  cases g with
  | none => rfl
  | some g =>
    have hne : g.val ≠ 0xFF := by omega
    exact (if_neg hne).trans (dif_pos g.isLt)

theorem gateCode_lt (g : Option (Fin 16)) : gateCode g < 256 := by
  cases g with
  | none => decide
  | some g => exact lt_trans g.isLt (by decide)

theorem Conv.code_lt (c : Conv) : c.code < 256 := by cases c <;> decide
theorem LevelKind.code_lt (k : LevelKind) : k.code < 256 := by cases k <;> decide
theorem ConvKind.code_lt (k : ConvKind) : k.code < 256 := by cases k <;> decide
theorem Facing.code_lt (k : Facing) : k.code < 256 := by cases k <;> decide
theorem WatchBinding.code_lt (k : WatchBinding) : k.code < 256 := by cases k <;> decide
theorem Persistence.code_lt (k : Persistence) : k.code < 256 := by cases k <;> decide
theorem WatchAction.code_lt (k : WatchAction) : k.code < 256 := by cases k <;> simp [WatchAction.code]

theorem depthOf_of_leInt {p : List Byte} {i : Nat} {x : Int} (h : depthInRange x = true)
    (hp : (p.drop i).take 4 = leInt x := by rfl) : depthOf p i = some x := by
  rw [depthOf, fieldInt_of_leInt (fits_of_depthInRange h) hp, if_pos h]
end codes

/-! #### The Level and Mark records -/

section levels
variable {i : Nat}

theorem octet_levelBytes_index (hi : i < 256) (o : Option Level) : octet (levelBytes i o) 0 = i := by
  cases o <;> exact octet_of_le8 hi

theorem octet_markBytes_index (hi : i < 256) (o : Option Mark) : octet (markBytes i o) 0 = i := by
  cases o <;> exact octet_of_le8 hi

theorem length_levelBytes (l : Level) : (levelBytes i (some l)).length = 11 + l.label.length := by
  rw [levelBytes, List.length_append]
  rfl

theorem octet_levelBytes_kind (l : Level) : octet (levelBytes i (some l)) 1 = l.kind.code :=
  octet_of_le8 (LevelKind.code_lt _)

theorem formPutLevel_levelBytes {l : Level} (hl : LevelInRange l) : formPutLevel (levelBytes i (some l)) = true := by
  obtain ⟨-, hlabel, -⟩ := hl
  have hkind : l.kind.code ≠ 0 := by cases l.kind <;> decide
  have hlen : octet (levelBytes i (some l)) 10 = l.label.length := octet_of_le8 (by omega)
  rw [formPutLevel, octet_levelBytes_kind, if_neg hkind, hlen, length_levelBytes]
  simp

theorem labelOf_levelBytes {l : Level} (hl : LevelInRange l) : labelOf (levelBytes i (some l)) = some l.label := by
  obtain ⟨-, hlabel, hchars⟩ := hl
  have hdrop : (levelBytes i (some l)).drop 11 = l.label := rfl
  rw [labelOf, hdrop]
  refine if_pos ⟨hlabel, List.all_eq_true.mpr fun b hb => within_iff.mpr (hchars b hb)⟩

theorem levelOf_levelBytes {l : Level} (hl : LevelInRange l) : levelOf (levelBytes i (some l)) = some l := by
  have hserves : octet (levelBytes i (some l)) 2 = l.serves.code := octet_of_le8 (Conv.code_lt _)
  have hmodes : octet (levelBytes i (some l)) 7 = l.modes.code := octet_of_le8 (ModeSet.code_lt _)
  have hservice : octet (levelBytes i (some l)) 8 = l.inService.toNat := octet_of_leBool
  have hgate : octet (levelBytes i (some l)) 9 = gateCode l.gate := octet_of_le8 (gateCode_lt _)
  have hdepth : depthOf (levelBytes i (some l)) 3 = some l.depth := depthOf_of_leInt hl.1
  simp only [levelOf, octet_levelBytes_kind, hserves, hmodes, hservice, hgate, hdepth, labelOf_levelBytes hl,
    LevelKind.ofCode_code, Conv.ofCode_code, ModeSet.ofCode_code, boolOf_toNat, gateOf_gateCode, Option.bind_eq_bind,
    Option.bind_some]

theorem formPutMark_markBytes (m : Mark) : formPutMark (markBytes i (some m)) = true := rfl

theorem markOf_markBytes {m : Mark} (hm : depthInRange m.depth = true) : markOf (markBytes i (some m)) = some m := by
  have hconv : octet (markBytes i (some m)) 1 = m.conv.code := octet_of_le8 (Conv.code_lt _)
  have hfacing : octet (markBytes i (some m)) 6 = m.facing.code := octet_of_le8 (Facing.code_lt _)
  have hline : octet (markBytes i (some m)) 7 = m.line.val := octet_of_le8 (lt_trans m.line.isLt (by decide))
  have hdepth : depthOf (markBytes i (some m)) 2 = some m.depth := depthOf_of_leInt hm
  simp only [markOf, hconv, hfacing, hline, hdepth, Conv.ofCode_code, Facing.ofCode_code, Option.bind_eq_bind,
    Option.bind_some, m.line.isLt, dif_pos]
end levels

/-! #### The Drum record -/

section drums
variable {c : Conv} {d : Drum}

/-- A layer as PUT_DRUM lays it out. -/
def layerBytes (l : Layer) : List Byte := leInt l.start ++ leNat32 l.pitch

theorem length_layerBytes (l : Layer) : (layerBytes l).length = 8 := rfl

theorem drumBytes_eq (c : Conv) (d : Drum) : drumBytes c d =
    (le8 c.code ++ [senseByte d.sense] ++ le16 d.tolerance ++ le8 d.layers.length) ++
      d.layers.flatMap layerBytes := rfl

theorem ascending_head_le {l : Layer} {rest : List Layer} (h : ascending (l :: rest) = true) :
    ∀ k ∈ l :: rest, l.start ≤ k.start := by
  rw [ascending_iff_pairwise, List.map_cons, List.pairwise_cons] at h
  obtain ⟨hfirst, -⟩ := h
  intro k hk
  rcases List.mem_cons.mp hk with rfl | hk
  · exact le_rfl
  · exact (hfirst _ (List.mem_map_of_mem hk)).le

/-- The layers of a well-formed table: 1 to 4, from start count 0 upwards, with pitches in range (R9). -/
theorem layersWellFormed_bounds {ls : List Layer} (h : layersWellFormed ls = true) :
    ls.length ≤ 4 ∧ ∀ l ∈ ls, 0 ≤ l.start ∧ 1000 ≤ l.pitch ∧ l.pitch ≤ 20000000 := by
  have hasc := ascending_of_layersWellFormed h
  simp only [layersWellFormed, Bool.and_eq_true, List.all_eq_true, within_iff, decide_eq_true_eq] at h
  obtain ⟨⟨⟨⟨-, hlen⟩, hhead⟩, -⟩, hpitch⟩ := h
  refine ⟨hlen, fun l hl => ⟨?_, hpitch l hl⟩⟩
  cases ls with
  | nil => cases hl
  | cons m rest =>
    have hzero : m.start = 0 := by simpa using hhead
    exact hzero ▸ ascending_head_le hasc l hl

theorem layersOf_drumBytes (hd : DrumInRange d) : layersOf (drumBytes c d) = d.layers := by
  obtain ⟨hwf, -, -, hstart⟩ := hd
  obtain ⟨hlen, hbounds⟩ := layersWellFormed_bounds hwf
  have hcount : octet (drumBytes c d) 4 = d.layers.length := octet_of_le8 (by omega)
  have field (i j w : Nat) (l : Layer) (hl : d.layers[i]? = some l) (hj : j + w ≤ 8) :
      fieldNat (drumBytes c d) (5 + 8 * i + j) w = fieldNat (layerBytes l) j w := by
    rw [drumBytes_eq, Nat.add_assoc]
    exact (fieldNat_append_right rfl _ w).trans (fieldNat_flatMap_records length_layerBytes hl hj)
  rw [layersOf, hcount]
  refine List.ext_getElem (by simp) fun i hi hi' => ?_
  have hl := List.getElem?_eq_getElem hi'
  obtain ⟨hlo, -, hpitch⟩ := hbounds _ (List.getElem_mem hi')
  have h0 : fieldInt (drumBytes c d) (5 + 8 * i) = d.layers[i].start :=
    (fieldInt_eq_of_fieldNat (field i 0 4 _ hl (by decide))).trans
      (fieldInt_of_leInt ⟨by omega, hstart _ (List.getElem_mem hi')⟩)
  have h4 : fieldNat (drumBytes c d) (9 + 8 * i) 4 = d.layers[i].pitch := by
    rw [show 9 + 8 * i = 5 + 8 * i + 4 by omega]
    exact (field i 4 4 _ hl (by decide)).trans (fieldNat_of_leNat32 (by omega))
  rw [List.getElem_map, List.getElem_range, h0, h4]

theorem octet_drumBytes_conv : Conv.ofCode (octet (drumBytes c d) 0) = some c := by
  rw [octet_of_le8 (Conv.code_lt c), Conv.ofCode_code]

theorem formPutDrum_drumBytes (hd : DrumInRange d) : formPutDrum (drumBytes c d) = true := by
  obtain ⟨hlen, -⟩ := layersWellFormed_bounds hd.1
  have hcount : octet (drumBytes c d) 4 = d.layers.length := octet_of_le8 (by omega)
  have hlength : (drumBytes c d).length = 5 + 8 * d.layers.length := by
    rw [drumBytes_eq, List.length_append, length_flatMap_records length_layerBytes]
    rfl
  rw [formPutDrum, hcount, hlength]
  simp

theorem drumOf_drumBytes (hd : DrumInRange d) : drumOf (drumBytes c d) = some d := by
  have hlayers := layersOf_drumBytes (c := c) hd
  obtain ⟨hwf, hlo, hhi, -⟩ := hd
  have hsense : senseOf (octet (drumBytes c d) 1) = some d.sense := by
    obtain ⟨sense, tolerance, layers⟩ := d
    cases sense <;> rfl
  have htol : fieldNat (drumBytes c d) 2 2 = d.tolerance := fieldNat_of_le16 (by omega)
  simp only [drumOf, hsense, hlayers, htol, hwf, within_iff.mpr ⟨hlo, hhi⟩, Option.bind_eq_bind, Option.bind_some,
    and_self, if_true]
end drums

/-! #### The Conveyance record -/

section conveyances
variable {c : Conv} {v : Conveyance}

/-- A Conveyance record up to its coefficients. -/
def conveyanceHead (c : Conv) (v : Conveyance) : List Byte :=
  le8 c.code ++ le8 v.kind.code ++ le8 v.decks ++ le16 v.spacing ++ leInt v.top ++ leInt v.bottom ++
    leNat32 v.ropeOffset

theorem conveyanceBytes_eq : conveyanceBytes c v = conveyanceHead c v ++ stretchBytes v.stretch := rfl

theorem octet_conveyanceBytes_conv : Conv.ofCode (octet (conveyanceBytes c v) 0) = some c := by
  rw [octet_of_le8 (Conv.code_lt c), Conv.ofCode_code]

theorem octet_conveyanceBytes_kind : octet (conveyanceBytes c v) 1 = v.kind.code :=
  octet_of_le8 (ConvKind.code_lt _)

theorem formPutConveyance_conveyanceBytes (hv : ConveyanceInRange c v) :
    formPutConveyance (conveyanceBytes c v) = true := by
  obtain ⟨-, -, -, -, -, -, -, -, hstretch⟩ := hv
  have hlen : (conveyanceBytes c v).length = if v.kind.code = 3 then 19 else 25 := by
    rw [conveyanceBytes_eq, List.length_append]
    cases hk : v.kind <;> cases hs : v.stretch <;> rw [hk, hs] at hstretch <;> first | rfl | exact hstretch.elim
  rw [formPutConveyance, octet_conveyanceBytes_kind, hlen]
  split <;> simp

theorem stretchOf_conveyanceBytes (hv : ConveyanceInRange c v) :
    stretchOf (conveyanceBytes c v) v.kind = v.stretch ∧ Stretch.inRange v.stretch = true := by
  obtain ⟨-, -, -, -, -, -, -, -, hstretch⟩ := hv
  have word (j : Nat) : fieldNat (conveyanceBytes c v) (17 + j) 2 = fieldNat (stretchBytes v.stretch) j 2 :=
    fieldNat_append_right (p := conveyanceHead c v) rfl j 2
  have h0 := word 0
  have h2 := word 2
  have h4 := word 4
  have h6 := word 6
  cases hs : v.stretch with
  | single k =>
    rw [hs] at h0 hstretch
    cases hk : v.kind <;> rw [hk] at hstretch
    case counterweight =>
      have hk : k ≤ 5000 := hstretch
      exact ⟨congrArg Stretch.single (h0.trans (fieldNat_of_le16 (by omega))), decide_eq_true hk⟩
    all_goals exact hstretch.elim
  | perClass e q m r =>
    rw [hs] at h0 h2 h4 h6 hstretch
    have hranges (hr : e ≤ 5000 ∧ q ≤ 5000 ∧ m ≤ 5000 ∧ r ≤ 5000) :
        Stretch.perClass (fieldNat (conveyanceBytes c v) 17 2) (fieldNat (conveyanceBytes c v) 19 2)
          (fieldNat (conveyanceBytes c v) 21 2) (fieldNat (conveyanceBytes c v) 23 2) = .perClass e q m r ∧
        Stretch.inRange (.perClass e q m r) = true := by
      obtain ⟨he, hq, hm, hr⟩ := hr
      refine ⟨?_, by simp [Stretch.inRange, he, hq, hm, hr]⟩
      congr 1
      · exact h0.trans (fieldNat_of_le16 (by omega))
      · exact h2.trans (fieldNat_of_le16 (by omega))
      · exact h4.trans (fieldNat_of_le16 (by omega))
      · exact h6.trans (fieldNat_of_le16 (by omega))
    cases hk : v.kind <;> rw [hk] at hstretch
    case counterweight => exact hstretch.elim
    all_goals exact hranges hstretch

theorem conveyanceOf_conveyanceBytes (hv : ConveyanceInRange c v) :
    conveyanceOf c (conveyanceBytes c v) = some v := by
  obtain ⟨hstretch, hfits⟩ := stretchOf_conveyanceBytes hv
  obtain ⟨hkind, hdecks, hlo, hhi, htop, hbottom, hlt, hrope, -⟩ := hv
  have htop' : depthOf (conveyanceBytes c v) 5 = some v.top := depthOf_of_leInt htop
  have hbottom' : depthOf (conveyanceBytes c v) 9 = some v.bottom := depthOf_of_leInt hbottom
  have hdecks' : octet (conveyanceBytes c v) 2 = v.decks := octet_of_le8 (by omega)
  have hspacing : fieldNat (conveyanceBytes c v) 3 2 = v.spacing := fieldNat_of_le16 (by omega)
  have hrope' : fieldNat (conveyanceBytes c v) 13 4 = v.ropeOffset := fieldNat_of_leNat32 (by omega)
  have hdeckRange : within 1 2 v.decks = true := within_iff.mpr (by omega)
  simp only [conveyanceOf, octet_conveyanceBytes_kind, ConvKind.ofCode_code, htop', hbottom', hdecks', hspacing,
    hrope', hstretch, hfits, hkind, hdeckRange, within_iff.mpr ⟨hlo, hhi⟩, hlt, hrope, Option.bind_eq_bind,
    Option.bind_some, and_self, if_true]
end conveyances

/-! #### The Limits record -/

section limits
variable {l : Limits}

theorem length_limitFields (l : Limits) : (Limits.fields l).length = 40 := rfl

theorem length_le16 (n : Nat) : (le16 n).length = 2 := rfl

theorem length_limitsBytes (l : Limits) : (limitsBytes l).length = 80 :=
  length_flatMap_records length_le16 (Limits.fields l)

/-- The range of a field, in the order of R14. -/
theorem limitField_within (hl : LimitsInRange l) {i : Nat} {r : Nat × Nat} {n : Nat}
    (hr : limitRanges[i]? = some r) (hn : (Limits.fields l)[i]? = some n) : r.1 ≤ n ∧ n ≤ r.2 := by
  obtain ⟨hall, -⟩ := hl
  exact hall (r, n) (List.mem_of_getElem? (i := i) (by rw [List.getElem?_zip_eq_some]; exact ⟨hr, hn⟩))

theorem limitRanges_bounded : ∀ r ∈ limitRanges, r.2 < 2 ^ 16 := by decide

theorem limitFields_getElem? {i : Nat} (hi : i < 40) :
    (Limits.fields l)[i]? = some ((Limits.fields l).getD i 0) := by
  have hlen : i < (Limits.fields l).length := hi
  rw [List.getElem?_eq_getElem hlen, List.getD_eq_getElem _ _ hlen]

/-- A field of the record as it is read. -/
theorem fieldNat_limitsBytes (hl : LimitsInRange l) {i : Nat} (hi : i < 40) :
    fieldNat (limitsBytes l) (2 * i) 2 = (Limits.fields l).getD i 0 := by
  have hn := limitFields_getElem? (l := l) hi
  have hr : limitRanges[i]? = some (limitRanges[i]'(by exact hi)) := List.getElem?_eq_getElem _
  have hlt := limitRanges_bounded _ (List.mem_of_getElem? hr)
  obtain ⟨-, hle⟩ := limitField_within hl hr hn
  exact (fieldNat_flatMap_records (j := 0) length_le16 hn (by decide)).trans (fieldNat_of_le16 (by omega))

theorem limitsFrom_congr {f g : Nat → Nat} (h : ∀ i, i < 40 → f i = g i) : limitsFrom f = limitsFrom g := by
  simp only [limitsFrom, h, Nat.reduceLT]

theorem limitsFrom_fields (l : Limits) : limitsFrom (fun i => (Limits.fields l).getD i 0) = l.clamped := by
  have hattn : (if l.attnMode.code = 0 then AttnMode.level else .pulse) = l.attnMode := by cases l.attnMode <;> rfl
  have hbool (b : Bool) : decide (b.toNat = 1) = b := by cases b <;> rfl
  calc limitsFrom (fun i => (Limits.fields l).getD i 0)
      = { l.clamped with
          attnMode := if l.attnMode.code = 0 then AttnMode.level else .pulse
          adviseEnable := decide (l.adviseEnable.toNat = 1)
          strictAll := decide (l.strictAll.toNat = 1) } := rfl
    _ = l.clamped := by rw [hattn, hbool, hbool]; rfl

theorem limitsOf_limitsBytes (hl : LimitsInRange l) : limitsOf (limitsBytes l) = some l.clamped := by
  have hfield (i : Nat) (hi : i < 40) := fieldNat_limitsBytes hl hi
  rw [limitsOf]
  dsimp only
  rw [if_pos, limitsFrom_congr hfield, limitsFrom_fields]
  refine ⟨List.all_eq_true.mpr fun x hx => ?_, ?_⟩
  · obtain ⟨r, i⟩ := x
    have hr : limitRanges[i]? = some r := List.mem_zipIdx_iff_getElem?.mp hx
    have hi : i < 40 := (List.getElem?_eq_some_iff.mp hr).1
    rw [hfield i hi]
    exact within_iff.mpr (limitField_within hl hr (limitFields_getElem? hi))
  · rw [hfield 9 (by decide), hfield 10 (by decide)]
    exact hl.2
end limits

/-! #### The watch entry -/

section watch
variable {id : Nat} {w : WatchEntry}

theorem actionOf_code (h : ∀ c, w.action = .slow c → 100 ≤ c ∧ c ≤ 20000) :
    actionOf w.action.code w.action.cap = some w.action := by
  cases ha : w.action with
  | slow c => exact if_pos (within_iff.mpr (h c ha))
  | notify => rfl
  | stop => rfl

theorem watchOf_watchEntryBytes (hw : WatchInRange w) : watchOf (watchEntryBytes id w) = some w := by
  obtain ⟨hdepth, hbound, htrip, hforced, hcap⟩ := hw
  have hconv : octet (watchEntryBytes id w) 1 = w.conv.code := octet_of_le8 (Conv.code_lt _)
  have hdepth' : depthOf (watchEntryBytes id w) 2 = some w.depth := depthOf_of_leInt hdepth
  have hfacing : octet (watchEntryBytes id w) 6 = w.facing.code := octet_of_le8 (Facing.code_lt _)
  have hbinding : octet (watchEntryBytes id w) 7 = w.binding.code := octet_of_le8 (WatchBinding.code_lt _)
  have haction : octet (watchEntryBytes id w) 8 = w.action.code := octet_of_le8 (WatchAction.code_lt _)
  have hcaplt : w.action.cap < 2 ^ 16 := by
    cases ha : w.action with
    | slow c => have := hcap c ha; simp only [WatchAction.cap]; omega
    | notify => decide
    | stop => decide
  have hcap' : fieldNat (watchEntryBytes id w) 9 2 = w.action.cap := fieldNat_of_le16 hcaplt
  have hpers : octet (watchEntryBytes id w) 11 = w.persistence.code := octet_of_le8 (Persistence.code_lt _)
  have htriplt : w.trip.getD 0 < 2 ^ 16 := by
    cases ht : w.trip with
    | none => decide
    | some t => have := htrip t ht; rw [Option.getD_some]; omega
  have htrip' : fieldNat (watchEntryBytes id w) 12 2 = w.trip.getD 0 := fieldNat_of_le16 htriplt
  have hzero : (if w.trip.getD 0 = 0 then none else some (w.trip.getD 0)) = w.trip := by
    cases ht : w.trip with
    | none => rfl
    | some t => exact if_neg (by have := htrip t ht; rw [Option.getD_some]; omega)
  have hplain : ¬ (w.binding = .forced ∧ w.trip.getD 0 ≠ 0) := fun ⟨hb, hne⟩ => hne (by rw [hforced hb]; rfl)
  simp only [watchOf, hconv, hdepth', hfacing, hbinding, haction, hcap', hpers, htrip', Conv.ofCode_code,
    Facing.ofCode_code, WatchBinding.ofCode_code, actionOf_code hcap, Persistence.ofCode_code, hzero,
    Option.bind_eq_bind, Option.bind_some]
  rw [if_neg hplain, ← hbound]
end watch

/-- Settles O12. -/
theorem recordsReadBack : Obligations.RecordsReadBack := by
  unfold Obligations.RecordsReadBack
  exact ⟨fun i l hi hl => ⟨formPutLevel_levelBytes hl, octet_levelBytes_index hi _, levelOf_levelBytes hl⟩,
    fun i m hi hm => ⟨formPutMark_markBytes m, octet_markBytes_index hi _, markOf_markBytes hm⟩,
    fun c d hd => ⟨formPutDrum_drumBytes hd, octet_drumBytes_conv, drumOf_drumBytes hd⟩,
    fun c v hv => ⟨formPutConveyance_conveyanceBytes hv, octet_conveyanceBytes_conv, conveyanceOf_conveyanceBytes hv⟩,
    fun l hl => ⟨length_limitsBytes l, limitsOf_limitsBytes hl⟩,
    fun id w hid hw => ⟨rfl, octet_of_le8 hid, watchOf_watchEntryBytes hw⟩⟩

end Sys2Proof.Machine
end

section
/-! The edits of the description and its store (R4, R7 to R20): O13 to O17. -/

namespace Sys2Proof.Machine

open Sys2Proof

/-! #### The entries of a table -/

section tables
variable {α : Type} {n : Nat} {t : Vector (Option α) n}

theorem tableGet_eq (i : Nat) : tableGet t i = (t.toList[i]?).join := by
  rw [tableGet, Vector.getElem?_toList]

theorem mem_tableEntries {x : Nat × α} : x ∈ tableEntries t ↔ tableGet t x.1 = some x.2 := by
  obtain ⟨i, a⟩ := x
  simp only [tableEntries, List.mem_filterMap, Prod.exists, Option.map_eq_some_iff, Prod.mk.injEq, tableGet_eq,
    List.mem_zipIdx_iff_getElem?, Option.join_eq_some_iff]
  constructor
  · rintro ⟨o, j, hj, b, rfl, rfl, rfl⟩
    exact hj
  · exact fun h => ⟨some a, i, h, a, rfl, rfl, rfl⟩

theorem tableEntries_pairwise : (tableEntries t).Pairwise fun x y => x.1 < y.1 := by
  have hzip : t.toList.zipIdx.Pairwise fun x y => x.2 < y.2 := by
    have h : (t.toList.zipIdx.map Prod.snd).Pairwise (· < ·) := by
      rw [List.zipIdx_map_snd, ← List.range_eq_range']
      exact List.pairwise_lt_range
    exact List.pairwise_map.mp h
  refine hzip.filterMap _ fun a b hab x hx y hy => ?_
  obtain ⟨v, -, rfl⟩ := Option.map_eq_some_iff.mp hx
  obtain ⟨w, -, rfl⟩ := Option.map_eq_some_iff.mp hy
  exact hab

/-- The first entry that passes a test is the one of lowest index. -/
theorem tableEntries_find? {p : Nat × α → Bool} {x : Nat × α} (h : (tableEntries t).find? p = some x) :
    tableGet t x.1 = some x.2 ∧ p x = true ∧ ∀ i k, i < x.1 → tableGet t i = some k → p (i, k) = false := by
  obtain ⟨hp, as, bs, heq, has⟩ := List.find?_eq_some_iff_append.mp h
  refine ⟨mem_tableEntries.mp (List.mem_of_find?_eq_some h), hp, fun i k hi hk => ?_⟩
  have hmem : (i, k) ∈ as ++ x :: bs := heq ▸ mem_tableEntries.mpr hk
  have hpair := heq ▸ tableEntries_pairwise (t := t)
  obtain ⟨-, hbs, -⟩ := List.pairwise_append.mp hpair
  rcases List.mem_append.mp hmem with hmem | hmem
  · simpa using has _ hmem
  · rcases List.mem_cons.mp hmem with rfl | hmem
    · exact absurd hi (lt_irrefl _)
    · have := List.rel_of_pairwise_cons hbs hmem
      omega

theorem tableEntries_find?_eq_none {p : Nat × α → Bool} :
    (tableEntries t).find? p = none ↔ ∀ i k, tableGet t i = some k → p (i, k) = false := by
  rw [List.find?_eq_none]
  constructor
  · intro h i k hk
    simpa using h (i, k) (mem_tableEntries.mpr hk)
  · rintro h ⟨i, k⟩ hx
    simpa using h i k (mem_tableEntries.mp hx)

theorem tableEntries_any {p : Nat × α → Bool} :
    (tableEntries t).any p = true ↔ ∃ i k, tableGet t i = some k ∧ p (i, k) = true := by
  simp only [List.any_eq_true, mem_tableEntries, Prod.exists]
end tables

/-! #### Validation -/

section validation
variable {d : Description}

theorem Description.has_iff {k : LevelKind} {c : Conv} : Description.has d k c = true ↔
    ∃ i l, tableGet d.levels i = some l ∧ l.kind = k ∧ l.serves = c := by
  simp only [Description.has, tableEntries_any, Bool.and_eq_true, decide_eq_true_eq]

theorem Description.between_iff {c : Conv} {x : Int} : Description.between d c x = true ↔
    (d.convs.get c).top < x ∧ x < (d.convs.get c).bottom := by
  rw [Description.between, Bool.and_eq_true, decide_eq_true_eq, decide_eq_true_eq]

/-- The outcomes of validation: the first check that fails, or none (R18). -/
inductive Validation (d : Description) : Option (Nat × Nat) → Prop
  | bank (h1 : ¬ d.meets 1) : Validation d (some (1, 0xFF))
  | skip (h1 : d.meets 1) (h2 : ¬ d.meets 2) : Validation d (some (2, 0xFF))
  | level (h1 : d.meets 1) (h2 : d.meets 2) (i : Nat) (l : Level) (hl : tableGet d.levels i = some l)
    (h3 : ¬ ((d.convs.get l.serves).top < l.depth ∧ l.depth < (d.convs.get l.serves).bottom))
    (hlow : ∀ j k, j < i → tableGet d.levels j = some k →
      (d.convs.get k.serves).top < k.depth ∧ k.depth < (d.convs.get k.serves).bottom) :
    Validation d (some (3, i))
  | mark (h1 : d.meets 1) (h2 : d.meets 2) (h3 : d.meets 3) (i : Nat) (m : Mark) (hm : tableGet d.marks i = some m)
    (h4 : ¬ ((d.convs.get m.conv).top < m.depth ∧ m.depth < (d.convs.get m.conv).bottom))
    (hlow : ∀ j k, j < i → tableGet d.marks j = some k →
      (d.convs.get k.conv).top < k.depth ∧ k.depth < (d.convs.get k.conv).bottom) :
    Validation d (some (4, i))
  | drum (h1 : d.meets 1) (h2 : d.meets 2) (h3 : d.meets 3) (h4 : d.meets 4) (h5 : ¬ d.meets 5) :
    Validation d (some (5, if layersWellFormed d.drums.a.layers then 2 else 1))
  | decks (h1 : d.meets 1) (h2 : d.meets 2) (h3 : d.meets 3) (h4 : d.meets 4) (h5 : d.meets 5) (h6 : ¬ d.meets 6) :
    Validation d (some (6, 0xFF))
  | passes (h1 : d.meets 1) (h2 : d.meets 2) (h3 : d.meets 3) (h4 : d.meets 4) (h5 : d.meets 5) (h6 : d.meets 6) :
    Validation d none

theorem validation (d : Description) : Validation d (validate d) := by
  have hbank : d.meets 1 ↔ Description.has d .bank .a = true := Description.has_iff.symm
  have hskip : d.meets 2 ↔ ¬ (d.convs.b.kind = .skip ∧
      (!(Description.has d .pocket .b && Description.has d .tipple .b)) = true) := by
    rw [Description.meets, ← Description.has_iff, ← Description.has_iff, ← Bool.and_eq_true]
    cases (Description.has d .pocket .b && Description.has d .tipple .b) <;> simp
  unfold validate
  split
  · next h => exact .bank (by rw [hbank]; simpa using h)
  next h1 =>
  replace h1 : d.meets 1 := hbank.mpr (by simpa using h1)
  split
  · next h => exact .skip h1 (by rw [hskip, not_not]; exact h)
  next h2 =>
  replace h2 : d.meets 2 := hskip.mpr h2
  split
  · next x hx =>
    obtain ⟨hl, hfail, hlow⟩ := tableEntries_find? hx
    rw [Bool.not_eq_true', ← Bool.not_eq_true, Description.between_iff] at hfail
    exact .level h1 h2 x.1 x.2 hl hfail fun j k hj hk =>
      Description.between_iff.mp (by simpa using hlow j k hj hk)
  next h3 =>
  replace h3 : d.meets 3 := fun i l hl =>
    Description.between_iff.mp (by simpa using tableEntries_find?_eq_none.mp h3 i l hl)
  split
  · next x hx =>
    obtain ⟨hm, hfail, hlow⟩ := tableEntries_find? hx
    rw [Bool.not_eq_true', ← Bool.not_eq_true, Description.between_iff] at hfail
    exact .mark h1 h2 h3 x.1 x.2 hm hfail fun j k hj hk =>
      Description.between_iff.mp (by simpa using hlow j k hj hk)
  next h4 =>
  replace h4 : d.meets 4 := fun i m hm =>
    Description.between_iff.mp (by simpa using tableEntries_find?_eq_none.mp h4 i m hm)
  split
  · next ha =>
    have hdrum := Validation.drum h1 h2 h3 h4 (fun h5 => by rw [h5.1] at ha; cases ha)
    rwa [if_neg (by simpa using ha)] at hdrum
  next ha =>
  replace ha : layersWellFormed d.drums.a.layers = true := by simpa using ha
  split
  · next hb =>
    have hdrum := Validation.drum h1 h2 h3 h4 (fun h5 => by rw [h5.2] at hb; cases hb)
    rwa [if_pos ha] at hdrum
  next hb =>
  have h5 : d.meets 5 := ⟨ha, by simpa using hb⟩
  split
  · next h6 => exact .decks h1 h2 h3 h4 h5 h6
  · next h6 => exact .passes h1 h2 h3 h4 h5 (not_not.mp h6)
end validation

theorem Description.meets_of_none {d : Description} (h : Validation d none) (n : Nat) : d.meets n := by
  cases h with
  | passes h1 h2 h3 h4 h5 h6 =>
    match n with
    | 0 => trivial
    | 1 => exact h1
    | 2 => exact h2
    | 3 => exact h3
    | 4 => exact h4
    | 5 => exact h5
    | 6 => exact h6
    | _ + 7 => trivial

theorem Description.meets_lt_one (d : Description) : ∀ m, m < 1 → d.meets m := by
  intro m hm
  obtain rfl : m = 0 := by omega
  trivial

theorem Description.meets_lt_succ {d : Description} {n : Nat} (h : ∀ m, m < n → d.meets m) (hn : d.meets n) :
    ∀ m, m < n + 1 → d.meets m := by
  intro m hm
  rcases Nat.lt_succ_iff_lt_or_eq.mp hm with hlt | rfl
  · exact h m hlt
  · exact hn

/-- Settles O17. -/
theorem validationStopsAtTheFirstFailure : Obligations.ValidationStopsAtTheFirstFailure := by
  unfold Obligations.ValidationStopsAtTheFirstFailure
  intro d
  have hv := validation d
  refine ⟨⟨fun hnone => Description.meets_of_none (hnone ▸ hv), fun hall => ?_⟩, fun n item h => ?_⟩
  · generalize validate d = o at hv
    cases hv with
    | bank h1 => exact absurd (hall 1) h1
    | skip _ h2 => exact absurd (hall 2) h2
    | level _ _ i l hl h3 => exact absurd (hall 3 i l hl) h3
    | mark _ _ _ i m hm h4 => exact absurd (hall 4 i m hm) h4
    | drum _ _ _ _ h5 => exact absurd (hall 5) h5
    | decks _ _ _ _ _ h6 => exact absurd (hall 6) h6
    | passes => rfl
  · rw [h] at hv
    have below1 := Description.meets_lt_one d
    cases hv with
    | bank h1 => exact ⟨below1, h1, fun _ => rfl, nofun, nofun, nofun⟩
    | skip h1 h2 => exact ⟨Description.meets_lt_succ below1 h1, h2, fun _ => rfl, nofun, nofun, nofun⟩
    | level h1 h2 i l hl h3 hlow =>
      have below3 := Description.meets_lt_succ (Description.meets_lt_succ below1 h1) h2
      exact ⟨below3, fun h => h3 (h _ l hl), by omega, fun _ => ⟨l, hl, h3, hlow⟩, nofun, nofun⟩
    | mark h1 h2 h3 i m hm h4 hlow =>
      have below4 := Description.meets_lt_succ (Description.meets_lt_succ (Description.meets_lt_succ below1 h1) h2) h3
      exact ⟨below4, fun h => h4 (h _ m hm), by omega, nofun, fun _ => ⟨m, hm, h4, hlow⟩, nofun⟩
    | drum h1 h2 h3 h4 h5 =>
      have below5 := Description.meets_lt_succ (Description.meets_lt_succ (Description.meets_lt_succ
        (Description.meets_lt_succ below1 h1) h2) h3) h4
      exact ⟨below5, h5, by omega, nofun, nofun, fun _ => rfl⟩
    | decks h1 h2 h3 h4 h5 h6 =>
      have below6 := Description.meets_lt_succ (Description.meets_lt_succ (Description.meets_lt_succ
        (Description.meets_lt_succ (Description.meets_lt_succ below1 h1) h2) h3) h4) h5
      exact ⟨below6, h6, fun _ => rfl, nofun, nofun, nofun⟩

/-! #### The edits -/

section edits
variable {s : State} {i : Nat}

theorem whenStoreIdle_of_idle (owner : List Byte → State → Answered) (p : List Byte)
    (h : s.ds.storeState = .idle) : whenStoreIdle owner p s = owner p s := by
  rw [whenStoreIdle, h]
  rfl

theorem whenStoreIdle_hunt (owner : List Byte → State → Answered) (p : List Byte) (e : Elapse)
    (h : s.ds.storeState = .idle) :
    whenStoreIdle owner p (s.elapse e).hunt = owner p (s.elapse e).hunt := whenStoreIdle_of_idle owner p h

theorem whenStoreIdle_of_writing (owner : List Byte → State → Answered) (p : List Byte)
    (h : s.ds.storeState = .writing) : whenStoreIdle owner p s = refuse .busy s := if_pos h

theorem State.levelClash_iff {l : Level} : s.levelClash i l = true ↔ s.levelNear i l := by
  simp only [State.levelClash, tableEntries_any, State.levelNear, Bool.and_eq_true, bne_iff_ne, decide_eq_true_eq,
    and_assoc]
  exact exists_congr fun j => exists_congr fun l' => and_left_comm.trans
    (and_congr_right fun _ => and_congr_right fun _ => and_congr_right fun _ => by rw [Config.levelGap]; omega)

theorem State.markClash_iff {m : Mark} : s.markClash i m = true ↔
    ∃ j m', j ≠ i ∧ s.mark j = some m' ∧ m'.line = m.line := by
  simp only [State.markClash, tableEntries_any, Bool.and_eq_true, bne_iff_ne, decide_eq_true_eq]
  exact exists_congr fun j => exists_congr fun m' => and_left_comm

theorem putLevel_some {l : Level} (hi : i < 48) (hl : LevelInRange l) : putLevel (levelBytes i (some l)) s =
    if s.levelClash i l then refuse .duplicateLevel s
    else answer .ok (levelBytes i (some l)) (s.putLevelAt i (some l)) := by
  have hkind : l.kind.code ≠ 0 := by cases l.kind <;> decide
  rw [putLevel, octet_levelBytes_index (by omega), octet_levelBytes_kind, if_neg (by omega), if_neg hkind,
    levelOf_levelBytes hl]

theorem putLevel_none (hi : i < 48) : putLevel (levelBytes i none) s =
    answer .ok (levelBytes i none) (s.putLevelAt i none) := by
  rw [putLevel, octet_levelBytes_index (by omega), if_neg (by omega)]
  rfl

theorem putMark_some {m : Mark} (hi : i < 24) (hm : depthInRange m.depth = true) :
    putMark (markBytes i (some m)) s =
      if s.markClash i m then refuse .duplicateLevel s
      else answer .ok (markBytes i (some m)) (s.putMarkAt i (some m)) := by
  have hconv : octet (markBytes i (some m)) 1 = m.conv.code := octet_of_le8 (Conv.code_lt _)
  have hne : m.conv.code ≠ 0 := by cases m.conv <;> decide
  rw [putMark, octet_markBytes_index (by omega), hconv, if_neg (by omega), if_neg hne, markOf_markBytes hm]

theorem putMark_none (hi : i < 24) : putMark (markBytes i none) s =
    answer .ok (markBytes i none) (s.putMarkAt i none) := by
  rw [putMark, octet_markBytes_index (by omega), if_neg (by omega)]
  rfl
end edits

/-- Settles O14. -/
theorem putLevelAndPutMarkWriteThePlace : Obligations.PutLevelAndPutMarkWriteThePlace := by
  unfold Obligations.PutLevelAndPutMarkWriteThePlace
  refine ⟨fun e tag i l s hs hidle hi hl => ⟨fun hfar => ?_, fun hnear => ?_, ?_⟩,
    fun e tag i m s hs hidle hi hm => ⟨fun hfree => ?_, fun hclash => ?_, ?_⟩⟩
  · refine exec_answered rfl hs ?_ (formPutLevel_levelBytes hl)
    have hno : ¬ (s.elapse e).hunt.levelClash i l = true := fun h => hfar (State.levelClash_iff.mp h)
    rw [whenStoreIdle_hunt _ _ e hidle, putLevel_some hi hl, if_neg hno]
    rfl
  · refine exec_refused rfl hs ?_ (formPutLevel_levelBytes hl)
    have hyes : (s.elapse e).hunt.levelClash i l = true := State.levelClash_iff.mpr hnear
    rw [whenStoreIdle_hunt _ _ e hidle, putLevel_some hi hl, if_pos hyes]
  · refine exec_answered rfl hs ?_
    rw [whenStoreIdle_hunt _ _ e hidle, putLevel_none hi]
    rfl
  · refine exec_answered rfl hs ?_ (formPutMark_markBytes m)
    have hno : ¬ (s.elapse e).hunt.markClash i m = true := fun h => by
      obtain ⟨j, m', hj, hm', hline⟩ := State.markClash_iff.mp h
      exact hfree j m' hj hm' hline
    rw [whenStoreIdle_hunt _ _ e hidle, putMark_some hi hm, if_neg hno]
    rfl
  · refine exec_refused rfl hs ?_ (formPutMark_markBytes m)
    have hyes : (s.elapse e).hunt.markClash i m = true := State.markClash_iff.mpr hclash
    rw [whenStoreIdle_hunt _ _ e hidle, putMark_some hi hm, if_pos hyes]
  · refine exec_answered rfl hs ?_
    rw [whenStoreIdle_hunt _ _ e hidle, putMark_none hi]
    rfl

/-- Settles O16. -/
theorem commitWritesTheStore : Obligations.CommitWritesTheStore := by
  unfold Obligations.CommitWritesTheStore
  refine ⟨fun e tag p s hs hwriting => ?_, fun e tag s => ⟨fun hs hidle hvalid => ?_,
    fun n item hs hidle hinvalid => ?_, fun hwriting => ⟨?_, fun offset => ?_⟩⟩⟩
  · have busy (owner : List Byte → State → Answered) :
        whenStoreIdle owner p (s.elapse e).hunt = refuse .busy (s.elapse e).hunt :=
      whenStoreIdle_of_writing owner p hwriting
    exact ⟨fun hf => exec_refused rfl hs (busy _) hf, fun hf => exec_refused rfl hs (busy _) hf,
      fun hf => exec_refused rfl hs (busy _) hf, fun hf => exec_refused rfl hs (busy _) hf,
      fun hf => exec_refused rfl hs (busy _) (decide_eq_true hf),
      fun hf => exec_refused rfl hs (busy _) (decide_eq_true hf),
      fun hf => exec_refused rfl hs (busy _) (decide_eq_true (congrArg List.length hf))⟩
  · refine exec_answered rfl hs ?_
    rw [whenStoreIdle_hunt _ _ e hidle, commit, State.hunt_ds, State.elapse_ds, hvalid]
    rfl
  · refine exec_answered rfl hs ?_
    rw [whenStoreIdle_hunt _ _ e hidle, commit, State.hunt_ds, State.elapse_ds, hinvalid]
    rfl
  · exact if_pos hwriting
  · exact if_pos hwriting

/-! #### Drums, conveyances, limits and severities -/

section records
variable {s : State} (c : Conv)

theorem State.hunt_editDesc (f : Description → Description) : s.hunt.editDesc f = (s.editDesc f).hunt := rfl

theorem State.hunt_setCertainty (n : Certainty) (y : CertaintyCause) :
    s.hunt.setCertainty c n y = (s.setCertainty c n y).hunt := by
  unfold State.setCertainty
  rw [State.hunt_conv]
  split <;> rfl

/-- What a change of a drum's scale does beside the loss of the position (R10, R13). -/
theorem State.drumChanged_eq (s : State) : s.drumChanged c =
    let t := s.setCertainty c .uncertain .description
    { t with
      pm := { t.pm with drums := t.pm.drums.set c { s.drum c with paidOut := s.lengthNow c } }
      es := { s.es with motion := s.es.motion.set c none }
      cc := { s.cc with discrepancy := none, drift := if c = .b then none else s.cc.drift } } := by
  have hdrums : (s.setCertainty c .uncertain .description).pm.drums = s.pm.drums := by
    unfold State.setCertainty
    split <;> rfl
  have hes := s.setCertainty_es c .uncertain .description
  have hcc := s.setCertainty_cc c .uncertain .description
  unfold State.drumChanged State.scaleChanged
  simp only [State.modDrum, State.modPm, State.modEs, State.modCc, State.drum, hdrums, hes, hcc]

/-- The length of the last valid count in the layers of a new record. -/
theorem State.lengthNow_editDrum (s : State) (d : Drum) :
    (s.editDesc fun e => { e with drums := e.drums.set c d }).lengthNow c =
      match (s.drum c).lastValid with
      | none => 0
      | some (count, _) => paidOut d.layers count := by cases c <;> rfl

theorem putDrum_drumBytes {d : Drum} (hd : DrumInRange d) : putDrum (drumBytes c d) s =
    answer .ok (drumBytes c d) ((s.editDesc fun e => { e with drums := e.drums.set c d }).drumChanged c) := by
  rw [putDrum, octet_drumBytes_conv, drumOf_drumBytes hd]

theorem putConveyance_conveyanceBytes {v : Conveyance} (hv : ConveyanceInRange c v) :
    putConveyance (conveyanceBytes c v) s = answer .ok (conveyanceBytes c v)
      ((s.editDesc fun e => { e with convs := e.convs.set c v }).setCertainty c .uncertain .description) := by
  rw [putConveyance, octet_conveyanceBytes_conv]
  dsimp only
  rw [conveyanceOf_conveyanceBytes hv]
  rfl

theorem putLimits_limitsBytes {l : Limits} (hl : LimitsInRange l) : putLimits (limitsBytes l) s =
    answer .ok (limitsBytes l.clamped)
      ((s.editDesc fun d => { d with limits := l.clamped }).modLink fun k =>
        { k with pulse := if l.attnMode = .level then none else k.pulse }) := by
  rw [putLimits, limitsOf_limitsBytes hl]
  rfl

theorem putSeverity_bytes (k : FaultKind) (v : Severity) : putSeverity (le8 k.code ++ le8 v) s =
    answer .ok (le8 k.code ++ le8 (Fin.val (max v (floorOf k))))
      (s.editDesc fun d => { d with severities := d.severities.setIfInBounds k.idx (max v (floorOf k)) }) := by
  have hkind : octet (le8 k.code ++ le8 v) 0 = k.code := octet_of_le8 (FaultKind.code_lt k)
  have hsev : octet (le8 k.code ++ le8 v) 1 = v.val := octet_of_le8 (severity_lt v)
  have hlt : v.val < 4 := v.isLt
  rw [putSeverity, hkind, FaultKind.ofCode_code]
  simp only [hsev, hlt, dif_pos]
end records

/-- Settles O15. -/
theorem putDrumConveyanceLimitsAndSeverity : Obligations.PutDrumConveyanceLimitsAndSeverity := by
  unfold Obligations.PutDrumConveyanceLimitsAndSeverity
  refine ⟨fun e tag c d v s hs hidle => ⟨fun hd => ?_, fun hv => ?_⟩,
    fun e tag s hs hidle => ⟨fun l hl => ?_, fun k v => ?_⟩⟩
  · refine exec_answered rfl hs ?_ (formPutDrum_drumBytes hd)
    rw [whenStoreIdle_hunt _ _ e hidle, putDrum_drumBytes c hd, State.drumChanged_eq]
    rw [State.lengthNow_editDrum]
    dsimp only
    rw [State.hunt_editDesc, State.hunt_setCertainty]
    rfl
  · refine exec_answered rfl hs ?_ (formPutConveyance_conveyanceBytes hv)
    rw [whenStoreIdle_hunt _ _ e hidle, putConveyance_conveyanceBytes c hv]
    rw [State.hunt_editDesc, State.hunt_setCertainty]
    rfl
  · refine exec_answered rfl hs ?_ (decide_eq_true (length_limitsBytes l))
    rw [whenStoreIdle_hunt _ _ e hidle, putLimits_limitsBytes hl]
    rfl
  · refine exec_answered rfl hs ?_
    rw [whenStoreIdle_hunt _ _ e hidle, putSeverity_bytes]
    rfl

/-! #### Only records in range are read -/

section readers
variable {p : List Byte}

theorem depthInRange_of_depthOf {i : Nat} {x : Int} (h : depthOf p i = some x) : depthInRange x = true := by
  unfold depthOf at h
  split at h
  · next hin => exact Option.some.inj h ▸ hin
  · cases h

theorem levelInRange_of_levelOf {l : Level} (h : levelOf p = some l) : LevelInRange l := by
  simp only [levelOf, Option.bind_eq_bind, Option.bind_eq_some_iff] at h
  obtain ⟨kind, -, serves, -, depth, hdepth, modes, -, inService, -, gate, -, label, hlabel, hl⟩ := h
  cases hl
  unfold labelOf at hlabel
  dsimp only at hlabel
  split at hlabel
  · next hc =>
    obtain ⟨hlen, hchars⟩ := hc
    cases hlabel
    exact ⟨depthInRange_of_depthOf hdepth, hlen, fun b hb => within_iff.mp (List.all_eq_true.mp hchars b hb)⟩
  · cases hlabel

theorem markInRange_of_markOf {m : Mark} (h : markOf p = some m) : depthInRange m.depth = true := by
  simp only [markOf, Option.bind_eq_bind, Option.bind_eq_some_iff] at h
  obtain ⟨conv, -, depth, hdepth, facing, -, hm⟩ := h
  split at hm
  · cases hm
    exact depthInRange_of_depthOf hdepth
  · cases hm

theorem fieldInt_lt (p : List Byte) (i : Nat) : fieldInt p i < 2 ^ 31 := by
  exact BitVec.toInt_lt (x := BitVec.ofNat 32 (fieldNat p i 4))

theorem natOfBytes_lt (bs : List Byte) : natOfBytes bs < 256 ^ bs.length := by
  induction bs with
  | nil => exact Nat.one_pos
  | cons b bs ih =>
    have hb : b.toNat < 256 := b.isLt
    rw [natOfBytes, List.length_cons, pow_succ]
    omega

theorem fieldNat_lt (p : List Byte) (i w : Nat) : fieldNat p i w < 256 ^ w :=
  (natOfBytes_lt _).trans_le (Nat.pow_le_pow_right (by decide) (List.length_take_le _ _))

theorem drumInRange_of_drumOf {d : Drum} (h : drumOf p = some d) : DrumInRange d := by
  simp only [drumOf, Option.bind_eq_bind, Option.bind_eq_some_iff] at h
  obtain ⟨sense, -, hd⟩ := h
  split at hd
  · next hc =>
    obtain ⟨hwf, htol⟩ := hc
    obtain ⟨hlo, hhi⟩ := within_iff.mp htol
    cases hd
    refine ⟨hwf, hlo, hhi, fun l hl => ?_⟩
    obtain ⟨i, -, rfl⟩ := List.mem_map.mp hl
    exact fieldInt_lt p _
  · cases hd

theorem conveyanceInRange_of_conveyanceOf {c : Conv} {v : Conveyance} (h : conveyanceOf c p = some v) :
    ConveyanceInRange c v := by
  simp only [conveyanceOf, Option.bind_eq_bind, Option.bind_eq_some_iff] at h
  obtain ⟨kind, -, top, htop, bottom, hbottom, hv⟩ := h
  split at hv
  · next hc =>
    obtain ⟨hkind, hdecks, hspacing, hlt, hrope, hstretch⟩ := hc
    obtain ⟨hlo, hhi⟩ := within_iff.mp hdecks
    obtain ⟨hslo, hshi⟩ := within_iff.mp hspacing
    cases hv
    refine ⟨hkind, ?_, hslo, hshi, depthInRange_of_depthOf htop, depthInRange_of_depthOf hbottom, hlt, hrope, ?_⟩
    · change octet p 2 = 1 ∨ octet p 2 = 2
      omega
    · cases kind <;> simpa [stretchFits, stretchOf, Stretch.inRange, and_assoc] using hstretch
  · cases hv

theorem limitsFrom_clamped (f : Nat → Nat) : (limitsFrom f).clamped = limitsFrom f := by
  simp only [limitsFrom, Limits.clamped, min_assoc, min_self]

/-- The fields of a record that is read from 40 values in range. -/
theorem limitFields_inRange {f : Nat → Nat} (h : ∀ i r, limitRanges[i]? = some r → r.1 ≤ f i ∧ f i ≤ r.2) :
    ∀ x ∈ limitRanges.zip (Limits.fields (limitsFrom f)), x.1.1 ≤ x.2 ∧ x.2 ≤ x.1.2 := by
  obtain ⟨hdesign, -⟩ := h 1 _ rfl
  have hmin (i : Nat) (r : Nat × Nat) (hr : limitRanges[i]? = some r) (hlo : r.1 ≤ 1000) :
      r.1 ≤ min (f i) (f 1) ∧ min (f i) (f 1) ≤ r.2 := by
    obtain ⟨h1, h2⟩ := h i r hr
    exact ⟨le_min h1 (hlo.trans hdesign), (min_le_left _ _).trans h2⟩
  have hbool (b : Bool) : 0 ≤ b.toNat ∧ b.toNat ≤ 1 := ⟨Nat.zero_le _, Bool.toNat_le b⟩
  have hattn (m : AttnMode) : 0 ≤ m.code ∧ m.code ≤ 1 := by cases m <;> decide
  simp only [limitRanges, Limits.fields, List.cons_append, List.nil_append, List.zip_cons_cons, List.zip_nil_right,
    List.forall_mem_cons]
  exact ⟨h 0 _ rfl, h 1 _ rfl, hmin 2 _ rfl (by decide), hmin 3 _ rfl (by decide), hmin 4 _ rfl (by decide), hmin 5 _ rfl (by decide), h 6 _ rfl, h 7 _ rfl, h 8 _ rfl, h 9 _ rfl, h 10 _ rfl, h 11 _ rfl, h 12 _ rfl, h 13 _ rfl, h 14 _ rfl, h 15 _ rfl, h 16 _ rfl, h 17 _ rfl, h 18 _ rfl, h 19 _ rfl, h 20 _ rfl, h 21 _ rfl, h 22 _ rfl, h 23 _ rfl, h 24 _ rfl, h 25 _ rfl, h 26 _ rfl, h 27 _ rfl, h 28 _ rfl, h 29 _ rfl, h 30 _ rfl, h 31 _ rfl, h 32 _ rfl, h 33 _ rfl, h 34 _ rfl, h 35 _ rfl, h 36 _ rfl, hattn _, hbool _, hbool _, nofun⟩

theorem limitsInRange_of_limitsOf {l : Limits} (h : limitsOf p = some l) : LimitsInRange l ∧ l.clamped = l := by
  unfold limitsOf at h
  dsimp only at h
  split at h
  · next hc =>
    obtain ⟨hall, hret⟩ := hc
    cases h
    exact ⟨⟨limitFields_inRange fun i r hr =>
      within_iff.mp (List.all_eq_true.mp hall (r, i) (List.mem_zipIdx_iff_getElem?.mpr hr)), hret⟩,
      limitsFrom_clamped _⟩
  · cases h

theorem slow_of_actionOf {code cap c : Nat} (h : actionOf code cap = some (.slow c)) : 100 ≤ c ∧ c ≤ 20000 := by
  unfold actionOf at h
  split at h
  · cases h
  · split at h
    · next hin =>
      cases h
      exact within_iff.mp hin
    · cases h
  · cases h
  · cases h

theorem watchInRange_of_watchOf {w : WatchEntry} (h : watchOf p = some w) : WatchInRange w := by
  simp only [watchOf, Option.bind_eq_bind, Option.bind_eq_some_iff] at h
  obtain ⟨conv, -, depth, hdepth, facing, -, binding, -, action, haction, persistence, -, hw⟩ := h
  split at hw
  · cases hw
  · next hplain =>
    cases hw
    refine ⟨depthInRange_of_depthOf hdepth, rfl, fun t ht => ?_, fun hb => ?_, fun c hc => ?_⟩
    · split at ht
      · cases ht
      · next hne =>
        cases ht
        have := fieldNat_lt p 12 2
        omega
    · exact if_pos (by_contra fun hne => hplain ⟨hb, hne⟩)
    · obtain rfl : action = .slow c := hc
      exact slow_of_actionOf haction
end readers

section refusals
variable {p : List Byte} {s : State}

theorem putLevel_badRange (h : 47 < octet p 0 ∨ (octet p 1 ≠ 0 ∧ levelOf p = none)) :
    putLevel p s = refuse .badRange s := by
  unfold putLevel
  dsimp only
  split
  · rfl
  next hlt =>
  obtain ⟨hkind, hnone⟩ := h.resolve_left (by omega)
  rw [if_neg hkind, hnone]

theorem putMark_badRange (h : 23 < octet p 0 ∨ (octet p 1 ≠ 0 ∧ markOf p = none)) :
    putMark p s = refuse .badRange s := by
  unfold putMark
  dsimp only
  split
  · rfl
  next hlt =>
  obtain ⟨hkind, hnone⟩ := h.resolve_left (by omega)
  rw [if_neg hkind, hnone]

theorem putDrum_badRange (h : (octet p 0 ≠ 1 ∧ octet p 0 ≠ 2) ∨ drumOf p = none) :
    putDrum p s = refuse .badRange s := by
  unfold putDrum
  rcases h with ⟨h1, h2⟩ | hnone
  · rw [Conv.ofCode_eq_none h1 h2]
  · rw [hnone]
    cases Conv.ofCode (octet p 0) <;> rfl

theorem putConveyance_badRange
    (h : (octet p 0 ≠ 1 ∧ octet p 0 ≠ 2) ∨ ∃ c, octet p 0 = Conv.code c ∧ conveyanceOf c p = none) :
    putConveyance p s = refuse .badRange s := by
  unfold putConveyance
  rcases h with ⟨h1, h2⟩ | ⟨c, hc, hnone⟩
  · rw [Conv.ofCode_eq_none h1 h2]
  · rw [hc, Conv.ofCode_code]
    dsimp only
    rw [hnone]

theorem putLimits_badRange (h : limitsOf p = none) : putLimits p s = refuse .badRange s := by
  rw [putLimits, h]

theorem putSeverity_badRange (h : octet p 0 = 0 ∨ 31 < octet p 0 ∨ 3 < octet p 1) :
    putSeverity p s = refuse .badRange s := by
  unfold putSeverity
  split
  · rfl
  next k hk =>
  rw [dif_neg]
  intro hlt
  have hout : octet p 0 = 0 ∨ 31 < octet p 0 := by omega
  rw [FaultKind.ofCode_of_outside hout] at hk
  cases hk
end refusals

/-- Settles O13. -/
theorem onlyRecordsInRangeAreRead : Obligations.OnlyRecordsInRangeAreRead := by
  unfold Obligations.OnlyRecordsInRangeAreRead
  refine ⟨fun p => ⟨fun _ h => levelInRange_of_levelOf h, fun _ h => markInRange_of_markOf h,
    fun _ h => drumInRange_of_drumOf h, fun _ _ h => conveyanceInRange_of_conveyanceOf h,
    fun _ h => limitsInRange_of_limitsOf h, fun _ h => watchInRange_of_watchOf h⟩,
    fun e tag p s hs hidle => ?_⟩
  have idle (owner : List Byte → State → Answered) := whenStoreIdle_hunt (s := s) owner p e hidle
  exact ⟨fun hf h => exec_refused rfl hs ((idle _).trans (putLevel_badRange h)) hf,
    fun hf h => exec_refused rfl hs ((idle _).trans (putMark_badRange h)) hf,
    fun hf h => exec_refused rfl hs ((idle _).trans (putDrum_badRange h)) hf,
    fun hf h => exec_refused rfl hs ((idle _).trans (putConveyance_badRange h)) hf,
    fun hf h => exec_refused rfl hs ((idle _).trans (putLimits_badRange h)) (decide_eq_true hf),
    fun hf h => exec_refused rfl hs ((idle _).trans (putSeverity_badRange h)) (decide_eq_true hf)⟩

end Sys2Proof.Machine
end

section
/-! POWER_ON, the power-on load and the end of CHECKING (R21, R119, R159): O20 and O21. -/

namespace Sys2Proof.Machine

open Sys2Proof

/-! #### A report in CHECKING -/

section checking
variable {s : State} (r : Report)

/-- In CHECKING a report is counted, and flagged, logged and raised as an event where its kind is not pending. -/
theorem State.report_of_checking (h : s.te.winder = .checking) :
    s.report r = if s.isPending r.kind then s.countReport r.kind else s.taken r := by
  rw [State.report_eq]
  split
  · rfl
  · exact if_pos (.inl h)

theorem State.report_checking_frame (h : s.te.winder = .checking) :
    (s.report r).te = s.te ∧ (s.report r).tq = s.tq ∧ (s.report r).rg = s.rg ∧ (s.report r).wt = s.wt ∧
      (s.report r).es = s.es := by
  rw [State.report_of_checking r h]
  split
  · exact ⟨rfl, rfl, rfl, rfl, rfl⟩
  · simp [State.taken]

theorem getElem?_setIfInBounds_idx {α : Type} (v : Vector α 31) (k : FaultKind) (x : α) :
    (v.setIfInBounds k.idx x).toList[k.idx]? = some x := by
  rw [Vector.toList_setIfInBounds, List.getElem?_set_self]
  simpa using FaultKind.idx_lt k

theorem State.log_pendingFlags (v : Severity) : (s.log r v).fm.pending = s.fm.pending := by
  unfold State.log
  rw [State.modFm_fm]
  split
  · rfl
  · split <;> rfl

theorem State.isPending_taken : (s.taken r).isPending r.kind = true := by
  have h : (s.taken r).fm.pending = s.fm.pending.setIfInBounds r.kind.idx true :=
    State.log_pendingFlags (s := (s.countReport r.kind).setPending r.kind true) r (s.severity r.kind)
  rw [State.isPending, h, getElem?_setIfInBounds_idx]
  rfl

theorem State.isPending_report_checking (h : s.te.winder = .checking) :
    (s.report r).isPending r.kind = true := by
  rw [State.report_of_checking r h]
  split
  · assumption
  · exact s.isPending_taken r
end checking

/-! #### The load -/

section load
variable (s : State) (c : Conv)

theorem State.setCertainty_drum (n : Certainty) (y : CertaintyCause) (x : Conv) :
    (s.setCertainty c n y).drum x = s.drum x := by
  unfold State.setCertainty
  split <;> rfl

theorem State.setCertainty_certainty (n : Certainty) (y : CertaintyCause) :
    ((s.setCertainty c n y).conv c).certainty = n := by
  unfold State.setCertainty
  split
  · assumption
  · cases c <;> rfl

theorem State.setCertainty_conv_ne {x : Conv} (hx : x ≠ c) (n : Certainty) (y : CertaintyCause) :
    (s.setCertainty c n y).conv x = s.conv x := by
  unfold State.setCertainty
  split
  · rfl
  · cases c <;> cases x <;> first | rfl | exact absurd rfl hx

theorem State.drumChanged_ds : (s.drumChanged c).ds = s.ds := s.setCertainty_ds c .uncertain .description
theorem State.drumChanged_frame : (s.drumChanged c).te = s.te ∧ (s.drumChanged c).tq = s.tq ∧
    (s.drumChanged c).rg = s.rg ∧ (s.drumChanged c).wt = s.wt ∧ (s.drumChanged c).efe = s.efe ∧
    (s.drumChanged c).fm = s.fm ∧ (s.drumChanged c).clock = s.clock ∧ (s.drumChanged c).lines = s.lines ∧
    (s.drumChanged c).pending = s.pending :=
  ⟨s.setCertainty_te .., s.setCertainty_tq .., s.setCertainty_rg .., s.setCertainty_wt .., s.setCertainty_efe ..,
    s.setCertainty_fm .., s.setCertainty_clock .., s.setCertainty_lines .., s.setCertainty_pending ..⟩

theorem State.drumChanged_es : (s.drumChanged c).es = { s.es with motion := s.es.motion.set c none } := by
  rw [State.drumChanged_eq]

theorem State.drumChanged_cc : (s.drumChanged c).cc =
    { s.cc with discrepancy := none, drift := if c = .b then none else s.cc.drift } := by rw [State.drumChanged_eq]

theorem State.drumChanged_drum (x : Conv) : (s.drumChanged c).drum x =
    if x = c then { s.drum c with paidOut := s.lengthNow c } else s.drum x := by
  have h : (s.drumChanged c).drum x =
      (((s.setCertainty c .uncertain .description).pm.drums.set c
        { s.drum c with paidOut := s.lengthNow c }).get x) := by
    rw [State.drumChanged_eq]
    rfl
  rw [h, ← s.setCertainty_drum c .uncertain .description x]
  cases c <;> cases x <;> rfl

/-- The load before its report. -/
def State.reloaded (s : State) : State :=
  let s1 := s.modDs fun d => { d with desc := StoredCopy.description d.stored, loaded := true }
  (((s1.drumChanged .a).drumChanged .b).scaleChanged .a).scaleChanged .b

theorem State.load_eq : s.load =
    if StoredCopy.fails s.ds.stored then s.reloaded.report (bare .storeInvalid 0) else s.reloaded := rfl

theorem State.reloaded_ds :
    s.reloaded.ds = { s.ds with desc := StoredCopy.description s.ds.stored, loaded := true } := by
  simp only [State.reloaded, State.scaleChanged, State.setCertainty_ds, State.drumChanged_ds]
  rfl

theorem State.reloaded_frame : s.reloaded.te = s.te ∧ s.reloaded.tq = s.tq ∧
    s.reloaded.rg = s.rg ∧ s.reloaded.wt = s.wt ∧ s.reloaded.efe = s.efe ∧ s.reloaded.fm = s.fm ∧
    s.reloaded.clock = s.clock ∧ s.reloaded.lines = s.lines ∧ s.reloaded.pending = s.pending := by
  obtain ⟨hte, htq, hrg, hwt, hefe, hfm, hclock, hlines, hpending⟩ := State.drumChanged_frame
    (s.modDs fun d => { d with desc := StoredCopy.description d.stored, loaded := true }) .a
  obtain ⟨kte, ktq, krg, kwt, kefe, kfm, kclock, klines, kpending⟩ := State.drumChanged_frame
    ((s.modDs fun d => { d with desc := StoredCopy.description d.stored, loaded := true }).drumChanged .a) .b
  simp [State.reloaded, State.scaleChanged, hte, htq, hrg, hwt, hefe, hfm, hclock, hlines, hpending, kte, ktq, krg,
    kwt, kefe, kfm, kclock, klines, kpending]

theorem State.reloaded_es : s.reloaded.es = { s.es with motion := ⟨none, none⟩ } := by
  simp only [State.reloaded, State.scaleChanged, State.setCertainty_es, State.drumChanged_es]
  rfl

theorem State.reloaded_cc : s.reloaded.cc = { s.cc with discrepancy := none, drift := none } := by
  simp only [State.reloaded, State.scaleChanged, State.setCertainty_cc, State.drumChanged_cc]
  rfl

theorem State.reloaded_certainty : (s.reloaded.conv c).certainty = .uncertain := by
  unfold State.reloaded State.scaleChanged
  cases c with
  | a =>
    rw [State.setCertainty_conv_ne _ _ (by decide)]
    exact State.setCertainty_certainty ..
  | b => exact State.setCertainty_certainty ..

/-- The length of the last valid count in the layers that the load has taken. -/
theorem State.reloaded_drum : s.reloaded.drum c = { s.drum c with
    paidOut := match (s.drum c).lastValid with
      | none => 0
      | some (count, _) => paidOut (s.reloaded.layers c) count } := by
  simp only [State.reloaded, State.scaleChanged, State.setCertainty_drum, State.drumChanged_drum, State.lengthNow,
    State.layers, State.setCertainty_ds, State.drumChanged_ds]
  cases c <;> rfl
end load

/-- The load in CHECKING, its report made or not. -/
theorem State.load_frame {s : State} (h : s.te.winder = .checking) :
    s.load.te = s.te ∧ s.load.tq = s.tq ∧ s.load.rg = s.rg ∧ s.load.wt = s.wt ∧ s.load.es = s.reloaded.es ∧
      s.load.ds = s.reloaded.ds ∧ s.load.pm = s.reloaded.pm ∧ s.load.cc = s.reloaded.cc ∧ s.load.efe = s.efe ∧
      s.load.clock = s.clock ∧ s.load.lines = s.lines ∧ s.load.pending = s.pending := by
  obtain ⟨hte, htq, hrg, hwt, hefe, -, hclock, hlines, hpending⟩ := s.reloaded_frame
  rw [State.load_eq]
  split
  · have hw : s.reloaded.te.winder = .checking := by rw [hte, h]
    obtain ⟨kte, ktq, krg, kwt, kes⟩ := State.report_checking_frame (bare .storeInvalid 0) hw
    exact ⟨kte.trans hte, ktq.trans htq, krg.trans hrg, kwt.trans hwt, kes, State.report_ds .., State.report_pm ..,
      State.report_cc .., (State.report_efe ..).trans hefe, (State.report_clock ..).trans hclock,
      (State.report_lines ..).trans hlines, (State.report_pending ..).trans hpending⟩
  · exact ⟨hte, htq, hrg, hwt, rfl, rfl, rfl, rfl, hefe, hclock, hlines, hpending⟩

/-- What the load takes of a stored copy, and the store that it leaves. -/
theorem State.load_store {s : State} (h : s.te.winder = .checking) :
    (∀ d, s.ds.stored = .valid d → s.load.ds.desc = d ∧ s.load.fm = s.fm) ∧
      (s.ds.stored = .blank ∨ s.ds.stored = .unchecked →
        s.load.ds.desc = emptyDescription ∧ s.load.isPending .storeInvalid = true) := by
  obtain ⟨-, -, -, -, -, hds, -⟩ := State.load_frame h
  obtain ⟨hte, -, -, -, -, hfm, -⟩ := s.reloaded_frame
  rw [hds, s.reloaded_ds]
  refine ⟨fun d hd => ⟨by rw [hd]; rfl, ?_⟩, fun hfails => ⟨?_, ?_⟩⟩
  · rw [State.load_eq, hd]
    exact hfm
  · rcases hfails with hd | hd <;> rw [hd] <;> rfl
  · have hf : StoredCopy.fails s.ds.stored = true := by rcases hfails with hd | hd <;> rw [hd] <;> rfl
    rw [State.load_eq, if_pos hf]
    exact State.isPending_report_checking (bare .storeInvalid 0) (by rw [hte, h])

/-- Settles O20. -/
theorem powerOnResetsAndLoads : Obligations.PowerOnResetsAndLoads := by
  unfold Obligations.PowerOnResetsAndLoads
  refine ⟨fun up s => ?_, fun s hw => ?_⟩
  · have hstrap : (if up.addrStrap.val = 0 then 1 else up.addrStrap.val) =
        if up.addrStrap = 0 then 1 else up.addrStrap.val := if_congr Fin.val_eq_zero_iff rfl rfl
    change execPowerOn up s = _
    unfold execPowerOn State.poweredUp
    rw [hstrap] <;> rfl
  · obtain ⟨hte, htq, hrg, hwt, hes, hds, hpm, hcc, hefe, hclock, hlines, hpending⟩ := State.load_frame hw
    obtain ⟨hvalid, hinvalid⟩ := State.load_store hw
    have hlayers (c : Conv) : s.load.layers c = s.reloaded.layers c := by rw [State.layers, hds]; rfl
    refine ⟨hvalid, hinvalid, by rw [hds, s.reloaded_ds], by rw [hds, s.reloaded_ds], by rw [hds, s.reloaded_ds],
      fun c => ⟨?_, ?_⟩, hcc.trans s.reloaded_cc, hes.trans s.reloaded_es, hte, htq, hrg, hwt, hefe, hclock, hlines,
      hpending⟩
    · rw [State.conv, hpm]
      exact s.reloaded_certainty c
    · rw [State.drum, hpm, hlayers]
      exact s.reloaded_drum c

end Sys2Proof.Machine
end

section
/-! The end of CHECKING and the reading of the clutch switches in it (R119, R159): O21. -/

namespace Sys2Proof.Machine

open Sys2Proof

/-! #### The pending kinds of a severity, in order of number -/

section pendingOf
variable (s : State) (v : Severity)

theorem FaultKind.pairwise_code : FaultKind.all.Pairwise fun j k => j.code ≤ k.code := by decide

theorem State.mem_pendingOf (k : FaultKind) :
    k ∈ s.pendingOf v ↔ s.isPending k = true ∧ s.severity k = v := by
  rw [State.pendingOf, List.mem_filter, State.mem_pendingKinds, decide_eq_true_iff]

theorem State.pendingOf_eq_nil : s.pendingOf v = [] ↔ ¬ ∃ k, s.isPending k = true ∧ s.severity k = v := by
  simp only [List.eq_nil_iff_forall_not_mem, State.mem_pendingOf, not_exists]

/-- The first of the pending kinds of a severity is the lowest-numbered one. -/
theorem State.pendingOf_head {k : FaultKind} {ks : List FaultKind} (h : s.pendingOf v = k :: ks) :
    s.isPending k = true ∧ s.severity k = v ∧
      ∀ j, s.isPending j = true → s.severity j = v → k.code ≤ j.code := by
  obtain ⟨hp, hv⟩ := (s.mem_pendingOf v k).mp (by rw [h]; exact List.mem_cons_self)
  refine ⟨hp, hv, fun j hj hjv => ?_⟩
  have hsorted : (s.pendingOf v).Pairwise fun j k => j.code ≤ k.code :=
    (FaultKind.pairwise_code.filter _).filter _
  have hmem : j ∈ k :: ks := h ▸ (s.mem_pendingOf v j).mpr ⟨hj, hjv⟩
  rw [h, List.pairwise_cons] at hsorted
  rcases List.mem_cons.mp hmem with rfl | hrest
  · exact le_refl _
  · exact hsorted.1 j hrest
end pendingOf

/-! #### The end of CHECKING -/

section leave
variable {s : State}

/-- The event that a change of winder state raises, at the back of the queue. -/
theorem State.enter_events (s : State) (w : WinderState) (y : Cause) (n : Nat) :
    ∃ old, (s.enter w y n).link.events = old ++
      [{ kind := .stateChanged, trip := n, time := s.unitTime, v1 := uword32 w.code,
         v2 := uword32 s.te.winder.code,
         v3 := uword32 (Executive.detail { s.te with winder := w }), v4 := y.word }] := ⟨_, rfl⟩

/-- What a halt is where no trip is active. -/
def State.haltedIdle (s : State) : State :=
  (((s.modRg fun r => { r with refPrev := 0, label := .none }).sendDrive 0 false).modTe
    Executive.halt).setStopOrder false

theorem State.halt_of_no_trip (h : s.activeHead = none) : s.halt = s.haltedIdle := by
  rw [State.halt, State.interrupt]
  split
  · rfl
  · rename_i r hr
    have hsome : s.activeHead = some r := hr
    rw [h] at hsome
    cases hsome

theorem State.activeId_of_no_trip (h : s.activeHead = none) : s.activeId = 0 := by
  rw [State.activeId, h]
  rfl

/-- The STATE_CHANGED record of a change from CHECKING. -/
def checkingLeft (time : Nat) (w : WinderState) (cause : Word32) : EventRecord :=
  { kind := .stateChanged, trip := 0, time := time, v1 := uword32 w.code, v2 := 0, v3 := 0, v4 := cause }

/-- Leaving CHECKING for a state that has no phase, dwell kind or stop reason. -/
theorem State.enter_from_checking {u : State} (hclock : s.clock = u.clock) (hw : s.te.winder = .checking)
    {w : WinderState} (hdetail : ∀ t : Executive, t.winder = w → t.detail = 0) (y : Cause) :
    ∃ old, (s.enter w y 0).link.events = old ++ [checkingLeft u.unitTime w y.word] := by
  obtain ⟨old, hold⟩ := s.enter_events w y 0
  refine ⟨old, ?_⟩
  rw [hold, hdetail _ rfl, hw, State.unitTime, State.unitTime, hclock]
  rfl

/-- What the end of CHECKING leaves as it was. -/
def State.afterChecking (u t : State) : Prop :=
  t.fm.pending = u.fm.pending ∧ t.fm.counts = u.fm.counts ∧ t.fm.first = u.fm.first ∧
    t.fm.later = u.fm.later ∧ t.ds = u.ds ∧ t.efe = u.efe ∧ t.pm = u.pm ∧ t.tq = u.tq ∧ t.wt = u.wt ∧
    t.cc = u.cc ∧ t.clock = u.clock ∧ t.lines = u.lines ∧ t.pending = u.pending

theorem State.haltedIdle_clock (s : State) : s.haltedIdle.clock = s.clock := rfl

theorem State.enter_fm_frame (t : State) (w : WinderState) (y : Cause) (n : Nat) :
    (t.enter w y n).fm.pending = t.fm.pending ∧ (t.enter w y n).fm.counts = t.fm.counts ∧
      (t.enter w y n).fm.first = t.fm.first ∧ (t.enter w y n).fm.later = t.fm.later := by
  have hfm : (t.enter w y n).fm =
      if w = .idle ∨ w = .stoodDown then { t.fm with inForce := none } else t.fm := rfl
  rw [hfm]
  split <;> exact ⟨rfl, rfl, rfl, rfl⟩

theorem State.afterChecking.enter {u t : State} (h : u.afterChecking t) (w : WinderState) (y : Cause) (n : Nat) :
    u.afterChecking (t.enter w y n) := by
  obtain ⟨hp, hc, hf, hl, hds, hefe, hpm, htq, hwt, hcc, hclock, hlines, hpending⟩ := h
  obtain ⟨kp, kc, kf, kl⟩ := t.enter_fm_frame w y n
  exact ⟨kp.trans hp, kc.trans hc, kf.trans hf, kl.trans hl, (State.enter_ds ..).trans hds,
    (State.enter_efe ..).trans hefe, (State.enter_pm ..).trans hpm, (State.enter_tq ..).trans htq,
    (State.enter_wt ..).trans hwt, (State.enter_cc ..).trans hcc, (State.enter_clock ..).trans hclock,
    (State.enter_lines ..).trans hlines, (State.enter_pending ..).trans hpending⟩

theorem State.afterChecking_haltedIdle (s : State) : s.afterChecking s.haltedIdle := by
  simp [State.afterChecking, State.haltedIdle, State.setStopOrder]

theorem State.lock_of_no_trip (h : s.activeHead = none) (hw : s.te.winder = .checking) (k : FaultKind) :
    (s.lock k).te.winder = .lockedOut ∧ (s.lock k).fm.inForce = s.fm.inForce ∧
      (∃ old, (s.lock k).link.events = old ++
        [checkingLeft s.unitTime .lockedOut (Cause.fault k).word]) ∧
      s.afterChecking (s.lock k) := by
  rw [State.lock, State.activeId_of_no_trip h, State.halt_of_no_trip h]
  refine ⟨rfl, rfl, ?_, ?_⟩
  · exact State.enter_from_checking (s := s.haltedIdle) (u := s) s.haltedIdle_clock hw (w := .lockedOut)
      (fun t ht => by rw [Executive.detail, ht]) (.fault k)
  · exact s.afterChecking_haltedIdle.enter _ _ _

theorem State.trip_of_no_trip (h : s.activeHead = none) (hw : s.te.winder = .checking) (ret : ServiceReturn)
    (k : FaultKind) :
    (s.trip ret k).te.winder = .tripped ∧ (s.trip ret k).te.serviceReturn = ret ∧
      (s.trip ret k).fm.inForce = s.fm.inForce ∧
      (∃ old, (s.trip ret k).link.events = old ++
        [checkingLeft s.unitTime .tripped (Cause.fault k).word]) ∧
      s.afterChecking (s.trip ret k) := by
  rw [State.trip, State.activeId_of_no_trip h, State.halt_of_no_trip h]
  refine ⟨rfl, rfl, rfl, ?_, ?_⟩
  · exact State.enter_from_checking (s := s.haltedIdle.modTe fun t => { t with serviceReturn := ret })
      (u := s) s.haltedIdle_clock hw (w := .tripped) (fun t ht => by rw [Executive.detail, ht]) (.fault k)
  · exact State.afterChecking.enter (t := s.haltedIdle.modTe fun t => { t with serviceReturn := ret })
      s.afterChecking_haltedIdle _ _ _

theorem State.stand_of_checking (hw : s.te.winder = .checking) :
    (s.enter .stoodDown .sequence 0).te.winder = .stoodDown ∧
      (s.enter .stoodDown .sequence 0).fm.inForce = none ∧
      (∃ old, (s.enter .stoodDown .sequence 0).link.events = old ++
        [checkingLeft s.unitTime .stoodDown 0]) ∧
      s.afterChecking (s.enter .stoodDown .sequence 0) := by
  refine ⟨rfl, rfl, ?_, ?_⟩
  · exact State.enter_from_checking rfl hw (fun t ht => by rw [Executive.detail, ht]) .sequence
  · exact State.afterChecking.enter ⟨rfl, rfl, rfl, rfl, rfl, rfl, rfl, rfl, rfl, rfl, rfl, rfl, rfl⟩ _ _ _
end leave

/-! #### The reading of the clutch switches -/

section readClutch
variable (s : State)

/-- The Clutch Controller and the motion baseline after a reading (R159). -/
def State.clutchRead (c : ClutchState) (fault : Bool) (s : State) : State := { s with
  cc := { state := c, step := .none, timer := none, discrepancy := none, drift := none,
          switchFault := fault, read := true }
  es := if c = .engaged then s.es else { s.es with motion := { s.es.motion with b := none } } }

theorem State.switchesClosed_iff :
    s.switchesClosed = true ↔ s.lines.clutchOpen = false ∧ s.lines.clutchClosed = true := by
  rw [State.switchesClosed, Bool.and_eq_true, Bool.not_eq_true', and_comm]

theorem State.switchesOpen_iff :
    s.switchesOpen = true ↔ s.lines.clutchOpen = true ∧ s.lines.clutchClosed = false := by
  rw [State.switchesOpen, Bool.and_eq_true, Bool.not_eq_true']

/-- The switches that show neither state are both open or both closed. -/
theorem State.switchItem_of_neither (hclosed : ¬ (s.lines.clutchOpen = false ∧ s.lines.clutchClosed = true))
    (hopen : ¬ (s.lines.clutchOpen = true ∧ s.lines.clutchClosed = false)) :
    s.switchItem false = if s.lines.clutchOpen = true then 6 else 0 := by
  unfold State.switchItem
  cases ho : s.lines.clutchOpen <;> cases hc : s.lines.clutchClosed <;> simp_all [lineWeight]

theorem State.readClutch_eq : s.readClutch =
    if s.lines.clutchOpen = false ∧ s.lines.clutchClosed = true then s.clutchRead .engaged false
    else if s.lines.clutchOpen = true ∧ s.lines.clutchClosed = false then s.clutchRead .released false
    else (s.clutchRead .released true).report
      { kind := .clutchNotConfirmed, subject := 5, item1 := (if s.lines.clutchOpen = true then 6 else 0),
        item2 := 0, item3 := 0 } := by
  unfold State.readClutch
  refine (if_congr s.switchesClosed_iff rfl (if_congr s.switchesOpen_iff rfl rfl)).trans ?_
  split
  · rfl
  next hclosed =>
    split
    · rfl
    next hopen => rw [← s.switchItem_of_neither hclosed hopen]; rfl

theorem State.readClutch_frame {s : State} (h : s.te.winder = .checking) :
    s.readClutch.te = s.te ∧ s.readClutch.tq = s.tq ∧ s.readClutch.clock = s.clock ∧
      s.readClutch.lines = s.lines ∧ s.readClutch.pending = s.pending := by
  rw [State.readClutch_eq]
  split
  · exact ⟨rfl, rfl, rfl, rfl, rfl⟩
  · split
    · exact ⟨rfl, rfl, rfl, rfl, rfl⟩
    · obtain ⟨hte, htq, -⟩ := State.report_checking_frame (s := s.clutchRead .released true)
        { kind := .clutchNotConfirmed, subject := 5, item1 := (if s.lines.clutchOpen = true then 6 else 0),
          item2 := 0, item3 := 0 } h
      exact ⟨hte, htq, State.report_clock .., State.report_lines .., State.report_pending ..⟩
end readClutch

/-- The state at whose end CHECKING is left: the load and the reading made where they have not been (log 8). -/
def State.checked (s : State) : State :=
  let s1 := if s.ds.loaded = true then s else s.load
  if s1.cc.read = true then s1 else s1.readClutch

theorem State.checked_frame {s : State} (h : s.te.winder = .checking) :
    s.checked.te = s.te ∧ s.checked.tq = s.tq ∧ s.checked.clock = s.clock ∧ s.checked.lines = s.lines ∧
      s.checked.pending = s.pending := by
  have hload : let s1 := if s.ds.loaded = true then s else s.load
      s1.te = s.te ∧ s1.tq = s.tq ∧ s1.clock = s.clock ∧ s1.lines = s.lines ∧ s1.pending = s.pending := by
    dsimp only
    split
    · exact ⟨rfl, rfl, rfl, rfl, rfl⟩
    · obtain ⟨hte, htq, -, -, -, -, -, -, -, hclock, hlines, hpending⟩ := State.load_frame h
      exact ⟨hte, htq, hclock, hlines, hpending⟩
  unfold State.checked
  dsimp only at hload ⊢
  generalize (if s.ds.loaded = true then s else s.load) = s1 at hload ⊢
  split
  · exact hload
  · obtain ⟨hte, htq, hclock, hlines, hpending⟩ := hload
    obtain ⟨kte, ktq, kclock, klines, kpending⟩ := State.readClutch_frame (s := s1) (by rw [hte, h])
    exact ⟨kte.trans hte, ktq.trans htq, kclock.trans hclock, klines.trans hlines, kpending.trans hpending⟩

theorem State.checked_read {s : State} (h : s.te.winder = .checking) :
    (if s.ds.loaded = true then s else s.load).cc.read = s.cc.read := by
  split
  · rfl
  · obtain ⟨-, -, -, -, -, -, -, hcc, -⟩ := State.load_frame h
    rw [hcc, s.reloaded_cc]

/-- How CHECKING ends, by the highest severity of the pending kinds (R119). -/
theorem State.leaveChecking_cases {u : State} (hhead : u.activeHead = none) (hw : u.te.winder = .checking) :
    let grave (v : Severity) : Prop := ∃ k, u.isPending k = true ∧ u.severity k = v
    let lowest (v : Severity) (k : FaultKind) : Prop :=
      u.isPending k = true ∧ u.severity k = v ∧
        ∀ j, u.isPending j = true → u.severity j = v → k.code ≤ j.code
    let changed (w : WinderState) (cause : Word32) (t : State) : Prop :=
      ∃ old, t.link.events = old ++
        [checkingLeft u.unitTime w cause]
    let t := u.leaveChecking
    (grave 3 → t.te.winder = .lockedOut ∧ t.fm.inForce = some 3 ∧
      ∃ k, lowest 3 k ∧ changed .lockedOut (Cause.fault k).word t) ∧
    (¬ grave 3 → grave 2 → t.te.winder = .tripped ∧ t.te.serviceReturn = .stoodDown ∧
      t.fm.inForce = some 2 ∧ ∃ k, lowest 2 k ∧ changed .tripped (Cause.fault k).word t) ∧
    (¬ grave 3 → ¬ grave 2 → t.te.winder = .stoodDown ∧ t.fm.inForce = none ∧
      changed .stoodDown 0 t) ∧
    u.afterChecking t := by
  dsimp only
  rw [← State.pendingOf_eq_nil, ← State.pendingOf_eq_nil, ← not_not (a := ∃ k, u.isPending k = true ∧ u.severity k = 3),
    ← not_not (a := ∃ k, u.isPending k = true ∧ u.severity k = 2), ← State.pendingOf_eq_nil,
    ← State.pendingOf_eq_nil, State.leaveChecking]
  rcases h3 : u.pendingOf 3 with _ | ⟨k, ks⟩
  · rcases h2 : u.pendingOf 2 with _ | ⟨k, ks⟩
    · obtain ⟨hwinder, hforce, hchanged, hafter⟩ := State.stand_of_checking hw
      exact ⟨fun h => absurd rfl h, fun _ h => absurd rfl h, fun _ _ => ⟨hwinder, hforce, hchanged⟩, hafter⟩
    · obtain ⟨hwinder, hreturn, hforce, hchanged, hafter⟩ := State.trip_of_no_trip
        (s := u.modFm fun f => { f with inForce := some 2 }) hhead hw .stoodDown k
      exact ⟨fun h => absurd rfl h,
        fun _ _ => ⟨hwinder, hreturn, hforce, k, u.pendingOf_head 2 h2, hchanged⟩,
        fun _ h => (List.cons_ne_nil _ _ h).elim, hafter⟩
  · obtain ⟨hwinder, hforce, hchanged, hafter⟩ := State.lock_of_no_trip
      (s := u.modFm fun f => { f with inForce := some 3 }) hhead hw k
    exact ⟨fun _ => ⟨hwinder, hforce, k, u.pendingOf_head 3 h3, hchanged⟩,
      fun h => (List.cons_ne_nil _ _ h).elim, fun h => (List.cons_ne_nil _ _ h).elim, hafter⟩

/-- Settles O21. -/
theorem checkingReadsTheClutchAndEnds : Obligations.CheckingReadsTheClutchAndEnds := by
  unfold Obligations.CheckingReadsTheClutchAndEnds
  intro set reading
  have hreading (u : State) : reading u = u.readClutch := u.readClutch_eq.symm
  refine ⟨fun e s hw hhead => ?_, fun e s hw => ?_⟩
  · intro s0 s1 u
    have hw0 : s0.te.winder = .checking := by rw [State.elapse_te, hw]
    have hs1 : s1 = if s0.ds.loaded = true then s0 else s0.load := by
      change _ = if (s.elapse e).ds.loaded = true then _ else _
      rw [State.elapse_ds]
    have hread0 : s0.cc.read = s.cc.read := congrArg ClutchController.read (State.elapse_cc ..)
    have hu : u = s0.checked := by
      have hu : u = if s.cc.read = true then s1 else s1.readClutch := by rw [← hreading]
      rw [hu, hs1, State.checked, State.checked_read hw0, hread0]
    obtain ⟨hte, htq, hclock, hlines, hpending⟩ := State.checked_frame hw0
    rw [← hu] at hte htq hclock hlines hpending
    have hactive : u.activeHead = none := by
      rw [State.activeHead, htq, State.elapse_tq]
      exact hhead
    have htime : u.unitTime = s0.unitTime := by rw [State.unitTime, hclock, State.unitTime]
    obtain ⟨hthree, htwo, hnone, hpend, hcounts, hfirst, hlater, hds, hefe, hpm, htqq, hwt, hcc, hck, hln, hpd⟩ :=
      State.leaveChecking_cases hactive (by rw [hte, hw0])
    rw [htime] at hthree htwo hnone
    have hexec : exec (.checkingEnd e) s = .next u.leaveChecking := by rw [hu]; exact if_pos hw0
    exact ⟨_, hexec, hthree, htwo, hnone, hpend, hcounts, hfirst, hlater, hds, hefe, hpm, htqq, hwt, hcc,
      hck.trans hclock, hln.trans hlines, hpd.trans (hpending.trans (State.elapse_pending ..))⟩
  · rw [hreading]
    change execClutchPowerOnRead e s = _
    rw [execClutchPowerOnRead]
    cases hread : s.cc.read <;> simp [hw, hread]

end Sys2Proof.Machine
end

section
/-! SET_DATUM (R33) and the admission and withdrawal of trips (R51 to R58): O27, O32 and O33. -/

namespace Sys2Proof.Machine

open Sys2Proof

/-! #### SET_DATUM -/

section datum
variable {s : State} {c : Conv} {p : List Byte}

/-- What SET_DATUM checks before the depth is looked up, in its order (R33). -/
def State.datumRefusal (s : State) (c : Conv) (p : List Byte) : Option ResultCode :=
  if ¬ (octet p 1 = 0 ∨ depthInRange (fieldInt p 2) = true) then some .badRange
  else if ¬ (s.te.winder = .stoodDown ∨ s.te.winder = .idle) then some .wrongState
  else if ¬ mag (s.conv c).speed ≤ s.limits.standstill then some .notStandstill
  else if (s.front c).primary.valid = false then some .positionUncertain
  else none

/-- A list of checks refuses by its first check that fails. -/
theorem firstRefusal_check {b : Bool} {Q : Prop} [Decidable Q] (h : b = false ↔ Q) (code : ResultCode)
    (rest : List (Bool × ResultCode)) :
    firstRefusal ((b, code) :: rest) = if Q then some code else firstRefusal rest := by
  rw [firstRefusal_cons, ← if_congr h rfl rfl]
  cases b <;> rfl

theorem datumRequest_of_other {b : Byte} {q : List Byte} (h1 : b ≠ 1) (h2 : b ≠ 2) :
    datumRequest ([b] ++ q) s = refuse .badRange s := by
  have hc : Conv.ofCode (octet ([b] ++ q) 0) = none := Conv.ofCode_octet_eq_none h1 h2
  rw [datumRequest, hc]

theorem datumRequest_eq (hc : Conv.ofCode (octet p 0) = some c) : datumRequest p s =
    match s.datumRefusal c p with
    | some r => refuse r s
    | none =>
      match s.datumDepthOf c p with
      | .error r => refuse r s
      | .ok depth =>
        answer .ok (le8 c.code ++ leInt depth ++ le8 Certainty.certain.code) (s.setDatum c depth) := by
  rw [datumRequest, hc]
  dsimp only
  rw [firstRefusal_check (Q := ¬ (octet p 1 = 0 ∨ depthInRange (fieldInt p 2) = true)) (by simp),
    firstRefusal_check (Q := ¬ (s.te.winder = .stoodDown ∨ s.te.winder = .idle)) (by simp),
    firstRefusal_check (Q := ¬ mag (s.conv c).speed ≤ s.limits.standstill) (by simp [State.convAtRest]),
    firstRefusal_check Iff.rfl]
  rfl

theorem State.hunt_setDatum (x : Int) : s.hunt.setDatum c x = (s.setDatum c x).hunt := by
  unfold State.setDatum
  rw [← State.hunt_setCertainty]
  rfl
end datum

/-- Settles O27. -/
theorem setDatumFixesThePosition : Obligations.SetDatumFixesThePosition := by
  unfold Obligations.SetDatumFixesThePosition
  intro e tag c s hs s0 resting steady count valid fixed done
  have hspecial := State.admits_special hs
  have hdone (x : Int) : State.reply tag 0x9C (answer .ok
      (le8 c.code ++ leInt x ++ le8 Certainty.certain.code) (s0.hunt.setDatum c x)) = done x := by
    rw [State.hunt_setDatum]
    rfl
  have hconv (q : List Byte) : Conv.ofCode (octet (le8 c.code ++ q) 0) = some c :=
    (congrArg Conv.ofCode (octet_code c)).trans (Conv.ofCode_code c)
  refine ⟨fun b form x h1 h2 => ?_, fun x hlo hhi => ?_, fun i hi => ?_⟩
  · cases form <;> exact exec_refused rfl hspecial (datumRequest_of_other h1 h2)
  · have hint : fieldInt (le8 c.code ++ [1] ++ leInt x) 2 = x := fieldInt_of_leInt ⟨hlo, hhi⟩
    have hrefusal : s0.hunt.datumRefusal c (le8 c.code ++ [1] ++ leInt x) =
        if ¬ (-200000 ≤ x ∧ x ≤ 3400000) then some .badRange
        else if ¬ resting then some .wrongState
        else if ¬ steady then some .notStandstill
        else if valid = false then some .positionUncertain else none := by
      unfold State.datumRefusal
      refine if_congr (not_congr ?_) rfl rfl
      rw [hint, depthInRange, Bool.and_eq_true, decide_eq_true_iff, decide_eq_true_iff]
      exact or_iff_right (by decide : ¬ (1 : Nat) = 0)
    have hdepth : s0.hunt.datumDepthOf c (le8 c.code ++ [1] ++ leInt x) = .ok x :=
      (if_pos rfl).trans (congrArg Except.ok hint)
    rw [exec_served (rk := 0x9C) rfl hspecial, datumRequest_eq (c := c) (p := le8 c.code ++ [1] ++ leInt x) (hconv _),
      hrefusal, hdepth]
    split_ifs
    · rfl
    · exact congrArg _ (hdone x)
    · rfl
    · rfl
    · rfl
  · have hint : fieldNat (le8 c.code ++ [0] ++ leNat32 i) 2 4 = i := fieldNat_of_leNat32 hi
    have hrefusal : s0.hunt.datumRefusal c (le8 c.code ++ [0] ++ leNat32 i) =
        if ¬ resting then some .wrongState
        else if ¬ steady then some .notStandstill
        else if valid = false then some .positionUncertain else none := by
      unfold State.datumRefusal
      exact if_neg (not_not.mpr (.inl rfl))
    have hdepth : s0.hunt.datumDepthOf c (le8 c.code ++ [0] ++ leNat32 i) =
        match s.level i with
        | none => .error .noSuchLevel
        | some l => if l.serves = c then .ok l.depth else .error .wrongLevelKind := by
      unfold State.datumDepthOf
      rw [hint]
      rfl
    rw [exec_served (rk := 0x9C) rfl hspecial, datumRequest_eq (c := c) (p := le8 c.code ++ [0] ++ leNat32 i) (hconv _),
      hrefusal, hdepth]
    split_ifs
    · rfl
    · cases s.level i with
      | none => rfl
      | some l =>
        dsimp only
        split_ifs
        · exact congrArg _ (hdone l.depth)
        · rfl
    · rfl
    · rfl

end Sys2Proof.Machine
end

section
/-! The admission and withdrawal of trips (R51 to R58): O32 and O33. -/

namespace Sys2Proof.Machine

open Sys2Proof

/-! #### Admission -/

section admission
variable (s : State) (id : Nat) (m : Mode)

theorem Mode.ofCode_code (m : Mode) : Mode.ofCode m.code = some m := by cases m <;> rfl

theorem overrideForm_iff {v : Nat} : overrideForm v = true ↔ v = 0 ∨ 100 ≤ v := by
  rw [overrideForm, Bool.or_eq_true, decide_eq_true_iff, decide_eq_true_iff]

theorem ite_some_or {α : Type} {P : Prop} [Decidable P] (x : α) (y z : Option α) :
    (if P then some x else y).or z = if P then some x else y.or z := by split <;> rfl

theorem State.queueRefusal_eq : s.queueRefusal id =
    if s.tq.any (fun r => r.id = id) then some .duplicateId
    else if 12 ≤ s.tq.length then some .queueFull else none := by
  unfold State.queueRefusal
  rw [firstRefusal_check (Q := (s.tq.any fun r => r.id = id) = true) (by
      rw [List.any_eq_not_all_not, Bool.not_eq_true']
      rfl),
    firstRefusal_check (Q := 12 ≤ s.tq.length) (by rw [decide_eq_false_iff_not, not_lt, Config.queueCapacity]),
    firstRefusal_nil]

theorem State.betweenLimits_iff (c : Conv) (x : Int) :
    s.betweenLimits c x = true ↔ (s.convRec c).top < x ∧ x < (s.convRec c).bottom := by
  rw [State.betweenLimits, Bool.and_eq_true, decide_eq_true_iff, decide_eq_true_iff]

theorem State.targetRefusal_station (l d : Nat) : s.targetRefusal m (.station l d) =
    match s.level l with
    | none => some .noSuchLevel
    | some v =>
      if v.inService = false then some .levelClosed
      else if d < 1 ∨ (s.convRec .a).decks < d then some .noSuchDeck
      else if v.modes.permits m = false then some .modeForbidden
      else if ¬ ((s.convRec .a).top < s.targetDepth (.station l d) ∧
        s.targetDepth (.station l d) < (s.convRec .a).bottom) then some .badRange
      else if v.serves ≠ .a then some .wrongLevelKind
      else none := by
  unfold State.targetRefusal
  dsimp only
  cases s.level l with
  | none => rfl
  | some v =>
    dsimp only
    rw [firstRefusal_check Iff.rfl,
      firstRefusal_check (Q := d < 1 ∨ (s.convRec .a).decks < d) (by
        rw [← Bool.not_eq_true, within_iff, not_and_or, not_le, not_le]),
      firstRefusal_check Iff.rfl,
      firstRefusal_check (by rw [← Bool.not_eq_true, State.betweenLimits_iff]),
      firstRefusal_check (Q := v.serves ≠ .a) (by simp), firstRefusal_nil]

theorem State.targetRefusal_depth (x : Int) : s.targetRefusal m (.depth x) =
    if m ≠ .material ∧ m ≠ .inspection then some .addressForbidden
    else if ¬ ((s.convRec .a).top < x ∧ x < (s.convRec .a).bottom) then some .badRange
    else none := by
  unfold State.targetRefusal
  dsimp only
  rw [firstRefusal_check (Q := m ≠ .material ∧ m ≠ .inspection) (by simp),
    firstRefusal_check (by rw [← Bool.not_eq_true, State.betweenLimits_iff]), firstRefusal_nil]

/-- A record admitted by a request is at its place, with the event and the reply of R57. -/
theorem State.hunt_admitRecord (r : TripRecord) (n : Nat) : s.hunt.admitRecord r n = (s.admitRecord r n).hunt := rfl

theorem admitAnswer_eq {p : List Byte} {id ovr n place : Nat} {front : Bool} (b : TripBody) (last : List Byte)
    (hid : fieldNat p 0 2 = id) (hfront : octet p 2 = front.toNat) (hovr : fieldNat p 3 2 = ovr)
    (hlimit : s.limits.ofMode b.mode = n)
    (hplace : place = if front then (if s.activeHead.isSome then 1 else 0) else s.tq.length) :
    let stored := if ovr = 0 then none else some (min ovr n)
    let r : TripRecord := { id := id, body := b, override := stored, active := false, interrupted := false }
    admitAnswer p b last s = answer .ok (le8 place ++ le16 (stored.getD 0) ++ last) (s.admitRecord r place) := by
  have hrecord : s.newRecord p b =
      { id := id, body := b, override := if ovr = 0 then none else some (min ovr n), active := false,
        interrupted := false } := by
    rw [State.newRecord, overrideOf, hid, hovr, hlimit.symm]
    split <;> rfl
  have hpl : s.placeOf (octet p 2 = 1) = place := by
    rw [hplace, hfront]
    cases front <;> rfl
  rw [admitAnswer, hrecord, hpl]
  rfl

theorem queueTrip_of_refusal {p : List Byte} {c : ResultCode}
    (h : (s.queueRefusal (fieldNat p 0 2)).or
      (s.targetRefusal ((Mode.ofCode (octet p 5)).getD .man) (targetOf p 6)) = some c) :
    queueTrip p s = refuse c s := by
  unfold queueTrip
  cases hq : s.queueRefusal (fieldNat p 0 2) with
  | some x =>
    rw [hq] at h
    cases h
    rfl
  | none =>
    rw [hq, Option.none_or] at h
    dsimp only
    rw [h]

theorem queueTrip_of_admitted {p : List Byte}
    (h : (s.queueRefusal (fieldNat p 0 2)).or
      (s.targetRefusal ((Mode.ofCode (octet p 5)).getD .man) (targetOf p 6)) = none) :
    queueTrip p s = admitAnswer p (.cage ((Mode.ofCode (octet p 5)).getD .man) (targetOf p 6)
      (s.targetDepth (targetOf p 6))) (leInt (s.targetDepth (targetOf p 6))) s := by
  obtain ⟨hq, ht⟩ := Option.or_eq_none_iff.mp h
  unfold queueTrip
  dsimp only
  rw [hq, ht]
end admission

/-- A target that its fields of the payload can hold, with the depth field `x` (R52). -/
def targetFits (x : Int) : Target → Prop
  | .station l d => l < 256 ∧ d < 256
  | .depth y => y = x

/-- The payload of QUEUE_TRIP (R52, R198). -/
def queueTripBytes (id ovr : Nat) (front : Bool) (m : Mode) (target : Target) (x : Int) : List Byte :=
  le16 id ++ leBool front ++ le16 ovr ++ le8 m.code ++
    (match target with | .station l d => [0] ++ le8 l ++ le8 d | .depth _ => [1, 0, 0]) ++ leInt x

/-- What is read from the payload of QUEUE_TRIP. -/
theorem queueTripBytes_fields {id ovr : Nat} {front : Bool} {m : Mode} {target : Target} {x : Int}
    (hid : id < 2 ^ 16) (hovr : ovr < 2 ^ 16) (hx : -2 ^ 31 ≤ x ∧ x < 2 ^ 31)
    (htarget : targetFits x target) :
    let p := queueTripBytes id ovr front m target x
    fieldNat p 0 2 = id ∧ octet p 2 = front.toNat ∧ fieldNat p 3 2 = ovr ∧ Mode.ofCode (octet p 5) = some m ∧
      octet p 6 ≤ 1 ∧ targetOf p 6 = target ∧ p.length = 13 := by
  have hmode : m.code < 256 := Mode.code_lt m
  cases target with
  | station l d =>
    obtain ⟨hl, hd⟩ := htarget
    refine ⟨fieldNat_of_le16 hid, octet_of_leBool, fieldNat_of_le16 hovr, ?_, Nat.zero_le 1, ?_, rfl⟩
    · rw [octet_of_le8 hmode, Mode.ofCode_code]
    · refine (if_pos rfl).trans ?_
      rw [octet_of_le8 hl, octet_of_le8 hd]
  | depth y =>
    cases htarget
    refine ⟨fieldNat_of_le16 hid, octet_of_leBool, fieldNat_of_le16 hovr, ?_, le_refl 1, ?_, rfl⟩
    · rw [octet_of_le8 hmode, Mode.ofCode_code]
    · refine (if_neg (by decide : ¬ (1 : Nat) = 0)).trans ?_
      rw [fieldInt_of_leInt hx]

/-- Settles O32. -/
theorem queueTripAdmitsOrRefuses : Obligations.QueueTripAdmitsOrRefuses := by
  unfold Obligations.QueueTripAdmitsOrRefuses
  intro e tag id ovr front m target x s hs hlo hid hform hovr hxlo hxhi htarget s0 p cv depth
    between fails stored r place
  obtain ⟨fid, ffront, fovr, fmode, fform, ftarget, flen⟩ :=
    queueTripBytes_fields (front := front) (m := m) hid hovr ⟨hxlo, hxhi⟩
    (show targetFits x target by cases target <;> exact htarget)
  change fieldNat p 0 2 = id at fid
  change octet p 2 = front.toNat at ffront
  change fieldNat p 3 2 = ovr at fovr
  change Mode.ofCode (octet p 5) = some m at fmode
  change octet p 6 ≤ 1 at fform
  change targetOf p 6 = target at ftarget
  change p.length = 13 at flen
  have hgood : formQueueTrip p = true := by
    have hfront : front.toNat ≤ 1 := Bool.toNat_le front
    simp [formQueueTrip, flen, fid, ffront, fmode, fovr, overrideForm_iff.mpr hform, fform, hfront]
    omega
  have hfails : (s0.hunt.queueRefusal (fieldNat p 0 2)).or
      (s0.hunt.targetRefusal ((Mode.ofCode (octet p 5)).getD .man) (targetOf p 6)) = fails := by
    have hqueue : s0.hunt.queueRefusal id = if s.tq.any (fun r => r.id = id) then some .duplicateId
        else if 12 ≤ s.tq.length then some .queueFull else none := s.queueRefusal_eq id
    rw [fid, fmode, ftarget, hqueue]
    rw [ite_some_or, ite_some_or, Option.none_or]
    refine if_congr Iff.rfl rfl (if_congr Iff.rfl rfl ?_)
    cases target with
    | station l d => exact s.targetRefusal_station m l d
    | depth y => exact s.targetRefusal_depth m y
  cases hf : fails with
  | some c => exact exec_refused rfl hs (queueTrip_of_refusal _ (hfails.trans hf)) hgood
  | none =>
    refine exec_answered rfl hs ((queueTrip_of_admitted _ (hfails.trans hf)).trans ?_) hgood
    rw [fmode, ftarget]
    refine (admitAnswer_eq _ _ _ fid ffront fovr rfl rfl).trans ?_
    cases target <;> rfl

/-! #### Skip cycles and withdrawal -/

section skip
variable (s : State)

theorem State.skipRefusal_eq (pocket tipple : Nat) : s.skipRefusal pocket tipple =
    match s.level pocket, s.level tipple with
    | some q, some t =>
      if q.inService = false ∨ t.inService = false then some .levelClosed
      else if q.modes.rock = false ∨ t.modes.rock = false then some .modeForbidden
      else if ¬ (((s.convRec .b).top < q.depth ∧ q.depth < (s.convRec .b).bottom) ∧
        (s.convRec .b).top < t.depth ∧ t.depth < (s.convRec .b).bottom) then some .badRange
      else if (s.convRec .b).kind ≠ .skip then some .noSkip
      else if ¬ (q.kind = .pocket ∧ q.serves = .b ∧ t.kind = .tipple ∧ t.serves = .b) then
        some .wrongLevelKind
      else none
    | _, _ => some .noSuchLevel := by
  unfold State.skipRefusal
  rcases s.level pocket with _ | q
  · rfl
  · rcases s.level tipple with _ | t
    · rfl
    · dsimp only
      rw [firstRefusal_check (Q := q.inService = false ∨ t.inService = false) Bool.and_eq_false_iff,
        firstRefusal_check (Q := q.modes.rock = false ∨ t.modes.rock = false) Bool.and_eq_false_iff,
        firstRefusal_check (by
          rw [← Bool.not_eq_true, Bool.and_eq_true, State.betweenLimits_iff, State.betweenLimits_iff]),
        firstRefusal_check (Q := (s.convRec .b).kind ≠ .skip) (by simp),
        firstRefusal_check (Q := ¬ (q.kind = .pocket ∧ q.serves = .b ∧ t.kind = .tipple ∧ t.serves = .b)) (by
          rw [← Bool.not_eq_true, Bool.and_eq_true, Bool.and_eq_true, Bool.and_eq_true, decide_eq_true_iff,
            decide_eq_true_iff, decide_eq_true_iff, decide_eq_true_iff, and_assoc, and_assoc]),
        firstRefusal_nil]

theorem queueSkip_of_refusal {p : List Byte} {c : ResultCode}
    (h : (s.queueRefusal (fieldNat p 0 2)).or (s.skipRefusal (octet p 5) (octet p 6)) = some c) :
    queueSkip p s = refuse c s := by
  unfold queueSkip
  cases hq : s.queueRefusal (fieldNat p 0 2) with
  | some x =>
    rw [hq] at h
    cases h
    rfl
  | none =>
    rw [hq, Option.none_or] at h
    dsimp only
    rw [h]

theorem queueSkip_of_admitted {p : List Byte}
    (h : (s.queueRefusal (fieldNat p 0 2)).or (s.skipRefusal (octet p 5) (octet p 6)) = none) :
    queueSkip p s = admitAnswer p (.skip (octet p 5) (octet p 6) (cycleCount (octet p 7))
      (cycleCount (octet p 7)) .toPocket) (le16 (cycleCount (octet p 7))) s := by
  obtain ⟨hq, ht⟩ := Option.or_eq_none_iff.mp h
  unfold queueSkip
  dsimp only
  rw [hq, ht]

theorem withdraw_of_absent {id : Nat} (hid : id < 2 ^ 16) (h : ∀ r ∈ s.tq, r.id ≠ id) :
    withdraw (le16 id) s = refuse .noSuchTrip s := by
  have hfind : (s.tq.find? fun r => r.id = fieldNat (le16 id) 0 2) = none := by
    rw [fieldNat_of_le16 hid, List.find?_eq_none]
    simpa using h
  rw [withdraw, hfind]

section present
variable {s} {before after : List TripRecord} {r : TripRecord} (htq : s.tq = before ++ r :: after)
  (hbefore : ∀ q ∈ before, q.id ≠ r.id)
include htq hbefore

theorem find_record : (s.tq.find? fun q => q.id = r.id) = some r := by
  have hnone : (before.find? fun q => q.id = r.id) = none := by
    rw [List.find?_eq_none]
    simpa using hbefore
  rw [htq, List.find?_append, hnone, Option.none_or, List.find?_cons_of_pos (by simp)]

theorem erase_record : (s.tq.eraseP fun q => q.id = r.id) = before ++ after := by
  rw [htq, List.eraseP_append_right _ (by simpa using hbefore), List.eraseP_cons_of_pos (by simp)]

theorem withdraw_of_active (hid : r.id < 2 ^ 16) (hactive : r.active = true) :
    withdraw (le16 r.id) s = refuse .isActive s := by
  rw [withdraw, fieldNat_of_le16 hid, find_record htq hbefore]
  exact if_pos hactive

theorem withdraw_of_pending (hid : r.id < 2 ^ 16) (hactive : r.active = false) :
    withdraw (le16 r.id) s = answer .ok [] ((s.modTq fun _ => before ++ after).raiseEnded 2 r r.body.remaining) := by
  have herase : (s.modTq fun q => q.eraseP fun x => x.id = r.id) = s.modTq fun _ => before ++ after := by
    rw [← erase_record htq hbefore]
    rfl
  rw [withdraw, fieldNat_of_le16 hid, find_record htq hbefore, ← herase]
  exact if_neg (by rw [hactive]; exact Bool.false_ne_true)
end present
end skip

/-- Settles O33. -/
theorem skipCyclesAdmittedAndRecordsWithdrawn : Obligations.SkipCyclesAdmittedAndRecordsWithdrawn := by
  unfold Obligations.SkipCyclesAdmittedAndRecordsWithdrawn
  refine ⟨?_, fun e tag id s hs hid => ⟨fun habsent => ?_, fun before after r htq hr hbefore => ⟨?_, ?_⟩⟩⟩
  · intro e tag id ovr pocket tipple count front s hs hlo hid hform hovr hpk htp hct s0 p cv between fails n stored r
      place
    have fid : fieldNat p 0 2 = id := fieldNat_of_le16 hid
    have ffront : octet p 2 = front.toNat := octet_of_leBool
    have fovr : fieldNat p 3 2 = ovr := fieldNat_of_le16 hovr
    have fpk : octet p 5 = pocket := octet_of_le8 hpk
    have ftp : octet p 6 = tipple := octet_of_le8 htp
    have fct : cycleCount (octet p 7) = n := congrArg cycleCount (octet_of_le8 hct)
    have flen : p.length = 8 := rfl
    have hgood : formQueueSkip p = true := by
      have hfront : front.toNat ≤ 1 := Bool.toNat_le front
      simp [formQueueSkip, flen, fid, ffront, fovr, overrideForm_iff.mpr hform, hfront]
      omega
    have hfails : (s0.hunt.queueRefusal (fieldNat p 0 2)).or
        (s0.hunt.skipRefusal (octet p 5) (octet p 6)) = fails := by
      have hqueue : s0.hunt.queueRefusal id = if s.tq.any (fun r => r.id = id) then some .duplicateId
          else if 12 ≤ s.tq.length then some .queueFull else none := s.queueRefusal_eq id
      rw [fid, fpk, ftp, hqueue, ite_some_or, ite_some_or, Option.none_or]
      exact if_congr Iff.rfl rfl (if_congr Iff.rfl rfl (s.skipRefusal_eq pocket tipple))
    cases hf : fails with
    | some c => exact exec_refused rfl hs (queueSkip_of_refusal _ (hfails.trans hf)) hgood
    | none =>
      refine exec_answered rfl hs ((queueSkip_of_admitted _ (hfails.trans hf)).trans ?_) hgood
      rw [fct, fpk, ftp]
      exact admitAnswer_eq _ _ _ fid ffront fovr rfl rfl
  · exact exec_refused rfl hs (withdraw_of_absent _ hid habsent)
  · subst hr
    exact fun hactive => exec_refused rfl hs (withdraw_of_active (s := (s.elapse e).hunt) htq hbefore hid hactive)
  · subst hr
    exact fun hactive => exec_answered rfl hs (withdraw_of_pending (s := (s.elapse e).hunt) htq hbefore hid hactive)

end Sys2Proof.Machine
end

section
/-! SET_WATCH and CLEAR_WATCH (R146 to R148), and the requests of the Clutch Controller (R160, R163): O51 and O54. -/

namespace Sys2Proof.Machine

open Sys2Proof

/-! #### The Watch Table -/

section watch
variable {s : State} {id : Nat} {w : WatchEntry} {p q : List Byte}

theorem length_filterMap_zipIdx {α : Type} (l : List (Option α)) (k : Nat) :
    ((l.zipIdx k).filterMap fun x => x.1.map fun v => (x.2, v)).length = (l.filter Option.isSome).length := by
  induction l generalizing k with
  | nil => rfl
  | cons x l ih => cases x <;> simp [List.zipIdx_cons, ih]

theorem length_tableEntries {α : Type} {n : Nat} (t : Vector (Option α) n) :
    (tableEntries t).length = (t.toList.filter Option.isSome).length := length_filterMap_zipIdx _ 0

theorem octet_watchEntryBytes_id (hid : id < 16) : octet (watchEntryBytes id w) 0 = id := octet_of_le8 (by omega)

theorem setWatchPoint_watchEntryBytes (hid : id < 16) (hw : WatchInRange w) :
    setWatchPoint (watchEntryBytes id w) s = answer .ok
      (watchEntryBytes id w ++ le8 (if w.binding = .tagged ∧ s.activeHead.isSome = true then 1 else 0))
      (s.setWatch id (some w)) := by
  have hflag : lineWeight (w.binding = .tagged && s.activeHead.isSome) 1 =
      if w.binding = .tagged ∧ s.activeHead.isSome = true then 1 else 0 :=
    if_congr (by rw [Bool.and_eq_true, decide_eq_true_iff]) rfl rfl
  rw [setWatchPoint, octet_watchEntryBytes_id hid, if_neg (by omega), watchOf_watchEntryBytes hw]
  dsimp only
  rw [hflag]

/-- Two payloads with the same id and the same entry are served alike. -/
theorem setWatchPoint_congr (hid : octet p 0 = octet q 0) (hentry : watchOf p = watchOf q) :
    setWatchPoint p s = setWatchPoint q s := by
  rw [setWatchPoint, setWatchPoint, hid, hentry]

/-- The cap of an entry that is not SLOW is not examined (R147). -/
theorem actionOf_of_not_slow (h : ∀ c, w.action ≠ .slow c) (x y : Nat) :
    actionOf w.action.code x = actionOf w.action.code y := by
  cases ha : w.action with
  | slow c => exact absurd ha (h c)
  | notify => rfl
  | stop => rfl

/-- The entry is read from its fields; the cap only with its action (R147). -/
theorem watchOf_congr (hconv : octet p 1 = octet q 1) (hdepth : depthOf p 2 = depthOf q 2)
    (hfacing : octet p 6 = octet q 6) (hbinding : octet p 7 = octet q 7)
    (haction : actionOf (octet p 8) (fieldNat p 9 2) = actionOf (octet q 8) (fieldNat q 9 2))
    (hpersistence : octet p 11 = octet q 11) (htrip : fieldNat p 12 2 = fieldNat q 12 2) :
    watchOf p = watchOf q := by
  simp only [watchOf, hconv, hdepth, hfacing, hbinding, haction, hpersistence, htrip]

/-- The bytes of an entry with another cap. -/
def withCap (b : List Byte) (cap : Nat) : List Byte := b.take 9 ++ le16 cap ++ b.drop 11

theorem watchOf_withCap (h : ∀ c, w.action ≠ .slow c) (cap : Nat) :
    watchOf (withCap (watchEntryBytes id w) cap) = watchOf (watchEntryBytes id w) := by
  refine watchOf_congr rfl rfl rfl rfl ?_ rfl rfl
  have hcode : octet (withCap (watchEntryBytes id w) cap) 8 = w.action.code :=
    octet_of_le8 (WatchAction.code_lt w.action)
  have hcode' : octet (watchEntryBytes id w) 8 = w.action.code := octet_of_le8 (WatchAction.code_lt w.action)
  rw [hcode, hcode']
  exact actionOf_of_not_slow h _ _

theorem setWatchPoint_of_outside (h : 15 < octet p 0 ∨ watchOf p = none) :
    setWatchPoint p s = refuse .badRange s := by
  unfold setWatchPoint
  rcases h with h | h
  · exact if_pos h
  · rw [h]
    exact ite_self _

theorem clearWatch_of_lt (hid : id < 16) : clearWatch (le8 id) s =
    answer .ok (le8 (if (s.watch id).isSome then 1 else 0)) (s.setWatch id none) := by
  have hoctet : octet (le8 id) 0 = id := natOfBytes_le8 (by omega)
  rw [clearWatch, hoctet, if_neg (by omega), if_neg (by omega)]
  rfl

theorem clearWatch_all : clearWatch [0xFF] s =
    answer .ok (le8 (s.wt.toList.filter Option.isSome).length) (s.modWt fun _ => Vector.replicate 16 none) := by
  rw [← length_tableEntries]
  rfl
end watch

/-- Settles O51. -/
theorem watchRequestsWriteTheTable : Obligations.WatchRequestsWriteTheTable := by
  unfold Obligations.WatchRequestsWriteTheTable
  intro e tag s hs s0
  refine ⟨fun id w hid hw => ?_, fun id cap w hid hw hslow hcap => ?_, fun p hlen hout => ?_, fun id hid => ?_,
    fun id hlo hhi => ?_, ?_⟩
  · exact exec_answered rfl hs (setWatchPoint_watchEntryBytes hid hw)
  · intro b
    have hlen : (withCap b cap).length = 14 := rfl
    have hleft := exec_served (c := .setWatch e tag (withCap b cap)) (rk := 0xA9) rfl hs (decide_eq_true hlen)
    have hright := exec_served (c := .setWatch e tag b) (rk := 0xA9) rfl hs
    have hsame : octet (withCap b cap) 0 = octet b 0 := rfl
    rw [setWatchPoint_congr hsame (watchOf_withCap hslow cap), ← hright] at hleft
    exact hleft
  · exact exec_refused rfl hs (setWatchPoint_of_outside hout) (decide_eq_true hlen)
  · exact exec_answered rfl hs (clearWatch_of_lt hid)
  · have hbyte : (byteAt id 0).toNat = id := by
      rw [byteAt_toNat, Nat.pow_zero, Nat.div_one]
      omega
    refine exec_refused rfl hs (clearWatch_of_other _ (b := byteAt id 0) (by omega) fun hall => ?_)
    rw [hall] at hbyte
    exact absurd hbyte (by simp; omega)
  · exact exec_answered rfl hs clearWatch_all

/-! #### The clutch requests -/

section clutch
variable (s : State)

/-- The checks that CLUTCH_OUT and CLUTCH_IN share, in their order (R160, R163). -/
def State.clutchRefusal (s : State) (from_ : ClutchState) : Option ResultCode :=
  if s.te.winder ≠ .idle then some .wrongState
  else if s.cc.state = .releasing ∨ s.cc.state = .engaging then some .busy
  else if s.atStandstill = false then some .notStandstill
  else if s.lines.brakeApplied = false then some .wrongState
  else if s.cc.state ≠ from_ then some .clutchState
  else none

theorem State.firstRefusal_clutchChecks (from_ : ClutchState) (last : Bool × ResultCode) :
    firstRefusal (s.clutchChecks from_ ++ [last]) = (s.clutchRefusal from_).or (firstRefusal [last]) := by
  rw [State.clutchChecks, List.cons_append, List.cons_append, List.cons_append, List.cons_append, List.cons_append,
    firstRefusal_check (Q := s.te.winder ≠ .idle) (by simp),
    firstRefusal_check (Q := s.cc.state = .releasing ∨ s.cc.state = .engaging) (by simp [or_iff_not_imp_left]),
    firstRefusal_check Iff.rfl, firstRefusal_check Iff.rfl, firstRefusal_check (Q := s.cc.state ≠ from_) (by simp),
    State.clutchRefusal]
  rw [ite_some_or, ite_some_or, ite_some_or, ite_some_or, ite_some_or, Option.none_or, List.nil_append]

/-- The Envelope Supervisor with the motion baseline of drum B given up (R110). -/
def State.freedB (s : State) : EnvelopeSupervisor := { s.es with motion := { s.es.motion with b := none } }

/-- CLUTCH_CHANGED, with the length of drum B (R171). -/
def State.clutchEnds (s : State) (after before : ClutchState) (outcome : Nat) : State :=
  s.raise .clutchChanged 0 (uword32 after.code) (uword32 before.code) (uword32 outcome)
    (word32 ((s.drum .b).paidOut.tdiv 1000000))

theorem State.releaseComplete_eq : s.releaseComplete = ({ s with
    es := s.freedB
    cc := { s.cc with state := .released, step := .none, timer := none, drift := some (s.drum .b).paidOut,
                      switchFault := false } }).clutchEnds .released .engaged 1 := rfl

theorem State.engageComplete_eq : s.engageComplete = ({ s with
    cc := { s.cc with state := .engaged, step := .none, timer := none, drift := none, discrepancy := none,
                      switchFault := false } }).clutchEnds .engaged .released 1 := rfl

theorem State.beginOpening_eq : s.beginOpening =
    if s.lines.clutchOpen = true ∧ s.lines.clutchClosed = false then s.releaseComplete
    else { s with es := s.freedB
                  cc := { s.cc with state := .releasing, step := .opening, timer := some s.clutchExpiry } } :=
  if_congr (State.switchesOpen_iff _) rfl rfl

/-- HOLDING (R160). -/
def State.held (s : State) : State := { s with
  es := s.freedB
  cc := { s.cc with state := .releasing, step := .holding, timer := some s.clutchExpiry,
                    drift := some (s.drum .b).paidOut, discrepancy := none } }

theorem State.beginRelease_eq : s.beginRelease =
    if s.lines.bBrakeApplied = false then s.held else s.held.beginOpening := by
  have h : s.beginRelease = if s.lines.bBrakeApplied = true then s.held.beginOpening else s.held := rfl
  rw [h]
  cases s.lines.bBrakeApplied <;> rfl

theorem State.beginClosing_eq : s.beginClosing =
    if s.lines.clutchClosed = true ∧ s.lines.clutchOpen = false then
      ({ s with es := s.freedB
                cc := { s.cc with state := .engaged, step := .none, timer := none, drift := none, discrepancy := none,
                                  switchFault := false } }).clutchEnds .engaged .released 1
    else { s with es := s.freedB
                  cc := { s.cc with state := .engaging, step := .closing, timer := some s.clutchExpiry } } :=
  if_congr ((State.switchesClosed_iff _).trans and_comm) rfl rfl

theorem State.hunt_beginRelease : s.hunt.beginRelease = s.beginRelease.hunt := by
  rw [State.beginRelease_eq, State.beginRelease_eq, State.beginOpening_eq, State.beginOpening_eq, apply_ite State.hunt,
    apply_ite State.hunt]
  rfl

theorem State.hunt_beginClosing : s.hunt.beginClosing = s.beginClosing.hunt := by
  rw [State.beginClosing_eq, State.beginClosing_eq, apply_ite State.hunt]
  rfl

theorem State.skipLight_eq_false :
    s.skipLight = false ↔ (s.convRec .b).kind = .skip ∧ (s.conv .b).loadClass = .rock := by
  simp [State.skipLight]

theorem State.aligned_iff : s.aligned = true ↔ s.alignment ≤ s.limits.alignTolerance ∨
    (s.limits.toothPitch : Int) - s.limits.alignTolerance ≤ s.alignment := by
  rw [State.aligned, Bool.or_eq_true, decide_eq_true_iff, decide_eq_true_iff]
end clutch

/-- Settles O54. -/
theorem clutchRequestsBeginTheirSequences : Obligations.ClutchRequestsBeginTheirSequences := by
  unfold Obligations.ClutchRequestsBeginTheirSequences
  intro e tag s hs s0 l check heavy length free timer ended release out valid r rise fall in_
  have hcheck (c : ClutchState) : s0.hunt.clutchRefusal c = check c := rfl
  have hout : s0.beginRelease = out := by
    rw [State.beginRelease_eq, State.beginOpening_eq]
    rfl
  have hin : s0.beginClosing = in_ := State.beginClosing_eq _
  refine ⟨?_, ?_⟩
  · have hheavy : s0.hunt.skipLight = false ↔ heavy := s.skipLight_eq_false
    rw [exec_served (rk := 0xAB) rfl hs, clutchOut, State.firstRefusal_clutchChecks, hcheck,
      firstRefusal_check hheavy, firstRefusal_nil, State.hunt_beginRelease, hout]
    cases check .engaged with
    | some c => rfl
    | none =>
      rw [Option.none_or]
      dsimp only
      split_ifs <;> rfl
  · have hvalid : ((s0.hunt.front .a).primary.valid && (s0.hunt.front .b).primary.valid) = false ↔ ¬ valid := by
      rw [← Bool.not_eq_true, Bool.and_eq_true]
      rfl
    have haligned : s0.hunt.aligned = true ↔
      r ≤ l.alignTolerance ∨ (l.toothPitch : Int) - l.alignTolerance ≤ r := s.aligned_iff
    rw [exec_served (rk := 0xAC) rfl hs, clutchIn, State.firstRefusal_clutchChecks, hcheck,
      firstRefusal_check hvalid, firstRefusal_nil, State.hunt_beginClosing, hin]
    cases check .released with
    | some c => rfl
    | none =>
      rw [Option.none_or]
      dsimp only
      rw [if_congr haligned rfl rfl]
      split_ifs <;> rfl

end Sys2Proof.Machine
end

section
/-! The ends of the clutch sequences (R161 to R166), and the tests of drift and discrepancy (R168 to R170): O55 and
O56. -/

namespace Sys2Proof.Machine

open Sys2Proof

/-! #### Drift and discrepancy -/

section tests
variable {s : State}

theorem State.takeClutch_of_engaged (h : s.cc.state = .engaged) : s.takeClutch = s.testDiscrepancy := if_pos h

theorem State.takeClutch_of_not_engaged (h : s.cc.state ≠ .engaged) : s.takeClutch = s.testDrift := if_neg h

theorem State.testDrift_of_none (h : s.cc.drift = none) : s.testDrift =
    if (s.front .b).primary.valid then { s with cc := { s.cc with drift := some (s.drum .b).paidOut } } else s := by
  rw [State.testDrift, h]
  rfl

theorem State.testDrift_some {b : Int} (h : s.cc.drift = some b) : s.testDrift =
    if s.limits.driftLimit < ((s.drum .b).paidOut - b).natAbs / 1000000 then
      { s with cc := { s.cc with drift := some (s.drum .b).paidOut } }.report
        { kind := .clutchDrift, subject := 0, item1 := (((s.drum .b).paidOut - b).natAbs / 1000000 : Nat),
          item2 := s.limits.driftLimit, item3 := 0 }
    else s := by
  rw [State.testDrift, h]
  rfl

theorem State.testDiscrepancy_of_invalid
    (h : (s.front .a).primary.valid = false ∨ (s.front .b).primary.valid = false) : s.testDiscrepancy = s := by
  refine if_neg fun hv => ?_
  rw [Bool.and_eq_true] at hv
  rcases h with h | h
  · exact Bool.false_ne_true (h.symm.trans hv.1)
  · exact Bool.false_ne_true (h.symm.trans hv.2)

theorem State.testDiscrepancy_of_none (ha : (s.front .a).primary.valid = true) (hb : (s.front .b).primary.valid = true)
    (h : s.cc.discrepancy = none) : s.testDiscrepancy =
      { s with cc := { s.cc with discrepancy := some ((s.drum .a).paidOut, (s.drum .b).paidOut) } } := by
  rw [State.testDiscrepancy, ha, hb, h]
  rfl

theorem State.testDiscrepancy_some {la lb : Int} (ha : (s.front .a).primary.valid = true)
    (hb : (s.front .b).primary.valid = true) (h : s.cc.discrepancy = some (la, lb)) : s.testDiscrepancy =
    if s.limits.discrepancyLimit < (((s.drum .a).paidOut - la) + ((s.drum .b).paidOut - lb)).natAbs / 1000000 then
      s.report { kind := .drumDiscrepancy, subject := 0,
                 item1 := ((((s.drum .a).paidOut - la) + ((s.drum .b).paidOut - lb)).natAbs / 1000000 : Nat),
                 item2 := s.limits.discrepancyLimit, item3 := ((s.drum .a).paidOut - la).tdiv 1000000 }
    else s := by
  rw [State.testDiscrepancy, ha, hb, h]
  rfl
end tests

/-- Settles O56. -/
theorem driftAndDiscrepancyAreTested : Obligations.DriftAndDiscrepancyAreTested := by
  unfold Obligations.DriftAndDiscrepancyAreTested
  intro s a b fresh validA validB
  refine ⟨fun hc => ⟨fun hd => ?_, fun b0 hd => ⟨fun hle => ?_, fun hlt => ?_⟩⟩,
    fun hc => ⟨fun hinvalid => ?_, fun ha hb => ⟨fun hd => ?_, fun a0 b0 hd => ⟨fun hle => ?_, fun hlt => ?_⟩⟩⟩⟩
  · exact (State.takeClutch_of_not_engaged hc).trans (State.testDrift_of_none hd)
  · rw [State.takeClutch_of_not_engaged hc, State.testDrift_some hd]
    exact if_neg (not_lt.mpr hle)
  · rw [State.takeClutch_of_not_engaged hc, State.testDrift_some hd]
    exact if_pos hlt
  · exact (State.takeClutch_of_engaged hc).trans (State.testDiscrepancy_of_invalid hinvalid)
  · exact (State.takeClutch_of_engaged hc).trans (State.testDiscrepancy_of_none ha hb hd)
  · rw [State.takeClutch_of_engaged hc, State.testDiscrepancy_some ha hb hd]
    exact if_neg (not_lt.mpr hle)
  · rw [State.takeClutch_of_engaged hc, State.testDiscrepancy_some ha hb hd]
    exact if_pos hlt

/-! #### The ends of the sequences -/

section ends
variable (s : State)

theorem State.clutchTimerIn_of (c : ClutchState) {n : Nat} (hc : s.cc.state = c) (ht : s.cc.timer = some n) :
    s.clutchTimerIn c = some n := (if_pos hc).trans ht

theorem State.clutchTimerIn_of_none (c : ClutchState) (h : s.cc.state ≠ c ∨ s.cc.timer = none) :
    s.clutchTimerIn c = none := by
  unfold State.clutchTimerIn
  split
  next hc => exact h.resolve_left fun hne => hne hc
  · rfl

theorem State.beginOpening_of_releasing (h : s.cc.state = .releasing) : s.beginOpening =
    if s.lines.clutchOpen = true ∧ s.lines.clutchClosed = false then s.releaseComplete
    else { s with es := s.freedB, cc := { s.cc with step := .opening, timer := some s.clutchExpiry } } := by
  rw [State.beginOpening_eq, ← h]

theorem State.onChange_eq_modLines {change : InputLines → InputLines} {act : State → State}
    (h : change s.lines ≠ s.lines → act (s.modLines change) = s.modLines change) :
    s.onChange change act = s.modLines change := by
  by_cases hsame : change s.lines = s.lines
  · rw [State.onChange_same _ _ _ hsame, State.modLines, hsame]
  · rw [State.onChange_changed _ _ _ hsame, h hsame]

/-- CLUTCH_CHANGED after a report: the report leaves the clutch and the drums as they are. -/
theorem State.raiseClutch_report (r : Report) (before : ClutchState) (outcome : Nat) :
    (s.report r).raiseClutch before outcome = (s.report r).raise .clutchChanged 0 (uword32 s.cc.state.code)
      (uword32 before.code) (uword32 outcome) (word32 ((s.drum .b).paidOut.tdiv 1000000)) := by
  have hdrum : (s.report r).drum .b = s.drum .b := by rw [State.drum, State.report_pm, State.drum]
  rw [State.raiseClutch, State.report_cc, hdrum]
  rfl

/-- CLUTCH_NOT_CONFIRMED, with the weight of B_BRAKE_APPLIED and the switches of some lines (R162, R171). -/
def unconfirmed (subject brake : Nat) (l : InputLines) : Report :=
  { kind := .clutchNotConfirmed, subject := subject,
    item1 := (brake + (if l.clutchOpen then 2 else 0) + (if l.clutchClosed then 4 else 0) : Nat),
    item2 := 0, item3 := 0 }

theorem State.notConfirmed_true (subject : Nat) :
    s.notConfirmed subject true = unconfirmed subject (if s.lines.bBrakeApplied then 1 else 0) s.lines := rfl

theorem State.notConfirmed_false (subject : Nat) : s.notConfirmed subject false = unconfirmed subject 0 s.lines := rfl

theorem State.superviseSwitches_eq (agree : Bool) (subject : Nat) : s.superviseSwitches agree subject =
    if agree then { s with cc := { s.cc with switchFault := false } }
    else if s.cc.switchFault = true then s
    else { s with cc := { s.cc with switchFault := true } }.report (unconfirmed subject 0 s.lines) := rfl

theorem State.releaseFail_eq {s t : State} (hcc : t.cc = s.cc) (hpm : t.pm = s.pm) : t.releaseFail =
    ({ t with cc := { s.cc with state := .engaged, step := .none, timer := none, drift := none, discrepancy := none,
                                switchFault := true } }.report
      (unconfirmed (if s.cc.step = ClutchStep.holding then 1 else 2) (if t.lines.bBrakeApplied then 1 else 0)
        t.lines)).raise .clutchChanged 0
      (uword32 ClutchState.engaged.code) (uword32 ClutchState.engaged.code) (uword32 2)
      (word32 ((s.drum .b).paidOut.tdiv 1000000)) := by
  have hdrum : t.drum .b = s.drum .b := by rw [State.drum, hpm, State.drum]
  rw [State.releaseFail, State.raiseClutch_report, ← hcc, ← hdrum, ← State.notConfirmed_true]
  rfl

theorem State.engageFail_eq {s t : State} (hcc : t.cc = s.cc) (hpm : t.pm = s.pm) (hes : t.es = s.es) :
    t.engageFail =
    ({ t with es := s.freedB
              cc := { s.cc with state := .released, step := .none, timer := none, switchFault := true } }.report
      (unconfirmed 3 0 t.lines)).raise .clutchChanged 0
      (uword32 ClutchState.released.code) (uword32 ClutchState.released.code) (uword32 2)
      (word32 ((s.drum .b).paidOut.tdiv 1000000)) := by
  have hdrum : t.drum .b = s.drum .b := by rw [State.drum, hpm, State.drum]
  rw [State.engageFail, State.raiseClutch_report, State.freedB, ← hcc, ← hdrum, ← hes, ← State.notConfirmed_false]
  rfl
theorem exec_clutchReleaseTimeout_of_running {e : Elapse} {n : Nat} (hc : s.cc.state = .releasing)
    (ht : s.cc.timer = some n) : exec (.clutchReleaseTimeout e) s = .next ((s.elapse e).reach n).releaseFail := by
  change execClutchReleaseTimeout e s = _
  rw [execClutchReleaseTimeout, State.clutchTimerIn_of (s.elapse e) .releasing hc ht]

theorem exec_clutchEngageTimeout_of_running {e : Elapse} {n : Nat} (hc : s.cc.state = .engaging)
    (ht : s.cc.timer = some n) : exec (.clutchEngageTimeout e) s = .next ((s.elapse e).reach n).engageFail := by
  change execClutchEngageTimeout e s = _
  rw [execClutchEngageTimeout, State.clutchTimerIn_of (s.elapse e) .engaging hc ht]
end ends

section fullEnds
variable {s : State} {e : Elapse} {n : Nat}

theorem exec_bBrakeApplied_of_not_holding
    (h : ¬ (s.cc.state = .releasing ∧ s.cc.step = .holding ∧ (s.elapse e).lines.bBrakeApplied = false)) :
    exec (.bBrakeAppliedAsserted e) s = .next ((s.elapse e).modLines fun l => { l with bBrakeApplied := true }) := by
  refine congrArg Host.Outcome.next (State.onChange_eq_modLines _ fun hchange => if_neg fun hc => h ⟨hc.1, hc.2, ?_⟩)
  rw [← Bool.not_eq_true]
  exact fun hb => hchange ((InputLines.bBrakeApplied_same _).mpr hb)

theorem exec_bBrakeApplied_of_holding
    (h : s.cc.state = .releasing ∧ s.cc.step = .holding ∧ (s.elapse e).lines.bBrakeApplied = false) :
    exec (.bBrakeAppliedAsserted e) s =
      .next ((s.elapse e).modLines fun l => { l with bBrakeApplied := true }).beginOpening := by
  obtain ⟨hstate, hstep, hline⟩ := h
  have hchange : ({ (s.elapse e).lines with bBrakeApplied := true } : InputLines) ≠ (s.elapse e).lines := fun h =>
    Bool.false_ne_true (hline.symm.trans ((InputLines.bBrakeApplied_same _).mp h))
  exact congrArg Host.Outcome.next ((State.onChange_changed _ _ _ hchange).trans (if_pos ⟨hstate, hstep⟩))

theorem exec_clutchSwitchChange_of_same {opened closed : Bool}
    (h : s.cc.read = false ∨ (opened = (s.elapse e).lines.clutchOpen ∧ closed = (s.elapse e).lines.clutchClosed)) :
    exec (.clutchSwitchChange e opened closed) s =
      .next ((s.elapse e).modLines fun l => { l with clutchOpen := opened, clutchClosed := closed }) := by
  refine congrArg Host.Outcome.next (State.onChange_eq_modLines _ fun hchange => if_neg fun hread => ?_)
  rcases h with hnot | hsame
  · exact Bool.false_ne_true (hnot.symm.trans hread)
  · exact hchange ((InputLines.clutch_same _ _ _).mpr ⟨hsame.1.symm, hsame.2.symm⟩)

theorem exec_clutchSwitchChange_of_read {opened closed : Bool} (hr : s.cc.read = true)
    (h : ¬ (opened = (s.elapse e).lines.clutchOpen ∧ closed = (s.elapse e).lines.clutchClosed)) :
    exec (.clutchSwitchChange e opened closed) s =
      .next ((s.elapse e).modLines fun l => { l with clutchOpen := opened, clutchClosed := closed }).switchChange := by
  have hchange : ({ (s.elapse e).lines with clutchOpen := opened, clutchClosed := closed } : InputLines) ≠
      (s.elapse e).lines := fun hc => h (((InputLines.clutch_same _ _ _).mp hc).imp Eq.symm Eq.symm)
  exact congrArg Host.Outcome.next ((State.onChange_changed _ _ _ hchange).trans (if_pos hr))

theorem exec_clutchReleaseTimeout_of_not_running (h : s.cc.state ≠ .releasing ∨ s.cc.timer = none) :
    exec (.clutchReleaseTimeout e) s = .next (s.elapse e) := by
  have hnone : (s.elapse e).clutchTimerIn .releasing = none := State.clutchTimerIn_of_none _ _ h
  change execClutchReleaseTimeout e s = _
  rw [execClutchReleaseTimeout, hnone]

theorem exec_clutchEngageTimeout_of_not_running (h : s.cc.state ≠ .engaging ∨ s.cc.timer = none) :
    exec (.clutchEngageTimeout e) s = .next (s.elapse e) := by
  have hnone : (s.elapse e).clutchTimerIn .engaging = none := State.clutchTimerIn_of_none _ _ h
  change execClutchEngageTimeout e s = _
  rw [execClutchEngageTimeout, hnone]

/-- What a change of the switches does in each clutch state (R161, R164, R166). -/
theorem State.switchChange_eq (t : State) : t.switchChange =
    match t.cc.state with
    | .engaged => t.superviseSwitches t.switchesClosed 4
    | .released => t.superviseSwitches t.switchesOpen 5
    | .releasing => if t.cc.step = .opening ∧ t.switchesOpen then t.releaseComplete else t
    | .engaging => if t.switchesClosed then t.engageComplete else t := rfl
end fullEnds

/-- Settles O55. -/
theorem clutchSequencesEnd : Obligations.ClutchSequencesEnd := by
  unfold Obligations.ClutchSequencesEnd
  intro e opened closed time s s0 braked moved length free changed open_ shut released engaged unconfirmed' disagree
    holding same agree
  dsimp -proj -iota only
  have hcc : (s0.reach time).cc = s.cc := (State.reach_cc s0 time).trans (State.elapse_cc s e)
  have hpm : (s0.reach time).pm = s.pm := (State.reach_pm s0 time).trans (State.elapse_pm s e)
  have hes : (s0.reach time).es = s.es := (State.reach_es s0 time).trans (State.elapse_es s e)
  refine ⟨exec_bBrakeApplied_of_not_holding, fun hh => ?_, exec_clutchSwitchChange_of_same, fun hr hs => ?_,
    fun hc ht => ?_, exec_clutchReleaseTimeout_of_not_running, fun hc ht => ?_,
    exec_clutchEngageTimeout_of_not_running⟩
  · exact (exec_bBrakeApplied_of_holding hh).trans
      (congrArg Host.Outcome.next (State.beginOpening_of_releasing braked hh.1))
  · refine (exec_clutchSwitchChange_of_read hr hs).trans (congrArg Host.Outcome.next ?_)
    have hshut : moved.switchesClosed = true ↔ shut := (State.switchesClosed_iff _).trans and_comm
    have hopen : moved.switchesOpen = true ↔ open_ := State.switchesOpen_iff _
    have hcc : moved.cc.state = s.cc.state := rfl
    refine moved.switchChange_eq.trans ?_
    rw [hcc]
    cases s.cc.state with
    | engaged => exact (moved.superviseSwitches_eq ..).trans (if_congr hshut rfl rfl)
    | released => exact (moved.superviseSwitches_eq ..).trans (if_congr hopen rfl rfl)
    | releasing => exact if_congr (and_congr_right fun _ => hopen) moved.releaseComplete_eq rfl
    | engaging => exact if_congr hshut moved.engageComplete_eq rfl
  · exact (exec_clutchReleaseTimeout_of_running s hc ht).trans
      (congrArg Host.Outcome.next (State.releaseFail_eq (t := s0.reach time) hcc hpm))
  · exact (exec_clutchEngageTimeout_of_running s hc ht).trans
      (congrArg Host.Outcome.next (State.engageFail_eq (t := s0.reach time) hcc hpm hes))

end Sys2Proof.Machine
end

section
/-! Events and changes of state (R118, R200, R203), reports and their responses (R174 to R185), and the ends of trips
(R62 to R65): O46, O47, O48 and O49. -/

namespace Sys2Proof.Machine

open Sys2Proof

/-! #### A report in steps -/

section report
variable (s : State) (r : Report)

theorem State.activeId_eq : s.activeId = (s.activeHead.map TripRecord.id).getD 0 := rfl

theorem State.place_eq : s.fm.place =
    if s.fm.first = none then 0 else if s.fm.later.length < 15 then s.fm.later.length + 1 else 255 := by
  unfold FaultManager.place
  cases s.fm.first <;> rfl

theorem State.log_of_none (v : Severity) (h : s.fm.first = none) :
    s.log r v = { s with fm := { s.fm with first := some (s.firstFaultOf r v) } } := by
  simp only [State.log, State.modFm, h]

theorem State.log_of_some (v : Severity) (h : s.fm.first ≠ none) :
    s.log r v = { s with fm := { s.fm with
      later := if s.fm.later.length < 15 then s.fm.later ++ [s.laterFaultOf r v] else s.fm.later } } := by
  obtain ⟨f, hf⟩ := Option.ne_none_iff_exists'.mp h
  have hcap : Config.laterCapacity = 15 := rfl
  simp only [State.log, State.modFm, hf, hcap]
  split
  · rfl
  · rw [← hf]

theorem State.log_eq (v : Severity) : s.log r v = { s with fm := { s.fm with
    first := if s.fm.first = none then some (s.firstFaultOf r v) else s.fm.first
    later := if s.fm.first ≠ none ∧ s.fm.later.length < 15 then s.fm.later ++ [s.laterFaultOf r v]
      else s.fm.later } } := by
  by_cases h : s.fm.first = none
  · rw [State.log_of_none s r v h, if_pos h, if_neg fun hc => hc.1 h]
  · rw [State.log_of_some s r v h, if_neg h, if_congr (and_iff_right h) rfl rfl]
end report

/-- Settles O46. -/
theorem reportIsTakenInSteps : Obligations.ReportIsTakenInSteps := by
  unfold Obligations.ReportIsTakenInSteps
  intro r s k v trip counted place guide item head first later logged
  refine ⟨fun hp => if_pos hp, fun hp => ?_⟩
  have hplace : s.fm.place = place := s.place_eq
  have hlogged : ((s.countReport k).setPending k true).log r v = logged := State.log_eq _ r v
  rw [State.report_eq, if_neg (by rw [hp]; exact Bool.false_ne_true)]
  rw [State.taken, hplace]
  change State.respond k v (State.raise _ _ _ _ _ _ (((s.countReport k).setPending k true).log r v)) = _
  rw [hlogged]
  rfl

/-! #### Events and changes of state -/

section events
variable (s : State)

theorem Cause.word_eq (c : Cause) : c.word = match c with
    | .sequence => 0
    | .request kind => packBytes kind 1 0 0
    | .fault k => packBytes k.code 2 0 0 := by cases c <;> rfl

theorem State.raise_eq (k : EventKind) (trip : Nat) (v1 v2 v3 v4 : Word32) :
    s.raise k trip v1 v2 v3 v4 = { s with link := { s.link with
      events := (if ¬ s.link.events.length < 32 then s.link.events.tail else s.link.events) ++
        [{ kind := k, trip := trip, time := s.unitTime, v1 := v1, v2 := v2, v3 := v3, v4 := v4 }]
      overrun := s.link.overrun || decide (¬ s.link.events.length < 32)
      pulse := if s.limits.attnMode = AttnMode.pulse ∧ s.te.winder ≠ WinderState.checking then
          some ((s.clock + 1000) % Config.clockPeriod)
        else s.link.pulse } } := by
  rw [State.raise, ite_not, ← List.drop_one, decide_not]
  rfl

theorem State.setCertainty_of_held {c : Conv} {n : Certainty} (h : (s.conv c).certainty = n) (y : CertaintyCause) :
    s.setCertainty c n y = s := if_pos h

theorem State.enter_eq (w : WinderState) (y : Cause) (n : Nat) : s.enter w y n = State.raise .stateChanged n
    (uword32 w.code) (uword32 s.te.winder.code) (uword32 (Executive.detail { s.te with winder := w })) y.word { s with
      te := { s.te with winder := w }
      es := if w = .winding ∨ w = .stopping then
          { s.es with motion := ⟨none, none⟩, follow := if w = .winding then s.es.follow else none }
        else
          { s.es with env := 0, margin := 0, tier1 := 0, tier2 := 0, follow := none
                      legStart := none, progress := 0 }
      rg := if w = .winding ∨ w = .stopping then s.rg else { s.rg with label := .none }
      fm := { s.fm with inForce := if w = .idle ∨ w = .stoodDown then none else s.fm.inForce } } := by
  cases w <;> rfl

theorem Executive.detail_with (t : Executive) (w : WinderState) : Executive.detail { t with winder := w } =
    match w with
    | .preparing => t.phase.code
    | .dwell => t.dwell.code
    | .stopping => t.stopReason.code
    | _ => 0 := by
  cases w <;> rfl
/-- The winder in PREPARING at a phase, before SHAFT_STOP is looked at (R125). -/
def State.preparingAt (s : State) (phase : Phase) (cause : Cause) : State :=
  ({ s with te := { s.te with phase := phase } }).enter .preparing cause s.activeId

theorem State.enterPreparing_eq (phase : Phase) (cause : Cause) : s.enterPreparing phase cause =
    let u := s.preparingAt phase cause
    let v := if s.lines.shaftStop then u.report (bare .shaftStopSignal 0) else u
    if v.te.winder = .preparing then if phase = .signal then v.enterSignal else v.gatesTest else v := rfl

section preparing
variable (phase : Phase) (cause : Cause)

theorem State.enterPreparing_signal (hs : s.lines.shaftStop = false) (hp : phase = .signal) :
    s.enterPreparing phase cause = (s.preparingAt phase cause).enterSignal := by
  rw [State.enterPreparing_eq, hs]
  exact (if_pos rfl).trans (if_pos hp)

theorem State.enterPreparing_later (hs : s.lines.shaftStop = false) (hp : phase ≠ .signal) :
    s.enterPreparing phase cause = (s.preparingAt phase cause).gatesTest := by
  rw [State.enterPreparing_eq, hs]
  exact (if_pos rfl).trans (if_neg hp)

theorem State.enterPreparing_stopped (hs : s.lines.shaftStop = true)
    (hw : ((s.preparingAt phase cause).report (bare .shaftStopSignal 0)).te.winder ≠ .preparing) :
    s.enterPreparing phase cause = (s.preparingAt phase cause).report (bare .shaftStopSignal 0) := by
  rw [State.enterPreparing_eq, hs]
  exact if_neg hw

theorem State.enterPreparing_reported (hs : s.lines.shaftStop = true)
    (hw : ((s.preparingAt phase cause).report (bare .shaftStopSignal 0)).te.winder = .preparing) :
    s.enterPreparing phase cause =
      let v := (s.preparingAt phase cause).report (bare .shaftStopSignal 0)
      if phase = .signal then v.enterSignal else v.gatesTest := by
  rw [State.enterPreparing_eq, hs]
  exact if_pos hw
end preparing
end events

/-- Settles O48. -/
theorem eventsAndStateChanges : Obligations.EventsAndStateChanges := by
  unfold Obligations.EventsAndStateChanges
  refine ⟨fun k trip v1 v2 v3 v4 s => s.raise_eq k trip v1 v2 v3 v4, fun w cause trip s => ?_,
    fun c new cause s => ⟨fun h => State.setCertainty_of_held s h cause, fun h => ?_⟩, fun phase cause s => ?_⟩
  · rw [State.enter_eq, Executive.detail_with, Cause.word_eq] <;> rfl
  · cases cause <;> exact if_neg h
  · exact ⟨rfl, fun hs hp => State.enterPreparing_signal s phase cause hs hp,
      fun hs hp => State.enterPreparing_later s phase cause hs hp,
      fun hs hw => State.enterPreparing_stopped s phase cause hs hw,
      fun hs hw => State.enterPreparing_reported s phase cause hs hw⟩

/-! #### The ends of trips -/

section ends
variable (s : State)

theorem State.discardQueue_of_nil (h : s.tq = []) : s.discardQueue = s := by
  have hq : s.discardQueue = { s with tq := [] } := by
    rw [State.discardQueue, h]
    rfl
  rw [hq, ← h]

/-- The events of a discarded queue do not depend on the queue. -/
theorem foldl_raiseEnded_modTq (l : List TripRecord) :
    (l.foldl (fun s r => s.raiseEnded 3 r r.body.remaining) s).modTq (fun _ => []) =
      l.foldl (fun s r => s.raiseEnded 3 r r.body.remaining) (s.modTq fun _ => []) := by
  induction l generalizing s with
  | nil => rfl
  | cons r l ih => exact ih _

theorem State.discardQueue_eq : s.discardQueue =
    s.tq.foldl (fun s r => s.raiseEnded 3 r r.body.remaining) (s.modTq fun _ => []) :=
  foldl_raiseEnded_modTq s s.tq

variable {s} {r : TripRecord} {rest : List TripRecord}

theorem State.activeHead_of_active (htq : s.tq = r :: rest) (ha : r.active = true) : s.activeHead = some r := by
  rw [State.activeHead, htq]
  exact if_pos ha

theorem State.activeHead_of_not_active (htq : s.tq = r :: rest) (ha : r.active = false) : s.activeHead = none := by
  rw [State.activeHead, htq]
  exact if_neg (by rw [ha]; exact Bool.false_ne_true)

theorem State.interrupt_of_some (h : s.activeHead = some r) : s.interrupt =
    ((((s.raise .tripInterrupted r.id (uword32 s.te.winder.code) (uword32 r.body.legCode)
        (uword32 r.body.remaining) (word32 (s.conv r.body.guide).depth)).modHead
      fun h => { h with active := false, interrupted := true }).discardPlan)).modTe Executive.clearTrip := by
  rw [State.interrupt, h]

theorem State.complete_of_some (h : s.activeHead = some r) : s.complete =
    (((s.modTq List.tail).raiseEnded 1 r 0).discardPlan).modTe Executive.clearTrip := by
  rw [State.complete, h]

theorem State.interrupt_of_none (h : s.activeHead = none) : s.interrupt = s := by rw [State.interrupt, h]

theorem State.complete_of_none (h : s.activeHead = none) : s.complete = s := by rw [State.complete, h]

theorem State.modHead_of_cons (htq : s.tq = r :: rest) (f : TripRecord → TripRecord) :
    s.modHead f = { s with tq := f r :: rest } := by
  rw [State.modHead, State.modTq, htq]
end ends

/-- Settles O49. -/
theorem tripsEndByTheirRules : Obligations.TripsEndByTheirRules := by
  unfold Obligations.TripsEndByTheirRules
  refine ⟨State.discardQueue_of_nil, fun s r rest htq => ?_⟩
  intro dropped depth
  refine ⟨fun ha => ⟨?_, ?_⟩, fun ha => ?_, ?_⟩
  · rw [State.interrupt_of_some (State.activeHead_of_active htq ha), State.modHead_of_cons
      (s := s.raise .tripInterrupted r.id (uword32 s.te.winder.code) (uword32 r.body.legCode)
        (uword32 r.body.remaining) (word32 (s.conv r.body.guide).depth)) htq]
    rfl
  · rw [State.complete_of_some (State.activeHead_of_active htq ha), State.modTq, htq]
    rfl
  · have hnone := State.activeHead_of_not_active htq ha
    exact ⟨State.interrupt_of_none hnone, State.complete_of_none hnone⟩
  · have hright : { ({ s with tq := rest }.raise .tripEnded r.id (uword32 3) (uword32 r.body.typeCode)
          (uword32 r.body.remaining) depth).discardQueue with tq := [] } =
        rest.foldl (fun s r => s.raiseEnded 3 r r.body.remaining)
          ((s.modTq fun _ => []).raiseEnded 3 r r.body.remaining) := by
      rw [State.discardQueue_eq]
      exact foldl_raiseEnded_modTq _ rest
    rw [State.discardQueue_eq, htq, hright]
    rfl

end Sys2Proof.Machine
end

section
/-! The response to a report (R139, R141, R142, R179 to R182): O47. -/

namespace Sys2Proof.Machine

open Sys2Proof

/-! #### What the emergency and the lockout response share -/

section halt
variable {s : State}

/-- The reference at 0 with an out-of-turn message, and the sequences halted (R81, R141 steps 1 to 3). -/
def State.silenced (s : State) : State :=
  ((s.modRg fun r => { r with refPrev := 0, label := .none }).sendDrive 0 false).modTe Executive.halt

/-- What a halt and the change of state after it leave of a state (R81, R141, R142). -/
def State.haltedTo (s t : State) : Prop :=
  t.te.rest = .none ∧ t.te.deferred = .none ∧ t.te.heldStart = false ∧ t.te.readiness = none ∧ t.te.brake = none ∧
    t.te.dwellTimer = none ∧ t.fm = { s.fm with stopOrder := false } ∧ t.rg.refPrev = 0 ∧ t.rg.label = .none ∧
    t.rg.refSent = 0 ∧ t.rg.sent = s.rg.sent ++ [{ seq := s.rg.seq, ref := 0, run := false }] ∧ t.es.refInForce = 0 ∧
    (∀ r rest, s.tq = r :: rest → r.active = true →
      t.tq = { r with active := false, interrupted := true } :: rest ∧ t.rg.plan = none) ∧
    (s.activeHead = none → t.tq = s.tq ∧ t.rg.plan = s.rg.plan ∧ t.wt = s.wt)

theorem sent_zero (c : Conv) (x : Byte) :
    ({ seq := x, ref := if c = .a then 0 else -0, run := false } : DriveMessage) =
      { seq := x, ref := 0, run := false } := by
  rw [neg_zero, ite_self]

theorem State.haltedTo_halt (s : State) : s.haltedTo s.halt := by
  cases hhead : s.activeHead with
  | none =>
    rw [State.halt_of_no_trip hhead]
    refine ⟨rfl, rfl, rfl, rfl, rfl, rfl, rfl, rfl, rfl, rfl, ?_, rfl, fun r rest htq ha => ?_,
      fun _ => ⟨rfl, rfl, rfl⟩⟩
    · exact congrArg (fun m => s.rg.sent ++ [m]) (sent_zero s.rg.guide s.rg.seq)
    · rw [State.activeHead_of_active htq ha] at hhead
      cases hhead
  | some r =>
    obtain ⟨hactive, rest, htq⟩ := State.tq_of_activeHead hhead
    have hhalt : s.halt = s.silenced.interrupt.setStopOrder false := rfl
    have hhead' : s.silenced.activeHead = some r := hhead
    rw [hhalt, State.interrupt_of_some hhead', State.modHead_of_cons (s := s.silenced.raise .tripInterrupted r.id
      (uword32 s.silenced.te.winder.code) (uword32 r.body.legCode) (uword32 r.body.remaining)
      (word32 (s.silenced.conv r.body.guide).depth)) htq]
    refine ⟨rfl, rfl, rfl, rfl, rfl, rfl, rfl, rfl, rfl, rfl, ?_, rfl, fun r' rest' htq' ha => ?_, fun h => ?_⟩
    · exact congrArg (fun m => s.rg.sent ++ [m]) (sent_zero s.rg.guide s.rg.seq)
    · obtain ⟨rfl, rfl⟩ := List.cons.inj (htq.symm.trans htq')
      exact ⟨rfl, rfl⟩
    · rw [hhead] at h
      cases h

/-- A halt, then TRIPPED or LOCKED_OUT. -/
theorem State.haltedTo.enter {t : State} (h : s.haltedTo t) {w : WinderState} (hw : w = .tripped ∨ w = .lockedOut)
    (y : Cause) (n : Nat) : s.haltedTo (t.enter w y n) := by
  rcases hw with rfl | rfl <;>
  · obtain ⟨hrest, hdef, hheld, hready, hbrake, hdwell, hfm, href, -, hsent, hmsg, hforce, hactive, hidle⟩ := h
    exact ⟨hrest, hdef, hheld, hready, hbrake, hdwell, hfm, href, rfl, hsent, hmsg, hforce, hactive, hidle⟩
theorem State.haltedTo.modReturn {t : State} (h : s.haltedTo t) (ret : ServiceReturn) :
    s.haltedTo (t.modTe fun x => { x with serviceReturn := ret }) := h

/-- What a response that ends in TRIPPED or LOCKED_OUT leaves (R141, R142). -/
def State.respondedTo (s : State) (w : WinderState) (t : State) : Prop :=
  t.te.winder = w ∧ t.es.env = 0 ∧ t.es.follow = none ∧ s.haltedTo t

theorem State.respondedTo_enter {t : State} (h : s.haltedTo t) {w : WinderState} (hw : w = .tripped ∨ w = .lockedOut)
    (y : Cause) (n : Nat) : s.respondedTo w (t.enter w y n) := by
  refine ⟨rfl, ?_, ?_, h.enter hw y n⟩ <;> rcases hw with rfl | rfl <;> rfl

theorem State.respondedTo_trip (s : State) (ret : ServiceReturn) (k : FaultKind) :
    s.respondedTo .tripped (s.trip ret k) := State.respondedTo_enter (s.haltedTo_halt.modReturn ret) (.inl rfl) _ _

theorem State.respondedTo_lock (s : State) (k : FaultKind) : s.respondedTo .lockedOut (s.lock k) :=
  State.respondedTo_enter s.haltedTo_halt (.inr rfl) _ _
end halt

/-! #### The orders -/

section order
variable (s : State) (k : FaultKind)

theorem State.emergency_eq (hc : s.te.winder ≠ .checking) (ht : s.te.winder ≠ .tripped)
    (hl : s.te.winder ≠ .lockedOut) :
    s.emergency k = s.trip (if s.te.winder = .stoodDown then .stoodDown else .idle) k := by
  unfold State.emergency
  cases hw : s.te.winder <;> first | rfl | (exfalso; simp_all)

theorem State.lockout_eq (hc : s.te.winder ≠ .checking) (hl : s.te.winder ≠ .lockedOut) :
    s.lockout k = s.lock k := by
  unfold State.lockout
  cases hw : s.te.winder <;> first | rfl | (exfalso; simp_all)

theorem State.emergency_of_taken (h : s.te.winder = .tripped ∨ s.te.winder = .lockedOut) : s.emergency k = s := by
  unfold State.emergency
  rcases h with h | h <;> rw [h]

theorem State.lockout_of_lockedOut (h : s.te.winder = .lockedOut) : s.lockout k = s := by
  unfold State.lockout
  rw [h]

/-- What the beginning of a controlled stop leaves of each block (R139). -/
theorem State.beginStopping_frame (r : StopReason) (i : Option Nat) (y : Cause) :
    (s.beginStopping r i y).te = { s.te with winder := .stopping, stopReason := r, stopWatch := i, rest := .none } ∧
      (s.beginStopping r i y).fm = s.fm ∧ (s.beginStopping r i y).tq = s.tq ∧ (s.beginStopping r i y).rg = s.rg ∧
      (s.beginStopping r i y).wt = s.wt ∧
      (s.beginStopping r i y).es = { s.es with motion := ⟨none, none⟩, follow := none } := by
  rw [State.beginStopping, State.enter_eq]
  refine ⟨rfl, rfl, rfl, rfl, rfl, rfl⟩

theorem severity_le_one : ∀ v : Severity, v ≤ 1 → v = 0 ∨ v = 1 := by decide

theorem exceeds_iff (v : Severity) (o : Option Severity) : exceeds v o = true ↔ ∀ f, o = some f → f < v := by
  cases o with
  | none => simp [exceeds]
  | some w => simp [exceeds]

theorem State.respond_of_not_higher {v : Severity}
    (h : s.te.winder = .checking ∨ ¬ ∀ f, s.fm.inForce = some f → f < v) : s.respond k v = s := by
  rw [← exceeds_iff, Bool.not_eq_true] at h
  refine if_pos (h.imp_right fun hx => ?_)
  rw [hx]
  rfl

theorem State.respond_of_higher {v : Severity} (hw : s.te.winder ≠ .checking)
    (h : ∀ f, s.fm.inForce = some f → f < v) : s.respond k v = (s.setInForce v).order k v := by
  rw [← exceeds_iff] at h
  refine if_neg fun hc => ?_
  rw [h] at hc
  exact hc.elim hw Bool.false_ne_true

theorem State.setInForce_of_resting {v : Severity} (hv : v ≤ 1) (hw : s.te.winder = .stoodDown ∨ s.te.winder = .idle) :
    s.setInForce v = s := if_pos ⟨hv, hw⟩

theorem State.setInForce_of {v : Severity} (h : ¬ v ≤ 1 ∨ (s.te.winder ≠ .stoodDown ∧ s.te.winder ≠ .idle)) :
    s.setInForce v = { s with fm := { s.fm with inForce := some v } } :=
  if_neg fun ⟨hv, hw⟩ => h.elim (fun hn => hn hv) fun ⟨hd, hi⟩ => hw.elim hd hi

theorem State.controlledStop_of_still (hw : s.te.winder = .stoodDown ∨ s.te.winder = .idle ∨ s.te.winder = .tripped ∨
    s.te.winder = .lockedOut) : s.controlledStop k = s := by
  unfold State.controlledStop
  rcases hw with hw | hw | hw | hw <;> rw [hw]

theorem State.controlledStop_of_ready (hw : s.te.winder = .preparing ∨ s.te.winder = .prepared ∨ s.te.winder = .held ∨
    s.te.winder = .dwell) : s.controlledStop k = s.toIdle (.fault k) := by
  unfold State.controlledStop
  rcases hw with hw | hw | hw | hw <;> rw [hw] <;> rfl

theorem State.controlledStop_of_winding (hw : s.te.winder = .winding) : s.controlledStop k =
    if s.te.rest = .none then (s.beginStopping .fault none (.fault k)).setStopOrder true
    else (s.modTe fun t => { t with deferred := .fault }).setStopOrder true := by
  unfold State.controlledStop
  rw [hw]

theorem State.controlledStop_of_stopping (hw : s.te.winder = .stopping) : s.controlledStop k =
    (s.modTe fun t => { t with stopReason := if t.stopReason = .watch then .fault else t.stopReason }).setStopOrder
      true := by
  unfold State.controlledStop
  rw [hw]
end order

/-- Settles O47. -/
theorem responseBySeverityAndState : Obligations.ResponseBySeverityAndState := by
  unfold Obligations.ResponseBySeverityAndState
  intro k v s t w higher
  refine ⟨fun h => s.respond_of_not_higher k h, fun hw hh => ?_⟩
  have ht : t = (s.setInForce v).order k v := s.respond_of_higher k hw hh
  have hset (h : ¬ v ≤ 1 ∨ (s.te.winder ≠ .stoodDown ∧ s.te.winder ≠ .idle)) :
      s.setInForce v = { s with fm := { s.fm with inForce := some v } } := s.setInForce_of h
  refine ⟨fun hv hr => ?_, fun hv hd hi => ?_, fun hv hr => ?_, fun hv hr => ?_, fun hv hr hrest => ?_,
    fun hv hr hrest => ?_, fun hv hr => ?_, fun hv hr => ?_, fun hv hr => ?_, fun hv => ?_, State.respond_ds ..,
    State.respond_efe .., State.respond_pm .., State.respond_cc .., State.respond_lines .., State.respond_clock ..,
    State.respond_pending ..⟩
  · have hv01 : v = 0 ∨ v = 1 := severity_le_one v hv
    rw [ht, State.setInForce_of_resting s hv hr]
    rcases hv01 with rfl | rfl
    · rfl
    · exact State.controlledStop_of_still s k (hr.imp_right .inl)
  · rw [ht, hset (.inr ⟨hd, hi⟩), hv]
    rfl
  · rw [ht, hset (.inr (by rcases hr with hr | hr <;> simp [w] at hr <;> simp [hr])), hv]
    exact State.controlledStop_of_still _ k (.inr (.inr hr))
  · rw [ht, hset (.inr (by rcases hr with hr | hr | hr | hr <;> simp [w] at hr <;> simp [hr])), hv]
    exact State.controlledStop_of_ready _ k hr
  · rw [ht, hset (.inr (by simp [w] at hr; simp [hr])), hv]
    have hte (x : Executive) (hx : x.rest = .none) :
        { x with winder := .stopping, stopReason := .fault, stopWatch := none, rest := .none } =
          ({ x with winder := .stopping, stopReason := .fault, stopWatch := none } : Executive) := by rw [← hx]
    have hstop := (State.controlledStop_of_winding { s with fm := { s.fm with inForce := some 1 } } k hr).trans
      (if_pos hrest)
    change State.order k 1 { s with fm := { s.fm with inForce := some 1 } } = _ at hstop
    rw [hstop]
    obtain ⟨bte, bfm, btq, brg, bwt, bes⟩ := State.beginStopping_frame
      { s with fm := { s.fm with inForce := some 1 } } .fault none (.fault k)
    exact ⟨bte.trans (hte s.te hrest), congrArg (fun f : FaultManager => { f with stopOrder := true }) bfm, btq, brg,
      bwt, bes⟩
  · rw [ht, hset (.inr (by simp [w] at hr; simp [hr])), hv]
    exact (State.controlledStop_of_winding { s with fm := { s.fm with inForce := some 1 } } k hr).trans (if_neg hrest)
  · rw [ht, hset (.inr (by simp [w] at hr; simp [hr])), hv]
    exact State.controlledStop_of_stopping { s with fm := { s.fm with inForce := some 1 } } k hr
  · rw [ht, hset (.inl (by rw [hv]; decide)), hv]
    refine State.emergency_of_taken _ k hr
  · rw [ht, hset (.inl (by rw [hv]; decide)), hv]
    exact State.lockout_of_lockedOut _ k hr
  · have hgrave : ¬ v ≤ 1 := by rcases hv with ⟨rfl, -⟩ | ⟨rfl, -⟩ <;> decide
    rw [ht, hset (.inl hgrave)]
    have hresponded : State.respondedTo { s with fm := { s.fm with inForce := some v } }
        (if v = 2 then .tripped else .lockedOut) (State.order k v { s with fm := { s.fm with inForce := some v } }) ∧
        (v = 2 → (State.order k v { s with fm := { s.fm with inForce := some v } }).te.serviceReturn =
          if w = .stoodDown then .stoodDown else .idle) := by
      rcases hv with ⟨rfl, htr, hlk⟩ | ⟨rfl, hlk⟩
      · change State.respondedTo _ _ (State.emergency k _) ∧ (_ → (State.emergency k _).te.serviceReturn = _)
        rw [State.emergency_eq { s with fm := { s.fm with inForce := some 2 } } k hw htr hlk]
        exact ⟨State.respondedTo_trip _ _ k, fun _ => rfl⟩
      · change State.respondedTo _ _ (State.lockout k _) ∧ _
        rw [State.lockout_eq { s with fm := { s.fm with inForce := some 3 } } k hw hlk]
        exact ⟨State.respondedTo_lock _ k, fun h => absurd h (by decide)⟩
    obtain ⟨⟨hwinder, henv, hfollow, hrest, hdef, hheld, hready, hbrake, hdwell, hfm, href, hlabel, hsent, hmsg, hforce,
      hactive, hidle⟩, hreturn⟩ := hresponded
    exact ⟨hwinder, hreturn, hrest, hdef, hheld, hready, hbrake, hdwell, hfm, href, hlabel, hsent, hmsg, hforce, henv,
      hfollow, hactive, hidle⟩

end Sys2Proof.Machine
end

section
/-! The readiness sequence (R124 to R128), the dwell and brake timers (R130, R135), and the lines and deadlines that are
reported (R99, R101, R137, R138, R178): O40, O41 and O50. -/

namespace Sys2Proof.Machine

open Sys2Proof

/-! #### The gates -/

section gates
variable (s : State) (g : Fin 16)

theorem State.gateClosed_eq : s.gateClosed g = s.lines.gates[g.val] := by
  simp [State.gateClosed]

theorem State.gateSupervised_iff : s.gateSupervised g = true ↔
    ∃ i l, s.level i = some l ∧ l.inService = true ∧ l.gate = some g := by
  rw [State.gateSupervised, tableEntries_any]
  simp only [Bool.and_eq_true, decide_eq_true_iff]
  rfl

/-- A supervised gate line that is open (R125). -/
def State.gateOpen (s : State) (g : Fin 16) : Prop :=
  (∃ i l, s.level i = some l ∧ l.inService = true ∧ l.gate = some g) ∧ s.lines.gates[g.val] = false

theorem State.gateOpen_iff : (s.gateSupervised g && !s.gateClosed g) = true ↔ s.gateOpen g := by
  rw [Bool.and_eq_true, Bool.not_eq_true', State.gateSupervised_iff, State.gateClosed_eq, State.gateOpen]

theorem finRange_find?_eq_some {n : Nat} {p : Fin n → Bool} {x : Fin n} (hx : p x = true)
    (hmin : ∀ y, p y = true → x ≤ y) :
    (List.finRange n).find? p = some x := by
  rw [List.find?_eq_some_iff_getElem]
  refine ⟨hx, x.val, by simp, by simp, fun j hj => ?_⟩
  rw [Bool.not_eq_true', ← Bool.not_eq_true]
  intro hp
  have hle := Fin.le_def.mp (hmin _ hp)
  simp at hle
  omega

theorem State.openGate_eq_some (hg : s.gateOpen g) (hmin : ∀ h, s.gateOpen h → g ≤ h) : s.openGate = some g :=
  finRange_find?_eq_some ((s.gateOpen_iff g).mpr hg) fun h hh => hmin h ((s.gateOpen_iff h).mp hh)

theorem State.openGate_eq_none (h : ∀ g, ¬ s.gateOpen g) : s.openGate = none := by
  rw [State.openGate, List.find?_eq_none]
  exact fun g _ hg => h g ((s.gateOpen_iff g).mp hg)

theorem State.gatesTest_of_open (h : s.openGate = some g) : s.gatesTest = s.phaseFail (bare .gateOpen g) := by
  rw [State.gatesTest, h]

theorem State.gatesTest_of_closed {r : TripRecord} (h : s.openGate = none) (hr : s.activeHead = some r) : s.gatesTest =
    match dwellOf r.body with
    | some k => s.enterDwell k
    | none => s.enterTorque := by
  rw [State.gatesTest, h, hr]
  rfl

end gates

/-! #### Dwells -/

section dwell
variable {s : State} {r : TripRecord} {rest : List TripRecord}

/-- The leg of a dwell (R61). -/
def DwellKind.leg : DwellKind → Leg
  | .loading => .loading
  | .dumping => .dumping

/-- The wait of a dwell (R133, R134). -/
def DwellKind.wait (l : Limits) : DwellKind → Nat
  | .loading => l.loadWait
  | .dumping => l.dumpWait

theorem State.enterDwell_eq (k : DwellKind) (htq : s.tq = r :: rest) (ha : r.active = true) : s.enterDwell k =
    ({ s with
      te := { s.te with
        dwell := k, readiness := none, dwellTimer := some (s.after (1000 * DwellKind.wait s.limits k)) }
      tq := { r with body := r.body.onLeg (DwellKind.leg k) } :: rest }).enter .dwell .sequence r.id := by
  have hid : s.activeId = r.id := by
    rw [State.activeId, State.activeHead_of_active htq ha]
    rfl
  have hcons (f : TripRecord → TripRecord) (g : Executive → Executive) :
      (s.modTe g).modHead f = { s.modTe g with tq := f r :: rest } := State.modHead_of_cons (s := s.modTe g) htq f
  cases k <;> rw [State.enterDwell, hid, hcons] <;> rfl

theorem onLeg_of_dwellOf {b : TripBody} {k : DwellKind} (h : dwellOf b = some k) : b.onLeg (DwellKind.leg k) = b := by
  unfold dwellOf at h
  split at h <;> cases h <;> rfl
end dwell

/-- Settles O40. -/
theorem signalOkEndsTheSignalPhase : Obligations.SignalOkEndsTheSignalPhase := by
  unfold Obligations.SignalOkEndsTheSignalPhase
  refine ⟨fun e s => ?_, fun u => ?_⟩
  · intro s0
    refine ⟨fun h => ?_, fun hw hp hl => ?_⟩
    · refine congrArg Host.Outcome.next (State.onChange_eq_modLines _ fun hchange => if_neg fun hc => ?_)
      rcases h with hne | hne | hl
      · exact hne hc.1
      · exact hne hc.2
      · exact hchange ((InputLines.signalOk_same _).mpr hl)
    · have hchange : ({ (s.elapse e).lines with signalOk := true } : InputLines) ≠ (s.elapse e).lines := fun h =>
        Bool.false_ne_true (hl.symm.trans ((InputLines.signalOk_same _).mp h))
      exact congrArg Host.Outcome.next ((State.onChange_changed _ _ _ hchange).trans (if_pos ⟨hw, hp⟩))
  · intro supervised open_
    refine ⟨fun g hg hmin => ?_, fun hnone r hr => ⟨fun k hk => ?_, fun hk => ?_⟩⟩
    · exact State.gatesTest_of_open u g (u.openGate_eq_some g hg hmin)
    · obtain ⟨hactive, rest, htq⟩ := State.tq_of_activeHead hr
      rw [State.gatesTest_of_closed u (u.openGate_eq_none hnone) hr, hk]
      refine (State.enterDwell_eq k htq hactive).trans ?_
      rw [onLeg_of_dwellOf hk, ← htq]
      cases k <;> rfl
    · rw [State.gatesTest_of_closed u (u.openGate_eq_none hnone) hr, hk]
      rfl

/-! #### The readiness timer -/

section readiness
variable {s x : State}

theorem ceilDiv_hundred (n : Nat) : ceilDiv n 100 = (n + 99) / 100 := rfl

theorem State.expireReadiness_eq (hte : x.te = s.te) : (x.modTe fun y => { y with readiness := none }) =
    { x with te := { s.te with readiness := none } } := by rw [State.modTe, hte]

theorem State.phaseFail_expired (k : FaultKind) (hid : x.activeId = s.activeId) :
    ({ x with te := { s.te with readiness := none } } : State).phaseFail (bare k 0) =
      (({ x with te := { s.te with readiness := none } } : State).interrupt.enter .idle .sequence s.activeId).report
        (bare k 0) := by
  rw [← hid]
  rfl

/-- Phase TORQUE ends (R126). -/
theorem State.torqueEnd_eq (u : State) : u.torqueEnd =
    if u.lines.torqueOk = false then u.phaseFail (bare .torqueNotProven 0)
    else
      let v := { u with te := { u.te with
        phase := .release, readiness := some (u.after (100 * u.limits.waitRelease)) } }
      if u.limits.waitRelease = 0 then v.releaseEnd else v := by
  unfold State.torqueEnd
  cases u.lines.torqueOk <;> rfl

theorem State.releaseEnd_eq (u : State) : u.releaseEnd =
    if u.lines.brakeReleased = false then u.phaseFail (bare .brakeNotReleased 0)
    else
      let v := { u with te := { u.te with
        phase := .settle, readiness := some (u.after (100 * u.limits.waitSettle)) } }
      if u.limits.waitSettle = 0 then v.settleEnd else v := by
  unfold State.releaseEnd
  cases u.lines.brakeReleased <;> rfl

theorem State.settleEnd_eq (u : State) : u.settleEnd =
    let s1 := { u with te := { u.te with readiness := none } }
    if u.te.heldStart = true ∨ u.te.laterLeg = true then
      let w := ({ s1 with te := { s1.te with laterLeg := false } }).enter .winding .sequence u.activeId
      { w with es := { w.es with
        deadline := some ((u.unitTime + ((u.rg.legTime * (100 + u.limits.overtimeSlack) + 99) / 100) +
          u.limits.overtimeFixed * 1000) % 2 ^ 32)
        legStart := some (u.drum u.rg.guide).paidOut, progress := 0, follow := none } }
    else s1.enter .prepared .sequence u.activeId := rfl
end readiness

section expiry
variable {s : State} {e : Elapse} {t : Nat}

theorem State.readinessExpiry_of {p : Phase} (hw : s.te.winder = .preparing) (hp : s.te.phase = p)
    (ht : s.te.readiness = some t) : (s.elapse e).readinessExpiry p = some t := (if_pos ⟨hw, hp⟩).trans ht

theorem State.dwellExpiry_of {k : DwellKind} (hw : s.te.winder = .dwell) (hk : s.te.dwell = k)
    (ht : s.te.dwellTimer = some t) : (s.elapse e).dwellExpiry k = some t := (if_pos ⟨hw, hk⟩).trans ht

/-- The state at whose clock a timer expires, with its readiness timer stopped. -/
theorem State.expireReadiness_elapse : (s.elapse e).expireReadiness t =
    { (s.elapse e).reach t with te := { s.te with readiness := none } } :=
  State.expireReadiness_eq ((State.reach_te ..).trans (State.elapse_te ..))

theorem State.expireDwell_elapse : (s.elapse e).expireDwell t =
    { (s.elapse e).reach t with te := { s.te with dwellTimer := none } } := by
  have hte : ((s.elapse e).reach t).te = s.te := (State.reach_te ..).trans (State.elapse_te ..)
  rw [State.expireDwell, State.modTe, hte]

theorem exec_signalWaitExpiry_of (hw : s.te.winder = .preparing) (hp : s.te.phase = .signal)
    (ht : s.te.readiness = some t) : exec (.signalWaitExpiry e) s = .next
      (({ (s.elapse e).reach t with te := { s.te with readiness := none } } : State).phaseFail
        (bare .signalTimeout 0)) := by
  rw [← State.expireReadiness_elapse]
  change execSignalWaitExpiry e s = _
  rw [execSignalWaitExpiry, State.readinessExpiry_of hw hp ht]

theorem exec_torqueWaitExpiry_of (hw : s.te.winder = .preparing) (hp : s.te.phase = .torque)
    (ht : s.te.readiness = some t) : exec (.torqueWaitExpiry e) s = .next
      ({ (s.elapse e).reach t with te := { s.te with readiness := none } } : State).torqueEnd := by
  rw [← State.expireReadiness_elapse]
  change execTorqueWaitExpiry e s = _
  rw [execTorqueWaitExpiry, State.readinessExpiry_of hw hp ht]

theorem exec_releaseWaitExpiry_of (hw : s.te.winder = .preparing) (hp : s.te.phase = .release)
    (ht : s.te.readiness = some t) : exec (.releaseWaitExpiry e) s = .next
      ({ (s.elapse e).reach t with te := { s.te with readiness := none } } : State).releaseEnd := by
  rw [← State.expireReadiness_elapse]
  change execReleaseWaitExpiry e s = _
  rw [execReleaseWaitExpiry, State.readinessExpiry_of hw hp ht]

theorem exec_settleWaitExpiry_of (hw : s.te.winder = .preparing) (hp : s.te.phase = .settle)
    (ht : s.te.readiness = some t) : exec (.settleWaitExpiry e) s = .next
      ({ (s.elapse e).reach t with te := { s.te with readiness := none } } : State).settleEnd := by
  rw [← State.expireReadiness_elapse]
  change execSettleWaitExpiry e s = _
  rw [execSettleWaitExpiry, State.readinessExpiry_of hw hp ht]

theorem exec_loadWaitExpiry_of (hw : s.te.winder = .dwell) (hk : s.te.dwell = .loading)
    (ht : s.te.dwellTimer = some t) : exec (.loadWaitExpiry e) s = .next
      (({ (s.elapse e).reach t with te := { s.te with dwellTimer := none } } : State).report
        (bare .loadTimeout 0)) := by
  rw [← State.expireDwell_elapse]
  change execLoadWaitExpiry e s = _
  rw [execLoadWaitExpiry, State.dwellExpiry_of hw hk ht]

theorem exec_dumpWaitExpiry_of (hw : s.te.winder = .dwell) (hk : s.te.dwell = .dumping)
    (ht : s.te.dwellTimer = some t) : exec (.dumpWaitExpiry e) s = .next
      (({ (s.elapse e).reach t with te := { s.te with dwellTimer := none } } : State).report
        (bare .dumpTimeout 0)) := by
  rw [← State.expireDwell_elapse]
  change execDumpWaitExpiry e s = _
  rw [execDumpWaitExpiry, State.dwellExpiry_of hw hk ht]

theorem exec_brakeTimerExpiry_of (ht : s.te.brake = some t) : exec (.brakeTimerExpiry e) s = .next
    (({ (s.elapse e).reach t with te := { s.te with brake := none, brakeExpired := true } } : State).report
      (bare .brakeNotApplied 0)) := by
  have hte : ((s.elapse e).reach t).te = s.te := (State.reach_te ..).trans (State.elapse_te ..)
  change execBrakeTimerExpiry e s = _
  rw [execBrakeTimerExpiry, State.elapse_te, ht]
  dsimp only
  rw [State.modTe, hte]

/-- A failed phase, in the terms of the state that the expiry finds. -/
theorem State.torqueEnd_expired {x : State} (hid : x.activeId = s.activeId) (hlim : x.limits = s.limits) :
    ({ x with te := { s.te with readiness := none } } : State).torqueEnd =
      let u : State := { x with te := { s.te with readiness := none } }
      if x.lines.torqueOk = false then (u.interrupt.enter .idle .sequence s.activeId).report (bare .torqueNotProven 0)
      else
        let v := { u with te := { s.te with
          phase := .release, readiness := some (x.after (100 * s.limits.waitRelease)) } }
        if s.limits.waitRelease = 0 then v.releaseEnd else v := by
  rw [State.torqueEnd_eq, State.phaseFail_expired _ hid, ← hlim]
  rfl

theorem State.releaseEnd_expired {x : State} (hid : x.activeId = s.activeId) (hlim : x.limits = s.limits) :
    ({ x with te := { s.te with readiness := none } } : State).releaseEnd =
      let u : State := { x with te := { s.te with readiness := none } }
      if x.lines.brakeReleased = false then (u.interrupt.enter .idle .sequence s.activeId).report
        (bare .brakeNotReleased 0)
      else
        let v := { u with te := { s.te with
          phase := .settle, readiness := some (x.after (100 * s.limits.waitSettle)) } }
        if s.limits.waitSettle = 0 then v.settleEnd else v := by
  rw [State.releaseEnd_eq, State.phaseFail_expired _ hid, ← hlim]
  rfl

theorem State.settleEnd_expired {x : State} (hid : x.activeId = s.activeId) (hlim : x.limits = s.limits)
    (hleg : x.rg.legTime = s.rg.legTime) (hguide : x.rg.guide = s.rg.guide) (hpm : x.pm = s.pm) :
    ({ x with te := { s.te with readiness := none } } : State).settleEnd =
      let u : State := { x with te := { s.te with readiness := none } }
      if s.te.heldStart = true ∨ s.te.laterLeg = true then
        let w := ({ u with te := { u.te with laterLeg := false } }).enter .winding .sequence s.activeId
        let slack := (s.rg.legTime * (100 + s.limits.overtimeSlack) + 99) / 100
        { w with es := { w.es with
          deadline := some ((x.unitTime + slack + s.limits.overtimeFixed * 1000) % 2 ^ 32)
          legStart := some (s.drum s.rg.guide).paidOut, progress := 0, follow := none } }
      else u.enter .prepared .sequence s.activeId := by
  have hdrum (c : Conv) : x.drum c = s.drum c := by rw [State.drum, hpm, State.drum]
  rw [State.settleEnd_eq, ← hlim, ← hid, ← hleg, ← hguide, ← hdrum]
  rfl
end expiry

/-- Settles O41. -/
theorem readinessDwellAndBrakeTimers : Obligations.ReadinessDwellAndBrakeTimers := by
  unfold Obligations.ReadinessDwellAndBrakeTimers
  dsimp -proj -iota only
  refine ⟨fun e t s hw ht => ?_, fun e t s => ⟨fun r rest htq ha => ?_, fun hw ht => ?_, exec_brakeTimerExpiry_of⟩⟩
  · have hid : ((s.elapse e).reach t).activeId = s.activeId := by
      rw [State.activeId, State.activeHead, State.reach_tq]
      rfl
    have hlim : ((s.elapse e).reach t).limits = s.limits := by rw [State.limits, State.reach_ds]; rfl
    have hleg : ((s.elapse e).reach t).rg.legTime = s.rg.legTime := by rw [State.reach_rg, State.elapse_rg_legTime]
    have hguide : ((s.elapse e).reach t).rg.guide = s.rg.guide := by rw [State.reach_rg, State.elapse_rg_guide]
    have hpm : ((s.elapse e).reach t).pm = s.pm := by rw [State.reach_pm, State.elapse_pm]
    exact ⟨fun hp => (exec_signalWaitExpiry_of hw hp ht).trans (congrArg _ (State.phaseFail_expired _ hid)),
      fun hp => (exec_torqueWaitExpiry_of hw hp ht).trans (congrArg _ (State.torqueEnd_expired hid hlim)),
      fun hp => (exec_releaseWaitExpiry_of hw hp ht).trans (congrArg _ (State.releaseEnd_expired hid hlim)),
      fun hp => (exec_settleWaitExpiry_of hw hp ht).trans
        (congrArg _ (State.settleEnd_expired hid hlim hleg hguide hpm))⟩
  · exact ⟨State.enterDwell_eq .loading htq ha, State.enterDwell_eq .dumping htq ha⟩
  · exact ⟨fun hk => exec_loadWaitExpiry_of hw hk ht, fun hk => exec_dumpWaitExpiry_of hw hk ht⟩

/-! #### The lines and the deadlines -/

section lines
variable (s : State) (g : Fin 16)

/-- The guide stands at a level at one of its decks (R137). -/
def State.standsAt (s : State) (l : Level) : Prop :=
  l.serves = s.rg.guide ∧ ∃ d, d < (s.convRec s.rg.guide).decks ∧
    mag (l.depth - (s.guideDepth + d * (s.convRec s.rg.guide).spacing)) ≤ s.limits.landWindow

theorem State.guideStands_iff (l : Level) : s.guideStands l = true ↔ s.standsAt l := by
  simp [State.guideStands, State.standsAt, State.guideDepth]

theorem State.gateAtGuide_iff : s.gateAtGuide g = true ↔
    ∃ i l, s.level i = some l ∧ l.gate = some g ∧ s.standsAt l := by
  rw [State.gateAtGuide, tableEntries_any]
  simp only [Bool.and_eq_true, decide_eq_true_iff, State.guideStands_iff]
  rfl

/-- When the opening of a gate is reported (R137). -/
theorem State.gateReported_iff : s.gateReported g = true ↔
    (∃ i l, s.level i = some l ∧ l.inService = true ∧ l.gate = some g) ∧
      (s.te.winder = .prepared ∨ s.te.winder = .winding ∨ s.te.winder = .stopping ∨
        (s.te.winder = .preparing ∧ s.te.phase ≠ .signal) ∨
        ((s.te.winder = .held ∨ s.te.winder = .dwell) ∧
          ¬ ∃ i l, s.level i = some l ∧ l.gate = some g ∧ s.standsAt l)) := by
  rw [State.gateReported, Bool.and_eq_true, State.gateSupervised_iff, ← State.gateAtGuide_iff]
  refine and_congr_right fun _ => ?_
  cases s.te.winder <;> simp

theorem shaftStopReported_iff (w : WinderState) :
    shaftStopReported w = true ↔ w = .preparing ∨ w = .prepared ∨ w = .winding := by
  cases w <;> simp [shaftStopReported]

theorem State.followLasted_iff : s.followLasted = true ↔
    ∃ t, s.es.follow = some t ∧ s.limits.followTime * 1000 ≤ unsignedElapsed s.efe.sampleTime t := by
  unfold State.followLasted
  cases s.es.follow <;> simp

theorem State.overdue_iff : s.overdue = true ↔
    ∃ t, s.es.deadline = some t ∧ 1 ≤ unsignedElapsed s.unitTime t ∧ unsignedElapsed s.unitTime t < 2 ^ 31 := by
  unfold State.overdue
  cases s.es.deadline <;> simp

theorem WinderState.moving_iff (w : WinderState) : w.moving = true ↔ w = .winding ∨ w = .stopping := by
  cases w <;> simp [WinderState.moving]
end lines

/-- Settles O50. -/
theorem linesAndDeadlinesAreReported : Obligations.LinesAndDeadlinesAreReported := by
  unfold Obligations.LinesAndDeadlinesAreReported
  intro e g s s0 stop opened gate w named supervised stands here gateCounts error lasted passed
  refine ⟨fun h => ?_, fun h => ?_, fun h => ?_, fun h => ?_, fun hl hw => ?_, fun h1 h2 h3 => ?_, fun h => ?_,
    fun h => ?_, fun hw he hl => ?_, fun h => ?_, fun t hw ht => ?_, fun h => ?_⟩
  · have hchange : ({ s0.lines with emergencyIn := false } : InputLines) ≠ s0.lines := fun hc =>
      Bool.false_ne_true (((InputLines.emergencyIn_same _).mp hc).symm.trans h)
    exact congrArg Host.Outcome.next (State.onChange_changed _ _ _ hchange)
  · exact congrArg Host.Outcome.next (State.onChange_same _ _ _ ((InputLines.emergencyIn_same _).mpr h))
  · exact congrArg Host.Outcome.next (State.onChange_same _ _ _ ((InputLines.shaftStop_same _).mpr h))
  · exact congrArg Host.Outcome.next (State.onChange_same _ _ _ ((InputLines.gate_same _ g).mpr h))
  · have hchange : ({ s0.lines with shaftStop := true } : InputLines) ≠ s0.lines := fun hc =>
      Bool.false_ne_true (hl.symm.trans ((InputLines.shaftStop_same _).mp hc))
    exact congrArg Host.Outcome.next ((State.onChange_changed _ _ _ hchange).trans
      (if_pos ((shaftStopReported_iff _).mpr hw)))
  · refine congrArg Host.Outcome.next (State.onChange_eq_modLines _ fun _ => if_neg fun hc => ?_)
    rcases (shaftStopReported_iff _).mp hc with hw | hw | hw
    · exact h1 hw
    · exact h2 hw
    · exact h3 hw
  · obtain ⟨hline, hsup, hstate⟩ := h
    have hchange : ({ s0.lines with gates := s0.lines.gates.setIfInBounds g false } : InputLines) ≠ s0.lines :=
      fun hc => Bool.false_ne_true (((InputLines.gate_same _ g).mp hc).symm.trans hline)
    exact congrArg Host.Outcome.next ((State.onChange_changed _ _ _ hchange).trans
      (if_pos ((State.gateReported_iff gate g).mpr ⟨hsup, hstate⟩)))
  · refine congrArg Host.Outcome.next (State.onChange_eq_modLines _ fun hchange => if_neg fun hc => h ⟨?_, ?_⟩)
    · rw [← Bool.not_eq_false]
      exact fun hline => hchange ((InputLines.gate_same _ g).mpr hline)
    · exact (State.gateReported_iff gate g).mp hc
  · have hreports : s0.followReports = [s0.guideReport .driveNotFollowing s0.guideSpeed s0.es.refInForce] :=
      if_pos ⟨hw, decide_eq_true he, s.followLasted_iff.mpr hl⟩
    exact congrArg (fun rs => Host.Outcome.next (s0.reportAll rs)) hreports
  · have hreports : s0.followReports = [] := by
      refine if_neg fun ⟨hw, he, hl⟩ => ?_
      rcases h with h | h | h
      · exact h hw
      · exact h (of_decide_eq_true he)
      · exact h (s.followLasted_iff.mp hl)
    exact congrArg (fun rs => Host.Outcome.next (s0.reportAll rs)) hreports
  · have hreports : s0.overtimeReports = [s0.guideReport .tripOvertime s0.unitTime (s0.es.deadline.getD 0)] :=
      if_pos ⟨(WinderState.moving_iff _).mpr hw, s0.overdue_iff.mpr ⟨t, ht⟩⟩
    have hdeadline : s0.es.deadline = some t := ht.1
    rw [hdeadline] at hreports
    exact congrArg (fun rs => Host.Outcome.next (s0.reportAll rs)) hreports
  · have hreports : s0.overtimeReports = [] := by
      refine if_neg fun ⟨hw, ho⟩ => ?_
      rcases h with ⟨h1, h2⟩ | h
      · exact ((WinderState.moving_iff _).mp hw).elim h1 h2
      · obtain ⟨t, ht⟩ := s0.overdue_iff.mp ho
        exact h t ht
    exact congrArg (fun rs => Host.Outcome.next (s0.reportAll rs)) hreports

end Sys2Proof.Machine
end

section
/-! The port's return to HUNTING commutes with what the requests of the Trip Executive begin. -/

namespace Sys2Proof.Machine

open Sys2Proof

section hunt
variable (s : State) (k : FaultKind) (v : Severity) (r : Report) (y : Cause)

theorem State.hunt_interrupt : s.hunt.interrupt = s.interrupt.hunt := by
  unfold State.interrupt
  rw [State.hunt_activeHead]
  split <;> rfl

theorem State.hunt_toIdle : s.hunt.toIdle y = (s.toIdle y).hunt := by
  rw [State.toIdle, State.hunt_interrupt, State.hunt_activeId, State.hunt_enter, State.toIdle]

theorem State.hunt_beginStopping (x : StopReason) (i : Option Nat) :
    s.hunt.beginStopping x i y = (s.beginStopping x i y).hunt := by
  rw [State.beginStopping, State.hunt_modTe, State.hunt_activeId, State.hunt_enter, State.beginStopping]

theorem State.hunt_setStopOrder (b : Bool) : s.hunt.setStopOrder b = (s.setStopOrder b).hunt := rfl

theorem State.hunt_halt : s.hunt.halt = s.halt.hunt := by
  have hl (t : State) : t.halt = t.silenced.interrupt.setStopOrder false := rfl
  have hs : s.hunt.silenced = s.silenced.hunt := rfl
  rw [hl, hs, State.hunt_interrupt, State.hunt_setStopOrder, hl]

theorem State.hunt_trip (x : ServiceReturn) : s.hunt.trip x k = (s.trip x k).hunt := by
  rw [State.trip, State.hunt_halt, State.hunt_modTe, State.hunt_activeId, State.hunt_enter, State.trip]

theorem State.hunt_lock : s.hunt.lock k = (s.lock k).hunt := by
  rw [State.lock, State.hunt_halt, State.hunt_activeId, State.hunt_enter, State.lock]

theorem State.hunt_controlledStop : s.hunt.controlledStop k = (s.controlledStop k).hunt := by
  unfold State.controlledStop
  rw [State.hunt_te]
  split
  · exact s.hunt_toIdle _
  · exact s.hunt_toIdle _
  · rw [State.hunt_beginStopping, State.hunt_setStopOrder, apply_ite State.hunt]
    rfl
  · rfl
  · exact s.hunt_toIdle _
  · exact s.hunt_toIdle _
  · rfl
  · rfl
  · rfl
  · rfl
  · rfl

theorem State.hunt_order : s.hunt.order k v = (s.order k v).hunt := by
  unfold State.order State.emergency State.lockout
  split
  · rfl
  · exact s.hunt_controlledStop k
  · rw [State.hunt_te]
    split <;> first | rfl | exact s.hunt_trip k _
  · rw [State.hunt_te]
    split <;> first | rfl | exact s.hunt_lock k

theorem State.hunt_setInForce : s.hunt.setInForce v = (s.setInForce v).hunt := by
  unfold State.setInForce
  rw [apply_ite State.hunt]
  rfl

theorem State.hunt_respond : s.hunt.respond k v = (s.respond k v).hunt := by
  unfold State.respond
  rw [apply_ite State.hunt, State.hunt_setInForce, State.hunt_order]
  rfl

theorem State.hunt_report : s.hunt.report r = (s.report r).hunt := by
  have ht : s.hunt.taken r = (s.taken r).hunt := rfl
  rw [State.report_eq, State.report_eq, apply_ite State.hunt, ht, State.hunt_respond]
  rfl

theorem State.hunt_phaseFail : s.hunt.phaseFail r = (s.phaseFail r).hunt := by
  have h (t : State) : t.phaseFail r = (t.toIdle .sequence).report r := rfl
  rw [h, State.hunt_toIdle, State.hunt_report, h]

theorem State.hunt_beginLeg : s.hunt.beginLeg y = (s.beginLeg y).hunt := rfl

theorem State.hunt_settleEnd : s.hunt.settleEnd = s.settleEnd.hunt := by
  unfold State.settleEnd
  rw [apply_ite State.hunt]
  rfl

theorem State.hunt_enterSettle : s.hunt.enterSettle = s.enterSettle.hunt := by
  unfold State.enterSettle
  rw [apply_ite State.hunt, ← State.hunt_settleEnd]
  rfl

theorem State.hunt_releaseEnd : s.hunt.releaseEnd = s.releaseEnd.hunt := by
  unfold State.releaseEnd
  rw [apply_ite State.hunt, State.hunt_enterSettle, State.hunt_phaseFail]
  rfl

theorem State.hunt_enterRelease : s.hunt.enterRelease = s.enterRelease.hunt := by
  unfold State.enterRelease
  rw [apply_ite State.hunt, ← State.hunt_releaseEnd]
  rfl

theorem State.hunt_torqueEnd : s.hunt.torqueEnd = s.torqueEnd.hunt := by
  unfold State.torqueEnd
  rw [apply_ite State.hunt, State.hunt_enterRelease, State.hunt_phaseFail]
  rfl

theorem State.hunt_enterTorque : s.hunt.enterTorque = s.enterTorque.hunt := by
  unfold State.enterTorque
  rw [apply_ite State.hunt, ← State.hunt_torqueEnd]
  rfl

theorem State.hunt_enterDwell (k : DwellKind) : s.hunt.enterDwell k = (s.enterDwell k).hunt := rfl

theorem State.hunt_gatesTest : s.hunt.gatesTest = s.gatesTest.hunt := by
  have hgate : s.hunt.openGate = s.openGate := rfl
  unfold State.gatesTest
  rw [hgate, State.hunt_activeHead]
  split
  · exact s.hunt_phaseFail _
  · split
    · rfl
    · exact s.hunt_enterTorque

theorem State.hunt_enterSignal : s.hunt.enterSignal = s.enterSignal.hunt := by
  have h (t : State) : t.enterSignal = if t.lines.signalOk = true then
      (t.modTe fun x => { x with phase := .gates, readiness := none }).gatesTest
    else t.modTe fun x => { x with readiness := some (t.after (1000 * t.limits.signalWait)) } := rfl
  rw [h, h, apply_ite State.hunt, ← State.hunt_gatesTest]
  rfl

/-- The readiness sequence from its first phase, where PREPARING still stands (R125). -/
def State.fromPhase (p : Phase) (s : State) : State :=
  if s.te.winder = .preparing then if p = .signal then s.enterSignal else s.gatesTest else s

theorem State.hunt_fromPhase (p : Phase) : s.hunt.fromPhase p = (s.fromPhase p).hunt := by
  unfold State.fromPhase
  rw [apply_ite State.hunt, apply_ite State.hunt, State.hunt_enterSignal, State.hunt_gatesTest]
  rfl

theorem State.hunt_enterPreparing (p : Phase) : s.hunt.enterPreparing p y = (s.enterPreparing p y).hunt := by
  have h (t : State) : t.enterPreparing p y = (if t.lines.shaftStop then
      (t.preparingAt p y).report (bare .shaftStopSignal 0) else t.preparingAt p y).fromPhase p := rfl
  have hfound : s.hunt.preparingAt p y = (s.preparingAt p y).hunt := rfl
  rw [h, h, ← State.hunt_fromPhase, apply_ite State.hunt, hfound, State.hunt_report]
  rfl

theorem State.hunt_adopt (b : Built) : s.hunt.adopt b = (s.adopt b).hunt := rfl

theorem State.hunt_modHead (f : TripRecord → TripRecord) : s.hunt.modHead f = (s.modHead f).hunt := rfl

theorem State.hunt_setLoadClass (c : Conv) (k : LoadClass) :
    s.hunt.setLoadClass c k = (s.setLoadClass c k).hunt := by
  unfold State.setLoadClass
  rw [apply_ite State.hunt]
  rfl

end hunt

end Sys2Proof.Machine
end

section
/-! START and STOP (R128, R129), and PREPARE and RETARGET (R84 to R86, R123, R124): O37, O38 and O39. -/

namespace Sys2Proof.Machine

open Sys2Proof

/-! #### START -/

section start
variable {s : State} {id : Nat} {r : TripRecord}

theorem State.isActiveId_of_some (h : s.activeHead = some r) (hid : r.id = id) : s.isActiveId id = true := by
  rw [State.isActiveId, h]
  exact decide_eq_true hid

theorem State.isActiveId_of_other (h : ∀ r, s.activeHead = some r → r.id ≠ id) : s.isActiveId id = false := by
  unfold State.isActiveId
  split
  · rfl
  next r hr => exact decide_eq_false (h r hr)

/-- START in each winder state, with the ACTIVE head's id or without (R128). -/
def startBy (s : State) (mine : Bool) : Answered :=
  match s.te.winder with
  | .stopping => refuse .stopping s
  | .idle | .tripped => refuse .notPrepared s
  | .winding | .dwell => refuse .wrongState s
  | .preparing =>
    if mine then answer .accepted [] (s.modTe fun t => { t with heldStart := true }) else refuse .notHead s
  | .prepared => if mine then answer .accepted [] (s.beginLeg (.request 0x26)) else refuse .notHead s
  | .held => if mine then startHeld s else refuse .notHead s
  | .checking | .stoodDown | .lockedOut => refuse .wrongState s

theorem start_le16 (hid : id < 2 ^ 16) : start (le16 id) s = startBy s (s.isActiveId id) := by
  rw [start, fieldNat_of_le16 hid]
  rfl

theorem startBy_of_refused {mine : Bool} {w : WinderState} {c : ResultCode} (hw : s.te.winder = w)
    (hc : (w, c) ∈ [(.stopping, .stopping), (.idle, .notPrepared), (.tripped, .notPrepared), (.winding, .wrongState),
      (.dwell, .wrongState)]) : startBy s mine = refuse c s := by
  unfold startBy
  rw [hw]
  simp only [List.mem_cons, Prod.mk.injEq, List.not_mem_nil, or_false] at hc
  rcases hc with ⟨rfl, rfl⟩ | ⟨rfl, rfl⟩ | ⟨rfl, rfl⟩ | ⟨rfl, rfl⟩ | ⟨rfl, rfl⟩ <;> rfl

theorem startBy_of_other (hw : s.te.winder = .preparing ∨ s.te.winder = .prepared ∨ s.te.winder = .held) :
    startBy s false = refuse .notHead s := by
  unfold startBy
  rcases hw with hw | hw | hw <;> rw [hw] <;> rfl

theorem startBy_of_preparing (hw : s.te.winder = .preparing) :
    startBy s true = answer .accepted [] (s.modTe fun t => { t with heldStart := true }) := by
  unfold startBy
  rw [hw]
  rfl

theorem startBy_of_prepared (hw : s.te.winder = .prepared) :
    startBy s true = answer .accepted [] (s.beginLeg (.request 0x26)) := by
  unfold startBy
  rw [hw]
  rfl

theorem startBy_of_held (hw : s.te.winder = .held) : startBy s true = startHeld s := by
  unfold startBy
  rw [hw]
  rfl

theorem Built.fits_iff (b : Built) : b.fits = true ↔ b.points.length ≤ 8 := decide_eq_true_iff

theorem startHeld_of_full (h : s.activeHead = some r) (hfull : 8 < (s.build r).points.length) :
    startHeld s = answer .planFull (le8 (s.build r).points.length) s := by
  rw [startHeld, h]
  exact if_neg fun hf => absurd ((Built.fits_iff _).mp hf) (not_le.mpr hfull)

theorem startHeld_of_fits (h : s.activeHead = some r) (hfits : (s.build r).points.length ≤ 8) :
    startHeld s = answer .accepted [] (((s.adopt (s.build r)).modTe fun t =>
      { t with heldStart := true }).enterPreparing
      .torque (.request 0x26)) := by
  rw [startHeld, h]
  exact if_pos ((Built.fits_iff _).mpr hfits)

/-- The beginning of a leg, with its deadline (R101, R128). -/
theorem State.beginLeg_eq (y : Cause) (hid : s.activeId = id) : s.beginLeg y =
    let u := s.enter .winding y id
    { u with es := { u.es with
      deadline := some ((s.unitTime + ((s.rg.legTime * (100 + s.limits.overtimeSlack) + 99) / 100) +
        s.limits.overtimeFixed * 1000) % 2 ^ 32)
      legStart := some (s.drum s.rg.guide).paidOut, progress := 0, follow := none } } := by
  rw [← hid]
  rfl

theorem State.activeId_of_some (h : s.activeHead = some r) : s.activeId = r.id := by
  rw [State.activeId, h]
  rfl
end start

/-! #### STOP -/

section stop
variable {s : State} {id : Nat} {r : TripRecord}

theorem stop_le16 (hid : id < 2 ^ 16) : stop (le16 id) s =
    if s.te.winder.tripActive then if s.isActiveId id then stopActive s else refuse .notHead s
    else refuse .notPrepared s := by
  rw [stop, fieldNat_of_le16 hid]

theorem stopActive_of_ready (hw : s.te.winder = .preparing ∨ s.te.winder = .prepared ∨ s.te.winder = .held ∨
    s.te.winder = .dwell) : stopActive s = answer .ok [] (s.toIdle (.request 0x27)) := by
  unfold stopActive
  rcases hw with hw | hw | hw | hw <;> rw [hw] <;> rfl

theorem stopActive_of_winding (hw : s.te.winder = .winding) : stopActive s =
    if s.te.rest = .none then answer .accepted [] (s.beginStopping .request none (.request 0x27))
    else answer .accepted [] (s.modTe fun t => { t with deferred := .request }) := by
  unfold stopActive
  rw [hw]

theorem stopActive_of_stopping (hw : s.te.winder = .stopping) : stopActive s = answer .ok [] s := by
  unfold stopActive
  rw [hw]
end stop

/-- Settles O38. -/
theorem startAndStopByTheStateTheyFind : Obligations.StartAndStopByTheStateTheyFind := by
  unfold Obligations.StartAndStopByTheStateTheyFind
  refine ⟨fun e tag id s hs hid => ?_, fun e tag id s hs hid => ?_⟩
  · intro s0 refuse
    have hother (h : ∀ r, s.activeHead = some r → r.id ≠ id) : s0.hunt.isActiveId id = false :=
      State.isActiveId_of_other h
    have hrefuse (c : ResultCode) (h : startBy s0.hunt (s0.hunt.isActiveId id) = Machine.refuse c s0.hunt) : refuse c :=
      exec_refused rfl hs ((start_le16 hid).trans h)
    refine ⟨fun hw => hrefuse _ (startBy_of_refused hw (by decide)), fun hw => ?_, fun hw => ?_, fun hw h => ?_,
      fun r hr hrid => ?_⟩
    · rcases hw with hw | hw <;> exact hrefuse _ (startBy_of_refused hw (by decide))
    · rcases hw with hw | hw <;> exact hrefuse _ (startBy_of_refused hw (by decide))
    · refine hrefuse _ ?_
      rw [hother h]
      exact startBy_of_other hw
    · have hmine : s0.hunt.isActiveId id = true := State.isActiveId_of_some hr hrid
      have hstart : start (le16 id) s0.hunt = startBy s0.hunt true := by rw [start_le16 hid, hmine]
      refine ⟨fun hw => ?_, fun hw => ?_, fun hw hfull => ?_, fun hw hfits => ?_⟩
      · exact exec_answered rfl hs (hstart.trans (startBy_of_preparing (s := s0.hunt) hw))
      · refine exec_answered rfl hs (hstart.trans ((startBy_of_prepared (s := s0.hunt) hw).trans ?_))
        rw [State.hunt_beginLeg, State.beginLeg_eq _ (id := id) ((State.activeId_of_some (s := s0) hr).trans hrid)]
        rfl
      · exact exec_answered rfl hs (hstart.trans ((startBy_of_held (s := s0.hunt) hw).trans
          (startHeld_of_full (s := s0.hunt) hr hfull)))
      · refine exec_answered rfl hs (hstart.trans ((startBy_of_held (s := s0.hunt) hw).trans
          ((startHeld_of_fits (s := s0.hunt) hr hfits).trans ?_)))
        rw [State.hunt_build, State.hunt_adopt, State.hunt_modTe, State.hunt_enterPreparing]
        rfl
  · intro s0 answers
    refine ⟨fun hw => ?_, fun hw h => ?_, fun r hr hrid => ?_⟩
    · have hidle : s0.hunt.te.winder.tripActive = false := by
        rcases hw with hw | hw <;> rw [State.hunt_te, State.elapse_te, hw] <;> rfl
      refine exec_refused rfl hs ((stop_le16 hid).trans (if_neg ?_))
      rw [hidle]
      exact Bool.false_ne_true
    · have hother : s0.hunt.isActiveId id = false := State.isActiveId_of_other h
      refine exec_refused rfl hs ((stop_le16 hid).trans ((if_pos hw).trans (if_neg ?_)))
      rw [hother]
      exact Bool.false_ne_true
    · have hmine : s0.hunt.isActiveId id = true := State.isActiveId_of_some hr hrid
      have hid0 : s0.activeId = id := (State.activeId_of_some (s := s0) hr).trans hrid
      have hstop (hw : s.te.winder.tripActive = true) : stop (le16 id) s0.hunt = stopActive s0.hunt :=
        (stop_le16 hid).trans ((if_pos hw).trans (if_pos hmine))
      refine ⟨fun hw => ?_, fun hw hrest => ?_, fun hw hrest => ?_, fun hw => ?_⟩
      · have hactive : s.te.winder.tripActive = true := by rcases hw with hw | hw | hw | hw <;> rw [hw] <;> rfl
        refine exec_answered rfl hs ((hstop hactive).trans ((stopActive_of_ready (s := s0.hunt) hw).trans ?_))
        rw [State.hunt_toIdle, State.toIdle, hid0]
      · refine exec_answered rfl hs ((hstop (by rw [hw]; rfl)).trans
          ((stopActive_of_winding (s := s0.hunt) hw).trans ((if_pos hrest).trans ?_)))
        have hte : ({ s.te with stopReason := .request, stopWatch := none, rest := .none } : Executive) =
            { s.te with stopReason := .request, stopWatch := none } := by rw [← hrest]
        rw [State.hunt_beginStopping, State.beginStopping, hid0, State.modTe, State.elapse_te, hte]
      · exact exec_answered rfl hs ((hstop (by rw [hw]; rfl)).trans
          ((stopActive_of_winding (s := s0.hunt) hw).trans (if_neg hrest)))
      · exact exec_answered rfl hs ((hstop (by rw [hw]; rfl)).trans (stopActive_of_stopping (s := s0.hunt) hw))

end Sys2Proof.Machine
end

section
/-! PREPARE (R123, R124) and RETARGET (R84 to R86): O37 and O39. -/

namespace Sys2Proof.Machine

open Sys2Proof

/-! #### PREPARE -/

section prepare
variable {s : State} {r : TripRecord} {rest : List TripRecord} {id : Nat}

theorem State.clutchAdmits_iff (s : State) (r : TripRecord) : s.clutchAdmits r = true ↔
    s.cc.state = .engaged ∨ (s.cc.state = .released ∧ declutchedTrip r.body = true) := by
  unfold State.clutchAdmits declutchedTrip
  cases s.cc.state <;> cases r.body <;> simp

theorem State.manCertain_iff (s : State) : s.manCertain = true ↔ (s.conv .a).certainty ≠ .uncertain ∧
    (s.cc.state = .engaged → (s.conv .b).certainty ≠ .uncertain) := by
  simp [State.manCertain, or_iff_not_imp_left]

theorem State.passiveFits_iff (s : State) (b : TripBody) : s.passiveFits b = true ↔ (s.cc.state = .engaged →
    (s.convRec b.guide.other).top < s.passiveEnd b ∧ s.passiveEnd b < (s.convRec b.guide.other).bottom) := by
  simp [State.passiveFits, or_iff_not_imp_left]

/-- What PREPARE checks of the head, in its order (R123). -/
def State.prepareRefusal (s : State) (r : TripRecord) (id : Nat) : Option ResultCode :=
  if r.id ≠ id then some .notHead
  else if ¬ (s.cc.state = .engaged ∨ (s.cc.state = .released ∧ declutchedTrip r.body = true)) then some .clutchState
  else if r.body.mode = .man ∧ ¬ ((s.conv .a).certainty ≠ .uncertain ∧
    (s.cc.state = .engaged → (s.conv .b).certainty ≠ .uncertain)) then some .positionUncertain
  else if r.body.mode = .man ∧ ((s.convRec .b).kind = .skip ∧ (s.conv .b).loadClass = .rock) then some .balance
  else if ¬ (s.cc.state = .engaged →
    (s.convRec r.body.guide.other).top < s.passiveEnd r.body ∧
      s.passiveEnd r.body < (s.convRec r.body.guide.other).bottom) then some .passiveLimit
  else none

theorem State.firstRefusal_prepare (s : State) (r : TripRecord) (id : Nat) : firstRefusal
    [(r.id = id, .notHead), (s.clutchAdmits r, .clutchState),
     (!isMan r || s.manCertain, .positionUncertain), (!isMan r || s.skipLight, .balance),
     (s.passiveFits r.body, .passiveLimit)] = s.prepareRefusal r id := by
  have hman : isMan r = true ↔ r.body.mode = .man := decide_eq_true_iff
  have himp (b : Bool) {P : Prop} (h : b = false ↔ P) : (!isMan r || b) = false ↔ r.body.mode = .man ∧ P := by
    rw [Bool.or_eq_false_iff, Bool.not_eq_false', hman, h]
  rw [firstRefusal_check (Q := r.id ≠ id) (by simp),
    firstRefusal_check (by rw [← Bool.not_eq_true, State.clutchAdmits_iff]),
    firstRefusal_check (himp _ (by rw [← Bool.not_eq_true, State.manCertain_iff])),
    firstRefusal_check (himp _ s.skipLight_eq_false),
    firstRefusal_check (by rw [← Bool.not_eq_true, State.passiveFits_iff]), firstRefusal_nil, State.prepareRefusal]

theorem prepare_of_not_idle {p : List Byte} (h : s.te.winder ≠ .idle) : prepare p s = refuse .wrongState s := if_pos h

theorem prepare_of_empty {p : List Byte} (h : s.te.winder = .idle) (htq : s.tq = []) :
    prepare p s = refuse .noSuchTrip s := by
  rw [prepare, if_neg (not_not.mpr h), htq]

theorem prepare_of_head (hid : id < 2 ^ 16) (h : s.te.winder = .idle) (htq : s.tq = r :: rest) :
    prepare (le16 id) s = match s.prepareRefusal r id with
      | some c => refuse c s
      | none =>
        if (s.build r).fits then
          answer .accepted (le16 (s.build r).limit ++ le8 (s.build r).points.length ++ leNat32 (s.build r).legTime)
            (s.activate r (s.build r))
        else answer .planFull (le8 (s.build r).points.length) s := by
  rw [prepare, if_neg (not_not.mpr h), htq, fieldNat_of_le16 hid]
  dsimp only
  rw [State.firstRefusal_prepare] <;> rfl

/-- The head made ACTIVE (R124). -/
def State.headActive (r : TripRecord) (rest : List TripRecord) (s : State) : State :=
  { s with tq := { r with active := true, interrupted := false, body := s.activatedBody r.body } :: rest }

/-- The winder as PREPARING begins with the head (R124). -/
def State.activated (r : TripRecord) (rest : List TripRecord) (b : Built) (s : State) : State :=
  (((s.headActive r rest).adopt b).loadFor r.body).modTe fun t => { t with heldStart := false, laterLeg := false }

theorem State.activate_eq (htq : s.tq = r :: rest) (b : Built) :
    s.activate r b = (s.activated r rest b).enterPreparing .signal (.request 0x25) := by
  rw [State.activate, State.modHead_of_cons htq]
  rfl

theorem State.hunt_loadFor (s : State) (b : TripBody) : s.hunt.loadFor b = (s.loadFor b).hunt := by
  cases b with
  | cage m t d => exact s.hunt_setLoadClass .a (classOf m)
  | skip p t c n leg => rfl

theorem State.hunt_activated (s : State) (b : Built) : s.hunt.activated r rest b = (s.activated r rest b).hunt := by
  have h : s.hunt.headActive r rest = (s.headActive r rest).hunt := rfl
  rw [State.activated, h, State.hunt_adopt, State.hunt_loadFor, State.hunt_modTe, State.activated]

/-- What the load class of the cage leaves. -/
theorem State.loadFor_frame (s : State) (b : TripBody) : (s.loadFor b).clock = s.clock ∧
    (s.loadFor b).lines = s.lines ∧ (s.loadFor b).ds = s.ds ∧ (s.loadFor b).tq = s.tq ∧ (s.loadFor b).te = s.te := by
  cases b with
  | cage m t d =>
    exact ⟨State.setLoadClass_clock .., State.setLoadClass_lines .., State.setLoadClass_ds .., State.setLoadClass_tq ..,
      State.setLoadClass_te ..⟩
  | skip p t c n leg => exact ⟨rfl, rfl, rfl, rfl, rfl⟩

theorem State.activated_frame (s : State) (b : Built) : (s.activated r rest b).clock = s.clock ∧
    (s.activated r rest b).lines = s.lines ∧ (s.activated r rest b).ds = s.ds ∧
    (s.activated r rest b).tq = (s.headActive r rest).tq ∧
    (s.activated r rest b).te = { s.te with heldStart := false, laterLeg := false } := by
  obtain ⟨hclock, hlines, hds, htq, hte⟩ := State.loadFor_frame ((s.headActive r rest).adopt b) r.body
  exact ⟨hclock, hlines, hds, htq, congrArg (fun t : Executive => { t with heldStart := false, laterLeg := false }) hte⟩

theorem State.activated_activeId (s : State) (b : Built) : (s.activated r rest b).activeId = r.id := by
  obtain ⟨-, -, -, htq, -⟩ := s.activated_frame (r := r) (rest := rest) b
  rw [State.activeId, State.activeHead, htq]
  rfl

theorem State.activatedBody_skip (s : State) (p t c n : Nat) (leg : Leg) :
    (leg = .toPocket ∨ leg = .loading → s.activatedBody (.skip p t c n leg) = .skip p t c n
      (if mag ((s.conv .b).depth - s.levelDepth p) ≤ s.limits.landWindow then .loading else .toPocket)) ∧
    (leg = .toTipple ∨ leg = .dumping → s.activatedBody (.skip p t c n leg) = .skip p t c n
      (if mag ((s.conv .b).depth - s.levelDepth t) ≤ s.limits.landWindow then .dumping else .toTipple)) := by
  constructor <;> rintro (rfl | rfl) <;> rfl
/-- PREPARING as PREPARE begins it, with SHAFT_STOP not asserted (R125). -/
theorem State.enterPreparing_waits (w s0 s : State) (y : Cause) (id : Nat) (hclock : w.clock = s0.clock)
    (hlines : w.lines = s0.lines) (hds : w.ds = s.ds) (hid : w.activeId = id) (hstop : s0.lines.shaftStop = false) :
    w.enterPreparing .signal y =
      let v := ({ w with te := { w.te with phase := .signal } }).enter .preparing y id
      if s0.lines.signalOk then v.enterGates
      else { v with te := { v.te with readiness := some (s0.after (1000 * s.limits.signalWait)) } } := by
  rw [State.enterPreparing_signal w .signal y (hlines ▸ hstop) rfl, State.preparingAt, hid, State.enterSignal,
    State.enter_lines, State.after, State.limits, State.enter_clock, State.enter_ds, hclock, hlines, hds]
  rfl
end prepare

/-- Settles O37. -/
theorem prepareActivatesTheHead : Obligations.PrepareActivatesTheHead := by
  unfold Obligations.PrepareActivatesTheHead
  refine ⟨fun e tag id s hs hid => ?_, fun m target x s => ⟨rfl, by cases m <;> rfl⟩,
    fun pocket tipple count left leg s => ⟨rfl, s.activatedBody_skip ..⟩, fun c k s => ⟨fun h => if_pos h, fun h => ?_⟩⟩
  · intro s0 refuse
    refine ⟨fun hw => exec_refused rfl hs (prepare_of_not_idle hw), fun hw htq => exec_refused rfl hs
      (prepare_of_empty (s := s0.hunt) hw htq), fun r rest hw htq => ?_⟩
    intro man b clutchFits certain other passiveEnd passes heavy
    have hprepare := prepare_of_head (s := s0.hunt) hid hw htq
    have hrefusal : s0.hunt.prepareRefusal r id = if r.id ≠ id then some .notHead
        else if ¬ clutchFits then some .clutchState
        else if man ∧ ¬ certain then some .positionUncertain
        else if man ∧ heavy then some .balance
        else if ¬ passes then some .passiveLimit else none := rfl
    have hrefuse (c : ResultCode) (hc : s0.hunt.prepareRefusal r id = some c) : refuse c := by
      rw [hc] at hprepare
      exact exec_refused rfl hs hprepare
    refine ⟨fun hne => ?_, fun h1 h2 => ?_, fun h1 h2 h3 h4 => ?_, fun h1 h2 h3 h4 h5 => ?_, fun h1 h2 h3 =>
      ⟨fun h4 => ?_, fun h4 hfull => ?_, fun h4 hfits => ?_⟩⟩
    · exact hrefuse _ (hrefusal.trans (if_pos hne))
    · exact hrefuse _ (hrefusal.trans ((if_neg (not_not.mpr h1)).trans (if_pos h2)))
    · exact hrefuse _ (hrefusal.trans ((if_neg (not_not.mpr h1)).trans ((if_neg (not_not.mpr h2)).trans
        (if_pos ⟨h3, h4⟩))))
    · exact hrefuse _ (hrefusal.trans ((if_neg (not_not.mpr h1)).trans ((if_neg (not_not.mpr h2)).trans
        ((if_neg fun h => h.2 h4).trans (if_pos ⟨h3, h5⟩)))))
    all_goals
      have hlast : s0.hunt.prepareRefusal r id = if ¬ passes then some .passiveLimit else none :=
        hrefusal.trans ((if_neg (not_not.mpr h1)).trans ((if_neg (not_not.mpr h2)).trans
          ((if_neg fun h => h.2 (h3 h.1).1).trans (if_neg fun h => (h3 h.1).2 h.2))))
    · exact hrefuse _ (hlast.trans (if_pos h4))
    · rw [hlast.trans (if_neg (not_not.mpr h4))] at hprepare
      exact exec_answered rfl hs (hprepare.trans (if_neg fun h => absurd ((Built.fits_iff _).mp h) (not_le.mpr hfull)))
    · rw [hlast.trans (if_neg (not_not.mpr h4))] at hprepare
      have hactivate : s0.hunt.activate r (s0.hunt.build r) =
          ((s0.activated r rest b).enterPreparing .signal (.request 0x25)).hunt := by
        rw [State.activate_eq (s := s0.hunt) htq, State.hunt_activated, State.hunt_enterPreparing]
        rfl
      have haccepted := hprepare.trans (if_pos ((Built.fits_iff _).mpr hfits))
      rw [hactivate] at haccepted
      intro u w v t accepted
      obtain ⟨hclock, hlines, hds, -, hte⟩ := State.loadFor_frame ((s0.headActive r rest).adopt b) r.body
      change u.clock = s0.clock at hclock
      change u.lines = s0.lines at hlines
      change u.ds = s.ds at hds
      change u.te = s.te at hte
      have hw : s0.activated r rest b = w := by
        change u.modTe _ = _
        rw [State.modTe, hte]
      rw [hw] at haccepted
      refine ⟨exec_answered rfl hs haccepted, fun hstop => exec_answered rfl hs (haccepted.trans ?_)⟩
      have hactive : w.activeId = id := by rw [← hw, State.activated_activeId, h1]
      exact congrArg _ (congrArg State.hunt (State.enterPreparing_waits w s0 s _ id hclock hlines hds hactive hstop))
  · rw [State.setLoadClass, if_neg h]
    cases c <;> rfl

end Sys2Proof.Machine
end

section
/-! RETARGET (R84 to R86): O39. -/

namespace Sys2Proof.Machine

open Sys2Proof

section retarget
variable {s : State} {p : List Byte} {id : Nat} {r : TripRecord} {target : Target}

/-- The payload of RETARGET (R84, R198). -/
def retargetBytes (id : Nat) (target : Target) (x : Int) : List Byte :=
  le16 id ++ (match target with | .station l d => [0] ++ le8 l ++ le8 d | .depth _ => [1, 0, 0]) ++ leInt x

/-- What is read from the payload of RETARGET. -/
theorem retargetBytes_fields {x : Int} (hid : id < 2 ^ 16) (hx : -2 ^ 31 ≤ x ∧ x < 2 ^ 31)
    (htarget : targetFits x target) :
    let p := retargetBytes id target x
    fieldNat p 0 2 = id ∧ targetOf p 2 = target ∧ formRetarget p = true := by
  cases target with
  | station l d =>
    obtain ⟨hl, hd⟩ := htarget
    refine ⟨fieldNat_of_le16 hid, (if_pos rfl).trans ?_, rfl⟩
    rw [octet_of_le8 hl, octet_of_le8 hd]
  | depth y =>
    cases htarget
    refine ⟨fieldNat_of_le16 hid, (if_neg (by decide : ¬ (1 : Nat) = 0)).trans ?_, rfl⟩
    rw [fieldInt_of_leInt hx]

theorem retarget_of_stopping (h : s.te.winder = .stopping ∨ s.te.deferred ≠ .none) :
    retarget p s = refuse .stopping s := if_pos h

theorem retarget_of_not_winding (hstop : s.te.winder ≠ .stopping) (hwind : s.te.winder ≠ .winding)
    (hdef : s.te.deferred = .none) : retarget p s = refuse .wrongState s :=
  (if_neg fun h => h.elim hstop fun hd => hd hdef).trans (if_pos hwind)

theorem retarget_of_winding (hwind : s.te.winder = .winding) (hdef : s.te.deferred = .none)
    (hhead : s.activeHead = some r) : retarget p s =
      if r.body.guide = .b then refuse .wrongState s
      else if r.id = fieldNat p 0 2 then retargetChecked r (targetOf p 2) s
      else refuse .notHead s := by
  have hstop : ¬ (s.te.winder = .stopping ∨ s.te.deferred ≠ .none) := by simp [hwind, hdef]
  rw [retarget, if_neg hstop, if_neg (not_not.mpr hwind), hhead]
  dsimp only
  cases r.body <;> rfl

theorem retargetChecked_of_refusal {c : ResultCode} (h : s.targetRefusal r.body.mode target = some c) :
    retargetChecked r target s = refuse c s := by
  rw [retargetChecked, h]

/-- The record that RETARGET gives the head (R86). -/
def State.retargetRecord (s : State) (r : TripRecord) (target : Target) : TripRecord :=
  { r with body := .cage r.body.mode target (s.targetDepth target) }

/-- The distance from the cage to the new target (R85). -/
def State.retargetDistance (s : State) (target : Target) : Int :=
  s.rg.travel.distance (s.conv .a).depth (s.targetDepth target)

theorem retargetChecked_of_none (h : s.targetRefusal r.body.mode target = none) :
    retargetChecked r target s =
      if s.rg.latch = true then refuseLate s (s.retargetDistance target)
      else if s.retargetDistance target ≤ 0 then refuse .wrongDirection s
      else if s.retargetDistance target < requiredDistance s.limits s.rg.refPrev ∨
          (s.build (s.retargetRecord r target)).limit < s.rg.refPrev then refuseLate s (s.retargetDistance target)
      else if (s.build (s.retargetRecord r target)).points.length ≤ 8 then
        answer .ok [] (s.retargeted (s.retargetRecord r target) (s.build (s.retargetRecord r target))
          (s.targetDepth target) (s.retargetDistance target))
      else answer .planFull (le8 (s.build (s.retargetRecord r target)).points.length) s := by
  rw [retargetChecked, h]
  dsimp only
  refine if_congr Iff.rfl rfl (if_congr Iff.rfl rfl (if_congr Iff.rfl rfl (if_congr ?_ rfl rfl)))
  exact Built.fits_iff _

theorem requiredDistance_eq (l : Limits) (ref : Nat) : requiredDistance l ref =
    if l.vCreep < ref then (ref ^ 2 - l.vCreep ^ 2 + 2 * l.aDec - 1) / (2 * l.aDec) + l.dCreep else 0 := by
  rw [requiredDistance, ceilDiv, pow_two, pow_two]

/-- A rebuilt plan, with the record and the deadline of its target (R86, R101). -/
theorem State.retargeted_eq (r' : TripRecord) (b : Built) (x d : Int) (hhead : s.activeHead = some r) :
    s.retargeted r' b x d =
      let u := { s.adopt b with tq := r' :: s.tq.tail }
      let deadline := (s.unitTime + (b.legTime * (100 + s.limits.overtimeSlack) + 99) / 100 +
        s.limits.overtimeFixed * 1000) % 2 ^ 32
      ({ u with es := { s.es with deadline := some deadline } }).raise .tripRetargeted r'.id (word32 x) (word32 d)
        (uword32 b.limit) (uword32 b.legTime) := by
  cases htq : s.tq with
  | nil =>
    rw [State.activeHead, htq] at hhead
    cases hhead
  | cons q rest =>
    have htq' : (s.adopt b).tq = q :: rest := htq
    rw [State.retargeted, State.modHead_of_cons htq']
    rfl

theorem State.hunt_retargeted (r' : TripRecord) (b : Built) (x d : Int) :
    s.hunt.retargeted r' b x d = (s.retargeted r' b x d).hunt := rfl
end retarget

/-- Settles O39. -/
theorem retargetRebuildsThePlan : Obligations.RetargetRebuildsThePlan := by
  unfold Obligations.RetargetRebuildsThePlan
  intro e tag id target y s hs hid hlo hhi htarget s0 p cv x between fails refuse
  obtain ⟨fid, ftarget, hform⟩ := retargetBytes_fields (target := target) hid ⟨hlo, hhi⟩
    (show targetFits y target by cases target <;> exact htarget)
  change fieldNat p 0 2 = id at fid
  change targetOf p 2 = target at ftarget
  change formRetarget p = true at hform
  refine ⟨fun h => exec_refused rfl hs (retarget_of_stopping (s := s0.hunt) h) hform,
    fun h1 h2 h3 => exec_refused rfl hs (retarget_of_not_winding (s := s0.hunt) h1 h2 h3) hform,
    fun r hw hd hhead => ?_⟩
  have hretarget := retarget_of_winding (s := s0.hunt) (p := p) hw hd hhead
  rw [fid, ftarget] at hretarget
  refine ⟨fun hb => exec_refused rfl hs (hretarget.trans (if_pos hb)) hform, fun ha hne =>
    exec_refused rfl hs (hretarget.trans ((if_neg (by rw [ha]; decide)).trans (if_neg hne))) hform, fun ha hr => ?_⟩
  intro l distance needed r' b late
  have hchecked : retarget p s0.hunt = retargetChecked r target s0.hunt :=
    hretarget.trans ((if_neg (by rw [ha]; decide)).trans (if_pos hr))
  have hx : s0.hunt.targetDepth target = x := by cases target <;> rfl
  have hfails : s0.hunt.targetRefusal r.body.mode target = fails r.body.mode := by
    cases target with
    | station l d => exact s.targetRefusal_station r.body.mode l d
    | depth z => exact s.targetRefusal_depth r.body.mode z
  refine ⟨fun c hc => exec_refused rfl hs (hchecked.trans (retargetChecked_of_refusal (hfails.trans hc))) hform,
    fun hnone => ?_⟩
  have hdist : s0.hunt.retargetDistance target = distance := by rw [State.retargetDistance, hx]; rfl
  have hrec : s0.hunt.retargetRecord r target = r' := by rw [State.retargetRecord, hx]
  have hneeded : requiredDistance s0.hunt.limits s0.hunt.rg.refPrev = needed := requiredDistance_eq ..
  have hbuild : s0.hunt.build r' = b := rfl
  have hbranches := hchecked.trans (retargetChecked_of_none (hfails.trans hnone))
  rw [refuseLate, hneeded, hdist, hrec, hbuild, hx] at hbranches
  refine ⟨fun hlatch => exec_answered rfl hs (hbranches.trans (if_pos hlatch)) hform, fun hlatch hle =>
    exec_refused rfl hs (hbranches.trans ((if_neg (ne_true_of_eq_false hlatch)).trans (if_pos hle)))
      hform, fun hlatch hpos hlt =>
    exec_answered rfl hs (hbranches.trans ((if_neg (ne_true_of_eq_false hlatch)).trans ((if_neg (not_le.mpr hpos)).trans
      (if_pos hlt)))) hform, fun hlatch hpos hge hle => ?_⟩
  have hlast := hbranches.trans ((if_neg (ne_true_of_eq_false hlatch)).trans ((if_neg (not_le.mpr hpos)).trans
    (if_neg (not_or.mpr ⟨not_lt.mpr hge, not_lt.mpr hle⟩))))
  refine ⟨fun hfull => exec_answered rfl hs (hlast.trans (if_neg (not_le.mpr hfull))) hform, fun hfits => ?_⟩
  have hdone := State.retargeted_eq (s := s0) r' b x distance hhead
  have hid' : r'.id = id := hr
  rw [hid'] at hdone
  rw [if_pos hfits, State.hunt_retargeted, hdone] at hlast
  exact exec_answered rfl hs hlast hform

end Sys2Proof.Machine
end

section
/-! The recoveries and RESTART (R143 to R145): O45. -/

namespace Sys2Proof.Machine

open Sys2Proof

section recoveries
variable (s : State)

theorem State.isPending_getElem (k : FaultKind) : s.isPending k = s.fm.pending[k.idx]'(FaultKind.idx_lt k) := by
  simp [State.isPending, FaultKind.idx_lt k]

theorem FaultKind.any_idx (pick : FaultKind → Bool) (k : FaultKind) :
    ((FaultKind.all.filter pick).any fun j => j.idx = k.idx) = pick k := by
  have hidx : ∀ j : FaultKind, (decide (j.idx = k.idx)) = decide (j = k) := by
    intro j
    refine decide_eq_decide.mpr ⟨fun h => FaultKind.idx_injective h, fun h => congrArg _ h⟩
  rw [List.any_filter]
  simp only [hidx]
  cases h : pick k with
  | true => exact List.any_eq_true.mpr ⟨k, FaultKind.mem_all k, by simp [h]⟩
  | false =>
    refine List.any_eq_false.mpr fun j _ => ?_
    simp only [Bool.and_eq_true, decide_eq_true_iff, not_and]
    rintro hj rfl
    rw [h] at hj
    cases hj

/-- Clearing the flags of some kinds touches the flags, and the encoders where ENCODER_DISAGREE is cleared. -/
theorem State.clearPending_frame (pick : FaultKind → Bool) : ∃ efe : EncoderFrontEnd,
    s.clearPending pick = { s with
      fm := { s.fm with pending := clearFlags (FaultKind.all.filter pick) s.fm.pending }, efe := efe } ∧
    ((pick .encoderDisagree && s.isPending .encoderDisagree) = false → efe = s.efe) := by
  rw [State.clearPending, State.foldl_setPending, State.ackDisagree_eq]
  dsimp only
  cases hc : (pick .encoderDisagree && s.isPending .encoderDisagree) with
  | true => exact ⟨_, rfl, fun h => absurd h (by decide)⟩
  | false => exact ⟨s.efe, rfl, fun _ => rfl⟩

theorem State.foldl_raiseEnded_frame (l : List TripRecord) : ∃ link : ControlLink,
    l.foldl (fun s r => s.raiseEnded 3 r r.body.remaining) s = { s with link := link } := by
  induction l generalizing s with
  | nil => exact ⟨s.link, rfl⟩
  | cons r l ih =>
    obtain ⟨link, hlink⟩ := ih (s.raiseEnded 3 r r.body.remaining)
    exact ⟨link, hlink⟩

/-- A discarded queue leaves everything but the queue and the events. -/
theorem State.discardQueue_frame : ∃ link : ControlLink, s.discardQueue = { s with tq := [], link := link } := by
  obtain ⟨link, hlink⟩ := s.foldl_raiseEnded_frame s.tq
  exact ⟨link, by rw [State.discardQueue, hlink]; rfl⟩

theorem resetRequest_eq (p : List Byte) : resetRequest p s =
    if s.te.winder ≠ .tripped then refuse .wrongState s
    else if s.atStandstill = false then refuse .notStandstill s
    else if s.lines.emergencyIn = false then refuse .wrongState s
    else if s.gravePending = true then refuse .faultsPending s
    else answer .ok [] s.resetTrip := by
  rw [resetRequest, firstRefusal_check (Q := s.te.winder ≠ .tripped) (by simp), firstRefusal_check Iff.rfl,
    firstRefusal_check Iff.rfl, firstRefusal_check (Q := s.gravePending = true) (by simp), firstRefusal_nil]
  split_ifs <;> rfl

theorem clearLockout_eq (p : List Byte) : clearLockout p s =
    if s.te.winder ≠ .lockedOut then refuse .wrongState s
    else if s.lines.keyOk = false then refuse .keyAbsent s
    else if s.atStandstill = false then refuse .notStandstill s
    else answer .ok [] (((s.clearPending fun k => s.severity k = 3).discardQueue).enter
      .stoodDown (.request 0x2E) 0) := by
  rw [clearLockout, firstRefusal_check (Q := s.te.winder ≠ .lockedOut) (by simp), firstRefusal_check Iff.rfl,
    firstRefusal_check Iff.rfl, firstRefusal_nil]
  split_ifs <;> rfl

theorem State.hunt_clearPending (pick : FaultKind → Bool) : s.hunt.clearPending pick = (s.clearPending pick).hunt := by
  rw [State.clearPending, State.clearPending, apply_ite State.hunt, State.foldl_setPending, State.foldl_setPending,
    State.ackDisagree_eq, State.ackDisagree_eq]
  rfl

/-- The lockout cleared (R144). -/
def State.lockoutCleared : State :=
  ((s.clearPending fun k => s.severity k = 3).discardQueue).enter .stoodDown (.request 0x2E) 0

theorem State.hunt_lockoutCleared : s.hunt.lockoutCleared = s.lockoutCleared.hunt := by
  have hpick : (fun k => decide (s.hunt.severity k = 3)) = fun k => decide (s.severity k = 3) := rfl
  rw [State.lockoutCleared, hpick, State.hunt_clearPending, State.hunt_discardQueue, State.hunt_enter]
  rfl

theorem State.enter_stoodDown_inForce (y : Cause) (n : Nat) : (s.enter .stoodDown y n).fm.inForce = none := rfl

theorem State.lockoutCleared_frame : s.lockoutCleared.te = { s.te with winder := .stoodDown } ∧
    s.lockoutCleared.tq = [] ∧ s.lockoutCleared.fm.inForce = none ∧
    (∀ k, s.lockoutCleared.isPending k = (s.isPending k && s.severity k != 3)) ∧
    s.lockoutCleared.fm.counts = s.fm.counts ∧ s.lockoutCleared.fm.first = s.fm.first ∧
    s.lockoutCleared.fm.later = s.fm.later ∧ s.lockoutCleared.ds = s.ds ∧ s.lockoutCleared.pm = s.pm ∧
    s.lockoutCleared.wt = s.wt ∧ s.lockoutCleared.cc = s.cc ∧ s.lockoutCleared.lines = s.lines ∧
    s.lockoutCleared.clock = s.clock ∧ s.lockoutCleared.pending = s.pending ∧
    (s.isPending .encoderDisagree = false ∨ s.severity .encoderDisagree ≠ 3 → s.lockoutCleared.efe = s.efe) ∧
    ∃ old, s.lockoutCleared.link.events = old ++
      [{ kind := .stateChanged, trip := 0, time := s.unitTime, v1 := 1, v2 := uword32 s.te.winder.code, v3 := 0,
         v4 := packBytes 0x2E 1 0 0 }] := by
  obtain ⟨efe, hclear, hefe⟩ := s.clearPending_frame fun k => s.severity k = 3
  obtain ⟨link, hdiscard⟩ := (s.clearPending fun k => s.severity k = 3).discardQueue_frame
  rw [hclear] at hdiscard
  have hcleared : s.lockoutCleared = State.enter .stoodDown (.request 0x2E) 0 { s with
      fm := { s.fm with pending := clearFlags (FaultKind.all.filter fun k => s.severity k = 3) s.fm.pending }
      efe := efe, tq := [], link := link } := by rw [State.lockoutCleared, hclear, hdiscard]
  rw [hcleared]
  refine ⟨rfl, rfl, rfl, fun k => ?_, rfl, rfl, rfl, rfl, rfl, rfl, rfl, rfl, rfl, rfl, fun h => hefe ?_, _, rfl⟩
  · rw [State.isPending_getElem, State.isPending_getElem]
    refine (clearFlags_getElem _ _ _ (FaultKind.idx_lt k)).trans ?_
    rw [FaultKind.any_idx]
    rfl
  · rcases h with h | h
    · rw [h, Bool.and_false]
    · rw [decide_eq_false h, Bool.false_and]

/-- The blocks after RESTART (R145). -/
def State.restarted : State :=
  if s.te.winder = .stoodDown then s.restartBlocks else s.restartBlocks.enter .stoodDown (.request 0x2F) 0

theorem restart_of_resting (p : List Byte) (h : s.te.winder = .stoodDown ∨ s.te.winder = .idle ∨
    s.te.winder = .tripped) :
    restart p s = answer .ok [] s.restarted := by
  rcases h with h | h | h <;> rw [restart, State.restarted, h] <;> rfl

theorem restart_of_other (p : List Byte) (h1 : s.te.winder ≠ .stoodDown) (h2 : s.te.winder ≠ .idle)
    (h3 : s.te.winder ≠ .tripped) : restart p s = refuse .wrongState s := by
  unfold restart
  cases hw : s.te.winder <;> first | rfl | contradiction

theorem State.hunt_restarted : s.hunt.restarted = s.restarted.hunt := by
  rw [State.restarted, State.restarted, apply_ite State.hunt, State.hunt_te]
  rfl

theorem State.hunt_resetTrip : s.hunt.resetTrip = s.resetTrip.hunt := by
  unfold State.resetTrip
  rw [State.hunt_te]
  cases s.te.serviceReturn with
  | idle => exact s.hunt_enter ..
  | stoodDown =>
    dsimp only
    rw [State.hunt_discardQueue, State.hunt_enter]

theorem State.restarted_frame : s.restarted.tq = [] ∧ s.restarted.wt = Vector.replicate 16 none ∧
    (∀ k, s.restarted.isPending k = false) ∧
    s.restarted.efe = { s.efe with drums := ⟨s.efe.drums.a.unpair, s.efe.drums.b.unpair⟩ } ∧
    s.restarted.te = { s.te.clearTrip with winder := .stoodDown, unitMode := .normal } ∧
    s.restarted.fm.inForce = none ∧ s.restarted.fm.stopOrder = false ∧ s.restarted.fm.counts = s.fm.counts ∧
    s.restarted.fm.first = s.fm.first ∧ s.restarted.fm.later = s.fm.later ∧ s.restarted.ds = s.ds ∧
    s.restarted.pm = s.pm ∧ s.restarted.cc = { s.cc with discrepancy := none } ∧
    s.restarted.es.motion = s.es.motion ∧ s.restarted.es.env = 0 ∧ s.restarted.es.deadline = none ∧
    s.restarted.rg.seq = s.rg.seq ∧ s.restarted.lines = s.lines ∧ s.restarted.clock = s.clock ∧
    s.restarted.pending = s.pending ∧ s.restarted.link.overrun = false ∧
    s.restarted.link.events = (if s.te.winder = .stoodDown then [] else
      [{ kind := .stateChanged, trip := 0, time := s.unitTime, v1 := 1, v2 := uword32 s.te.winder.code, v3 := 0,
         v4 := packBytes 0x2F 1 0 0 }]) := by
  have hpending : ∀ k, ((Vector.replicate 31 false).toList[FaultKind.idx k]?).getD false = false := by
    intro k
    rw [Vector.toList_replicate, List.getElem?_replicate, if_pos (FaultKind.idx_lt k), Option.getD_some]
  rw [State.restarted]
  by_cases hw : s.te.winder = .stoodDown
  · have hte : s.restartBlocks.te = { s.te.clearTrip with winder := .stoodDown, unitMode := .normal } := by
      rw [← hw]
      rfl
    rw [if_pos hw, if_pos hw]
    exact ⟨rfl, rfl, hpending, rfl, hte, rfl, rfl, rfl, rfl, rfl, rfl, rfl, rfl, rfl, rfl, rfl,
      rfl, rfl, rfl, rfl, rfl, rfl⟩
  · rw [if_neg hw, if_neg hw]
    exact ⟨rfl, rfl, hpending, rfl, rfl, rfl, rfl, rfl, rfl, rfl, rfl, rfl, rfl, rfl, rfl, rfl,
      rfl, rfl, rfl, rfl, rfl, rfl⟩
end recoveries

/-- Settles O45. -/
theorem recoveriesAndRestart : Obligations.RecoveriesAndRestart := by
  unfold Obligations.RecoveriesAndRestart
  refine ⟨fun e tag s hs => ?_, fun e tag s hs => ?_⟩
  · have hspecial := s.admits_special hs
    intro s0 grave
    have hlockout := clearLockout_eq s0.hunt []
    refine ⟨fun hservice => ?_, fun h1 => exec_refused rfl hspecial (hlockout.trans (if_pos h1)), fun h1 h2 =>
      exec_refused rfl hspecial (hlockout.trans ((if_neg (not_not.mpr h1)).trans (if_pos h2))), fun h1 h2 h3 =>
      exec_refused rfl hspecial (hlockout.trans ((if_neg (not_not.mpr h1)).trans
        ((if_neg (ne_false_of_eq_true h2)).trans (if_pos h3)))), fun h1 h2 h3 => ?_⟩
    · have hreset := resetRequest_eq s0.hunt []
      by_cases h1 : s.te.winder ≠ .tripped
      · rw [if_pos h1]
        exact exec_refused rfl hservice (hreset.trans (if_pos h1))
      rw [if_neg h1]
      replace hreset := hreset.trans (if_neg h1)
      by_cases h2 : s.atStandstill = false
      · rw [if_pos h2]
        exact exec_refused rfl hservice (hreset.trans (if_pos h2))
      rw [if_neg h2]
      replace hreset := hreset.trans (if_neg h2)
      by_cases h3 : s0.lines.emergencyIn = false
      · rw [if_pos h3]
        exact exec_refused rfl hservice (hreset.trans (if_pos h3))
      rw [if_neg h3]
      replace hreset := hreset.trans (if_neg h3)
      by_cases h4 : grave = true
      · rw [if_pos h4]
        exact exec_refused rfl hservice (hreset.trans (if_pos h4))
      rw [if_neg h4]
      replace hreset := hreset.trans (if_neg h4)
      rw [State.hunt_resetTrip] at hreset
      exact exec_answered rfl hservice hreset
    · have hdone := hlockout.trans ((if_neg (not_not.mpr h1)).trans
        ((if_neg (ne_false_of_eq_true h2)).trans (if_neg (ne_false_of_eq_true h3))))
      have hlock : answer .ok [] s0.hunt.lockoutCleared = answer .ok [] s0.lockoutCleared.hunt :=
        congrArg _ s0.hunt_lockoutCleared
      obtain ⟨hte, htq, hinForce, hpending, hcounts, hfirst, hlater, hds, hpm, hwt, hcc,
        hlines, hclock, hrequests, hefe,
        old, hevents⟩ := s0.lockoutCleared_frame
      have hwinder : s0.te.winder = .lockedOut := h1
      rw [hwinder] at hevents
      exact ⟨s0.lockoutCleared, exec_answered rfl hspecial (hdone.trans hlock),
        congrArg Executive.winder hte, htq, hinForce,
        hpending, hcounts, hfirst, hlater, hds, hpm, hwt, hcc, hlines, hclock, hrequests, hefe, old, hevents⟩
  · have hspecial := s.admits_special hs
    intro s0 unpaired
    refine ⟨fun h1 h2 h3 => exec_refused rfl hspecial (restart_of_other s0.hunt [] h1 h2 h3), fun h => ?_⟩
    have hdone := restart_of_resting s0.hunt [] h
    rw [State.hunt_restarted] at hdone
    obtain ⟨htq, hwt, hpending, hefe, hte, hinForce, horder, hcounts, hfirst, hlater, hds, hpm, hcc,
      hmotion, henv, hdeadline,
      hseq, hlines, hclock, hrequests, hoverrun, hevents⟩ := s0.restarted_frame
    exact ⟨s0.restarted, exec_answered rfl hspecial hdone, htq, hwt, hpending, hefe, hte,
      hinForce, horder, hcounts, hfirst,
      hlater, hds, hpm, hcc, hmotion, henv, hdeadline, hseq, hlines, hclock, hrequests, hoverrun, hevents⟩

end Sys2Proof.Machine
end

section
/-! The end of a landing and of a stop (R130, R131, R140), and the ends of the dwells (R133 to R136): O42, O43,
O44. -/

namespace Sys2Proof.Machine

open Sys2Proof

/-! #### The brakes confirmed -/

section brakes
variable (s : State)

variable {s} in
/-- TRIP_HELD says where the guide stands in the plan of the trip. -/
theorem State.raiseHeld_eq {t : State} (i : Option Nat) (htq : t.tq = s.tq) (hpm : t.pm = s.pm)
    (hguide : t.rg.guide = s.rg.guide) (htravel : t.rg.travel = s.rg.travel) (hplan : t.rg.plan = s.rg.plan) :
    t.raiseHeld i = t.raise .tripHeld s.activeId (uword32 (i.getD 0)) (word32 s.guideDepth)
      (word32 s.distanceToGo) 0 := by
  have hid : t.activeId = s.activeId := by rw [State.activeId, State.activeId, State.activeHead, State.activeHead, htq]
  have hdepth : t.guideDepth = s.guideDepth := by
    rw [State.guideDepth, State.guideDepth, State.conv, State.conv, hpm, hguide]
  have hpoint : t.pointDistance = s.pointDistance := by
    funext p
    rw [State.pointDistance, State.pointDistance, htravel, hdepth]
  have hstop : t.rg.stop = s.rg.stop := by
    rw [ReferenceGenerator.stop, ReferenceGenerator.stop, ReferenceGenerator.leg, ReferenceGenerator.leg,
      ReferenceGenerator.points, ReferenceGenerator.points, hplan]
  rw [State.raiseHeld, hid, hdepth, State.distanceToGo, State.distanceToGo, hpoint, hstop]

theorem State.enter_held_rg (y : Cause) (n : Nat) : (s.enter .held y n).rg = { s.rg with label := .none } := rfl

theorem State.stopEnd_eq : s.stopEnd =
    let v := { s with te := { s.te with brake := none, rest := .none }, fm := { s.fm with stopOrder := false } }
    if s.te.stopReason = StopReason.watch then
      (({ v with rg := { v.rg with refPrev := 0 } }).enter .held .sequence s.activeId).raise .tripHeld s.activeId
        (uword32 (s.te.stopWatch.getD 0)) (word32 s.guideDepth) (word32 s.distanceToGo) 0
    else v.interrupt.enter .idle .sequence v.activeId := by
  unfold State.stopEnd
  cases s.te.stopReason with
  | watch => exact State.raiseHeld_eq _ (State.enter_tq ..) (State.enter_pm ..) rfl rfl rfl
  | none => rfl
  | request => rfl
  | fault => rfl

/-- A landing with its rest step and its brake timer ended, and the stop order of a deferred stop cleared. -/
def State.landed : State :=
  { s with
    te := { s.te with brake := none, rest := .none }
    fm := { s.fm with stopOrder := if s.te.deferred = DeferredStop.none then s.fm.stopOrder else false } }

/-- A landing in HELD or DWELL is interrupted by a deferred stop (R131). -/
def State.afterLanding (t : State) : State :=
  if s.te.deferred = DeferredStop.none then t else t.interrupt.enter .idle .sequence t.activeId

theorem State.landingEnd_eq {p : PlanPoint} (h : s.rg.stop = some p) : s.landingEnd = match p.origin with
    | .target => (s.landed.raise .tripLanded s.activeId (word32 p.depth) (word32 s.guideDepth)
        (word32 s.distanceToGo) 0).complete.enter .idle .sequence s.activeId
    | .pocket => s.afterLanding (s.landed.enterDwell .loading)
    | .tipple => s.afterLanding (s.landed.enterDwell .dumping)
    | .tagged | .forced => s.afterLanding (((s.landed.enter .held .sequence s.activeId).raise .tripHeld s.activeId
        (uword32 (p.watchId.getD 0)) (word32 s.guideDepth) (word32 s.distanceToGo) 0).watchReached p.depth) := by
  have hlanded : (if s.te.deferred = .none then s.modTe fun t => { t with brake := none, rest := .none }
      else (s.modTe fun t => { t with brake := none, rest := .none }).setStopOrder false) = s.landed := by
    unfold State.landed
    split <;> rfl
  unfold State.landingEnd
  dsimp only
  rw [hlanded, h]
  have hheld : (s.landed.enter .held .sequence s.activeId).raiseHeld p.watchId = _ :=
    State.raiseHeld_eq (s := s) _ (State.enter_tq ..) (State.enter_pm ..) rfl rfl rfl
  dsimp only
  rw [hheld]
  cases p.origin <;> rfl

theorem exec_brakeApplied (e : Elapse) : exec (.brakeAppliedAsserted e) s =
    .next ((s.elapse e).onChange (fun l => { l with brakeApplied := true }) fun t =>
      if t.te.rest = .brakeConfirm ∧ t.te.brake.isSome then t.brakesConfirmed else t) := rfl

theorem exec_brakeApplied_confirms (e : Elapse) (hline : (s.elapse e).lines.brakeApplied = false)
    (hrest : s.te.rest = .brakeConfirm) (hbrake : s.te.brake.isSome = true) : exec (.brakeAppliedAsserted e) s =
      .next { s.elapse e with lines := { (s.elapse e).lines with brakeApplied := true } }.brakesConfirmed := by
  have hchange : ({ (s.elapse e).lines with brakeApplied := true } : InputLines) ≠ (s.elapse e).lines := fun hc =>
    Bool.false_ne_true (hline.symm.trans ((InputLines.brakeApplied_same _).mp hc))
  exact congrArg Host.Outcome.next ((State.onChange_changed _ _ _ hchange).trans (if_pos ⟨hrest, hbrake⟩))

theorem exec_brakeApplied_idle (e : Elapse) (h : ¬ (s.te.rest = .brakeConfirm ∧ s.te.brake.isSome = true ∧
      (s.elapse e).lines.brakeApplied = false)) : exec (.brakeAppliedAsserted e) s =
      .next { s.elapse e with lines := { (s.elapse e).lines with brakeApplied := true } } := by
  refine congrArg Host.Outcome.next (State.onChange_eq_modLines _ fun hchange => if_neg fun ⟨hrest, hbrake⟩ => ?_)
  refine h ⟨hrest, hbrake, ?_⟩
  rw [← Bool.not_eq_true]
  exact fun hline => hchange ((InputLines.brakeApplied_same _).mpr hline)
end brakes

/-- Settles O42. -/
theorem brakesConfirmedEndTheLandingOrStop : Obligations.BrakesConfirmedEndTheLandingOrStop := by
  unfold Obligations.BrakesConfirmedEndTheLandingOrStop
  intro e s s0 u idle rest
  refine ⟨fun h => exec_brakeApplied_idle s e h, fun ⟨hrest, hbrake, hline⟩ hw => ?_,
    fun p ⟨hrest, hbrake, hline⟩ hw hp => ?_⟩
  · have hconfirmed : s0.brakesConfirmed = s0.stopEnd := by
      have hw0 : s0.te.winder = .stopping := hw
      rw [State.brakesConfirmed, hw0]
    exact (exec_brakeApplied_confirms s e hline hrest hbrake).trans
      (congrArg Host.Outcome.next (hconfirmed.trans s0.stopEnd_eq))
  · have hconfirmed : s0.brakesConfirmed = s0.landingEnd := by
      have hw0 : s0.te.winder = .winding := hw
      rw [State.brakesConfirmed, hw0]
    have hp0 : s0.rg.stop = some p := hp
    have hexec := (exec_brakeApplied_confirms s e hline hrest hbrake).trans
      (congrArg Host.Outcome.next (hconfirmed.trans (s0.landingEnd_eq hp0)))
    refine ⟨fun ho => ?_, fun ho => ?_, fun ho => ?_, fun ho => ?_⟩ <;> rw [ho] at hexec <;> exact hexec

/-! #### The standstill test -/

section standstill
variable (s : State)

theorem State.anyLost_iff : s.anyLost = true ↔ ∃ c, (s.drum c).run = .lost := by
  rw [State.anyLost, Bool.or_eq_true, decide_eq_true_iff, decide_eq_true_iff]
  constructor
  · rintro (h | h)
    · exact ⟨_, h⟩
    · exact ⟨_, h⟩
  · rintro ⟨c, h⟩
    cases c
    · exact .inl h
    · exact .inr h

/-- The records at which the rest is tested (R130, R140). -/
def State.testsRest (found : RestStep) : Prop :=
  s.te.brakeExpired = false ∧ ((s.te.winder = .winding ∧ found = .toRest ∧ s.te.rest = .toRest) ∨
    (s.te.winder = .stopping ∧ s.te.rest = .none))

theorem State.takeExecutive_of_not {found : RestStep} (h : ¬ s.testsRest found) : s.takeExecutive found = s := by
  rw [State.takeExecutive]
  split_ifs with h1 h2 h3
  · rfl
  · exact absurd ⟨Bool.eq_false_of_not_eq_true h1, .inl h2⟩ h
  · exact absurd ⟨Bool.eq_false_of_not_eq_true h1, .inr h3⟩ h
  · rfl

theorem State.takeExecutive_of_tests {found : RestStep} (h : s.testsRest found) :
    s.takeExecutive found = s.restTest := by
  obtain ⟨hexpired, hrest⟩ := h
  rw [State.takeExecutive, if_neg (ne_true_of_eq_false hexpired)]
  split_ifs with h2 h3
  · rfl
  · rfl
  · exact absurd hrest (not_or.mpr ⟨h2, h3⟩)

theorem State.restTest_of_moving (h : s.atStandstill = false) : s.restTest =
    { s with te := { s.te with brake := if s.anyLost then some (s.te.brake.getD s.brakeExpiry) else none } } :=
  if_neg (ne_true_of_eq_false h)

theorem State.restTest_of_standstill (h : s.atStandstill = true) : s.restTest = s.beginBrakeConfirm := if_pos h
end standstill

/-- Settles O43. -/
theorem executiveTestsStandstill : Obligations.ExecutiveTestsStandstill := by
  unfold Obligations.ExecutiveTestsStandstill
  refine ⟨fun found s => ?_, fun e s hline hrest hbrake => exec_brakeApplied_confirms s e hline hrest hbrake⟩
  intro t timer confirm lost tests
  refine ⟨fun h => s.takeExecutive_of_not h, fun h hstand => ?_, fun h hmove => ?_⟩
  · have ht : t = s.beginBrakeConfirm := (s.takeExecutive_of_tests h).trans (s.restTest_of_standstill hstand)
    refine ⟨?_, fun hline => ?_, fun hline => ?_⟩
    · have hw : confirm.te.winder = .winding ∨ confirm.te.winder = .stopping := h.2.imp And.left And.left
      rcases hw with hw | hw <;> rw [State.brakeRelease, hw] <;> rfl
    · exact ht.trans (if_neg (ne_true_of_eq_false hline))
    · exact ht.trans (if_pos hline)
  · have ht := (s.takeExecutive_of_tests h).trans (s.restTest_of_moving hmove)
    refine ⟨fun hlost => ?_, fun hlost => ?_⟩
    · rw [if_pos (s.anyLost_iff.mpr hlost)] at ht
      exact ht
    · rw [if_neg (hlost ∘ s.anyLost_iff.mp)] at ht
      exact ht

/-! #### The skip signals -/

section signals
variable (s : State)

/-- The next leg of a skip record, whose plan is built where it may be (R136). -/
def State.onward (t : State) (r : TripRecord) : State :=
  if t.passiveFits r.body = true ∧ (t.build r).fits = true then
    ({ t.adopt (t.build r) with te := { (t.adopt (t.build r)).te with laterLeg := true } }).enterPreparing
      .torque .sequence
  else t.interrupt.enter .idle .sequence r.id

theorem State.laterLeg_eq {r : TripRecord} (h : s.activeHead = some r) : s.laterLeg = s.onward r := by
  rw [State.laterLeg, h, State.onward, State.toIdle, State.activeId_of_some h]
  rfl

/-- An active skip record with some cycles left, on a leg. -/
def skipRecord (id pocket tipple count : Nat) (ovr : Option Nat) (i : Bool) (left : Nat) (leg : Leg) : TripRecord :=
  { id := id, body := .skip pocket tipple count left leg, override := ovr, active := true, interrupted := i }

variable {s} {id pocket tipple count left : Nat} {ovr : Option Nat} {i : Bool} {leg : Leg} {rest : List TripRecord}

theorem State.skipLoaded_eq (htq : s.tq = skipRecord id pocket tipple count ovr i left leg :: rest) :
    s.skipLoaded =
      let u := ({ s with te := { s.te with dwellTimer := none } }).setLoadClass .b .rock
      let r := skipRecord id pocket tipple count ovr i left .toTipple
      State.onward { u with tq := r :: rest } r := by
  have hload : (({ s with te := { s.te with dwellTimer := none } }).setLoadClass .b .rock).tq =
      skipRecord id pocket tipple count ovr i left leg :: rest := (State.setLoadClass_tq ..).trans htq
  have hmod := State.modHead_of_cons hload fun r => { r with body := r.body.onLeg .toTipple }
  exact (congrArg State.laterLeg hmod).trans (State.laterLeg_eq _ rfl)

/-- The end of a cycle on the record that counts it (R134). -/
def State.dumpedOnce (t : State) : State :=
  match t.activeHead with
  | none => t
  | some r =>
    let v := t.raise .cycleDone r.id (uword32 r.body.remaining) (uword32 (cyclesDone r.body))
      (word32 (t.conv .b).depth) 0
    if r.body.remaining = 0 then v.complete.enter .idle .sequence r.id
    else (v.modHead fun h => { h with body := h.body.onLeg .toPocket }).laterLeg

theorem State.dumpedOnce_eq (htq : s.tq = skipRecord id pocket tipple count ovr i left leg :: rest) :
    s.dumpedOnce =
      let v := s.raise .cycleDone id (uword32 left) (uword32 (count - left)) (word32 (s.conv .b).depth) 0
      let r := skipRecord id pocket tipple count ovr i left .toPocket
      if left = 0 then v.complete.enter .idle .sequence id else State.onward { v with tq := r :: rest } r := by
  have hraised : (s.raise .cycleDone id (uword32 left) (uword32 (count - left)) (word32 (s.conv .b).depth) 0).tq =
      skipRecord id pocket tipple count ovr i left leg :: rest := htq
  have hmod := State.modHead_of_cons hraised fun r => { r with body := r.body.onLeg .toPocket }
  have hlater := (congrArg State.laterLeg hmod).trans (State.laterLeg_eq _ rfl)
  rw [State.dumpedOnce, State.activeHead_of_active htq rfl]
  exact if_congr Iff.rfl rfl hlater

theorem State.skipDumped_eq (htq : s.tq = skipRecord id pocket tipple count ovr i left leg :: rest) :
    s.skipDumped =
      let u := ({ s with te := { s.te with dwellTimer := none } }).setLoadClass .b .empty
      let v := ({ u with tq := skipRecord id pocket tipple count ovr i (left - 1) leg :: rest }).raise .cycleDone id
        (uword32 (left - 1)) (uword32 (count - (left - 1))) (word32 (u.conv .b).depth) 0
      let r := skipRecord id pocket tipple count ovr i (left - 1) .toPocket
      if left - 1 = 0 then v.complete.enter .idle .sequence id
      else State.onward { v with tq := r :: rest } r := by
  have hload : (({ s with te := { s.te with dwellTimer := none } }).setLoadClass .b .empty).tq =
      skipRecord id pocket tipple count ovr i left leg :: rest := (State.setLoadClass_tq ..).trans htq
  have hmod := State.modHead_of_cons hload fun r => { r with body := cycledOnce r.body }
  have hdumped : s.skipDumped = State.dumpedOnce
    { ({ s with te := { s.te with dwellTimer := none } }).setLoadClass .b .empty with
      tq := skipRecord id pocket tipple count ovr i (left - 1) leg :: rest } := congrArg State.dumpedOnce hmod
  exact hdumped.trans (State.dumpedOnce_eq rfl)
end signals

/-- Settles O44. -/
theorem skipSignalsEndTheDwell : Obligations.SkipSignalsEndTheDwell := by
  unfold Obligations.SkipSignalsEndTheDwell
  intro e s loaded dumped onward freshLoad freshDump
  have hload (h : freshLoad) : ({ (s.elapse e).lines with skipLoaded := true } : InputLines) ≠ (s.elapse e).lines :=
    fun hc => Bool.false_ne_true (h.symm.trans ((InputLines.skipLoaded_same _).mp hc))
  have hdump (h : freshDump) : ({ (s.elapse e).lines with skipDumped := true } : InputLines) ≠ (s.elapse e).lines :=
    fun hc => Bool.false_ne_true (h.symm.trans ((InputLines.skipDumped_same _).mp hc))
  refine ⟨fun h => ?_, fun h => ?_, fun h hne => ?_, fun h hne => ?_, ?_⟩
  · have hline : (s.elapse e).lines.skipLoaded = true := Bool.eq_true_of_not_eq_false h
    exact congrArg Host.Outcome.next (State.onChange_eq_modLines _ fun hc =>
      absurd ((InputLines.skipLoaded_same _).mpr hline) hc)
  · have hline : (s.elapse e).lines.skipDumped = true := Bool.eq_true_of_not_eq_false h
    exact congrArg Host.Outcome.next (State.onChange_eq_modLines _ fun hc =>
      absurd ((InputLines.skipDumped_same _).mpr hline) hc)
  · exact congrArg Host.Outcome.next ((State.onChange_changed _ _ _ (hload h)).trans (if_neg hne))
  · exact congrArg Host.Outcome.next ((State.onChange_changed _ _ _ (hdump h)).trans (if_neg hne))
  · intro id pocket tipple count left leg ovr i rest rec_ hw htq
    refine ⟨fun h hd => ?_, fun h hd => ?_⟩
    · have htq' : loaded.tq = skipRecord id pocket tipple count ovr i left leg :: rest := htq
      exact congrArg Host.Outcome.next ((State.onChange_changed _ _ _ (hload h)).trans
        ((if_pos ⟨hw, hd⟩).trans (State.skipLoaded_eq htq')))
    · have htq' : dumped.tq = skipRecord id pocket tipple count ovr i left leg :: rest := htq
      exact congrArg Host.Outcome.next ((State.onChange_changed _ _ _ (hdump h)).trans
        ((if_pos ⟨hw, hd⟩).trans (State.skipDumped_eq htq')))

end Sys2Proof.Machine
end

section
/-! Points in a plan (R68), and forced slow points (R82, R83): O53. -/

namespace Sys2Proof.Machine

open Sys2Proof

/-! #### The order of the points of a plan -/

section order
variable {t : Travel} {p q r : PlanPoint} {ps : List PlanPoint}

theorem PlanPoint.before_iff : p.before t q = true ↔
    0 < t.distance p.depth q.depth ∨ (p.depth = q.depth ∧ p.isStop = false ∧ q.isStop = true) := by
  simp [PlanPoint.before, and_assoc]

theorem PlanPoint.merges_iff : q.merges p = true ↔ q.depth = p.depth ∧ q.isStop = p.isStop := by
  simp [PlanPoint.merges]

theorem Travel.distance_pos (a b : Int) : 0 < t.distance a b ↔ a ≠ b ∧ ¬ 0 < t.distance b a := by
  cases t <;> simp only [Travel.distance] <;> omega

theorem PlanPoint.before_trans (h1 : p.before t q = true) (h2 : q.before t r = true) : p.before t r = true := by
  rw [PlanPoint.before_iff] at h1 h2 ⊢
  rcases h1 with h1 | ⟨hd1, hp, hq⟩
  · rcases h2 with h2 | ⟨hd2, -, -⟩
    · left
      cases t <;> simp only [Travel.distance] at h1 h2 ⊢ <;> omega
    · exact .inl (hd2 ▸ h1)
  · rcases h2 with h2 | ⟨-, hq', -⟩
    · exact .inl (hd1 ▸ h2)
    · exact absurd (hq.symm.trans hq') (by decide)

theorem PlanPoint.not_before_of_before (h : p.before t q = true) : q.before t p = false := by
  rw [← Bool.not_eq_true, PlanPoint.before_iff]
  rw [PlanPoint.before_iff] at h
  rintro (h' | ⟨hd, hq, hp⟩)
  · rcases h with h | ⟨hd, -, -⟩
    · exact ((Travel.distance_pos ..).mp h).2 h'
    · exact ((Travel.distance_pos ..).mp h').1 hd.symm
  · rcases h with h | ⟨-, hp', -⟩
    · exact ((Travel.distance_pos ..).mp h).1 hd.symm
    · exact absurd (hp.symm.trans hp') (by decide)

/-- Two points that are not alike stand one before the other. -/
theorem PlanPoint.before_of_not (hm : q.merges p = false) (hb : p.before t q = false) : q.before t p = true := by
  rw [← Bool.not_eq_true, PlanPoint.merges_iff, not_and] at hm
  rw [← Bool.not_eq_true, PlanPoint.before_iff, not_or] at hb
  rw [PlanPoint.before_iff]
  by_cases hd : q.depth = p.depth
  · refine .inr ⟨hd, ?_⟩
    have hkind := hm hd
    have hstop := hb.2
    cases hq : q.isStop <;> cases hp : p.isStop <;> simp_all
  · exact .inl ((Travel.distance_pos ..).mpr ⟨hd, hb.1⟩)

/-- Points that are alike stand before the same points. -/
theorem PlanPoint.before_congr (h : q.merges p = true) :
    r.before t q = r.before t p ∧ q.before t r = p.before t r := by
  obtain ⟨hd, hs⟩ := PlanPoint.merges_iff.mp h
  simp only [PlanPoint.before, hd, hs, true_and]

theorem PlanPoint.not_before_of_merges (h : q.merges p = true) : q.before t p = false := by
  obtain ⟨hd, hs⟩ := PlanPoint.merges_iff.mp h
  rw [← Bool.not_eq_true, PlanPoint.before_iff]
  rintro (h' | ⟨-, hq, hp⟩)
  · exact ((Travel.distance_pos ..).mp h').1 hd
  · exact absurd (hq.symm.trans (hs.trans hp)) (by decide)

/-! #### Two points held as one -/

theorem PlanPoint.lowerId_eq_or (p q : PlanPoint) : p.lowerId q = p ∨ p.lowerId q = q := by
  unfold PlanPoint.lowerId
  split
  · exact .inl rfl
  · exact .inr rfl
  · split
    · exact .inr rfl
    · exact .inl rfl

theorem PlanPoint.merge_eq_or (q p : PlanPoint) : q.merge p = p ∨ q.merge p = q := by
  unfold PlanPoint.merge
  split
  · split_ifs
    · exact .inl rfl
    · exact .inr rfl
    · exact (PlanPoint.lowerId_eq_or q p).symm
  · exact (PlanPoint.lowerId_eq_or q p).symm

theorem PlanPoint.merge_merges (h : q.merges p = true) : (q.merge p).merges p = true := by
  rcases PlanPoint.merge_eq_or q p with he | he
  · rw [he]
    exact PlanPoint.merges_iff.mpr ⟨rfl, rfl⟩
  · rw [he]
    exact h

theorem PlanPoint.merge_slow {c d : Nat} (hq : q.kind = .slow c) (hp : p.kind = .slow d) :
    (q.merge p).kind = .slow (min c d) ∧ (c < d → q.merge p = q) ∧ (d < c → q.merge p = p) := by
  have hm : q.merge p = if d < c then p else if c < d then q else q.lowerId p := by
    rw [PlanPoint.merge, hq, hp]
  rw [hm]
  rcases lt_trichotomy d c with h | rfl | h
  · rw [if_pos h, min_eq_right h.le]
    exact ⟨hp, fun h' => absurd h' (not_lt.mpr h.le), fun _ => rfl⟩
  · rw [if_neg (lt_irrefl _), if_neg (lt_irrefl _), min_self]
    refine ⟨?_, fun h => absurd h (lt_irrefl _), fun h => absurd h (lt_irrefl _)⟩
    rcases PlanPoint.lowerId_eq_or q p with h | h
    · rw [h, hq]
    · rw [h, hp]
  · rw [if_neg (not_lt.mpr h.le), if_pos h, min_eq_left h.le]
    exact ⟨hq, fun _ => rfl, fun h' => absurd h' (not_lt.mpr h.le)⟩

theorem PlanPoint.merge_same_kind (h : q.kind = p.kind) : q.merge p = q.lowerId p := by
  rw [PlanPoint.merge, ← h]
  cases q.kind with
  | stop => rfl
  | slow c => exact (if_neg (lt_irrefl _)).trans (if_neg (lt_irrefl _))

theorem PlanPoint.lowerId_of_none (h : q.watchId = none) : q.lowerId p = q := by
  rw [PlanPoint.lowerId, h]

theorem PlanPoint.lowerId_of_none_right (h : q.watchId ≠ none) (hp : p.watchId = none) : q.lowerId p = p := by
  obtain ⟨i, hi⟩ := Option.ne_none_iff_exists'.mp h
  rw [PlanPoint.lowerId, hi, hp]

theorem PlanPoint.lowerId_watchId {i j : Nat} (hq : q.watchId = some i) (hp : p.watchId = some j) :
    (q.lowerId p).watchId = some (min i j) := by
  have hm : q.lowerId p = if j < i then p else q := by
    rw [PlanPoint.lowerId, hq, hp]
  rw [hm]
  split_ifs with h
  · rw [hp, min_eq_right h.le]
  · rw [hq, min_eq_left (not_lt.mp h)]

/-! #### Placing a point -/

/-- The points of a plan are in order (R68). -/
def PlanPoint.sorted (t : Travel) (ps : List PlanPoint) : Prop := ps.Pairwise fun x y => x.before t y = true

theorem placePoint_cons (q : PlanPoint) (qs : List PlanPoint) : placePoint t p (q :: qs) =
    if q.merges p = true then q.merge p :: qs
    else if p.before t q = true then p :: q :: qs else q :: placePoint t p qs := rfl

/-- A point of a plan without its like joins it in its place. -/
theorem placePoint_of_new (hs : PlanPoint.sorted t ps) (h : ∀ q ∈ ps, q.merges p = false) :
    ∃ before after, ps = before ++ after ∧ placePoint t p ps = before ++ p :: after ∧
      (∀ q ∈ before, q.before t p = true) ∧ ∀ q ∈ after, p.before t q = true := by
  induction ps with
  | nil => exact ⟨[], [], rfl, rfl, by simp, by simp⟩
  | cons q qs ih =>
    obtain ⟨hq, hqs⟩ := List.pairwise_cons.mp hs
    have hm := h q List.mem_cons_self
    rw [placePoint_cons, if_neg (ne_true_of_eq_false hm)]
    by_cases hb : p.before t q = true
    · rw [if_pos hb]
      refine ⟨[], q :: qs, rfl, rfl, by simp, fun x hx => ?_⟩
      rcases List.mem_cons.mp hx with rfl | hx
      · exact hb
      · exact PlanPoint.before_trans hb (hq x hx)
    · rw [if_neg hb]
      obtain ⟨before, after, rfl, hplace, hbefore, hafter⟩ := ih hqs fun x hx => h x (List.mem_cons_of_mem _ hx)
      refine ⟨q :: before, after, rfl, congrArg _ hplace, fun x hx => ?_, hafter⟩
      rcases List.mem_cons.mp hx with rfl | hx
      · exact PlanPoint.before_of_not hm (Bool.eq_false_of_not_eq_true hb)
      · exact hbefore x hx

/-- A point of a plan that holds its like is held with it as one. -/
theorem placePoint_of_alike {before after : List PlanPoint} (hs : PlanPoint.sorted t (before ++ q :: after))
    (h : q.merges p = true) : placePoint t p (before ++ q :: after) = before ++ q.merge p :: after := by
  induction before with
  | nil => exact (placePoint_cons q after).trans (if_pos h)
  | cons x xs ih =>
    rw [List.cons_append] at hs
    obtain ⟨hx, hxs⟩ := List.pairwise_cons.mp hs
    have hxq : x.before t q = true := hx q (List.mem_append_right _ List.mem_cons_self)
    have hxp : x.before t p = true := (PlanPoint.before_congr h).1 ▸ hxq
    have hm : ¬ x.merges p = true := fun hm => by
      rw [PlanPoint.not_before_of_merges hm] at hxp
      cases hxp
    have hb : ¬ p.before t x = true := ne_true_of_eq_false (PlanPoint.not_before_of_before hxp)
    exact (placePoint_cons x _).trans ((if_neg hm).trans ((if_neg hb).trans (congrArg _ (ih hxs))))

theorem placePoint_sorted (hs : PlanPoint.sorted t ps) : PlanPoint.sorted t (placePoint t p ps) := by
  by_cases h : ∃ q ∈ ps, q.merges p = true
  · obtain ⟨q, hq, hm⟩ := h
    obtain ⟨before, after, rfl⟩ := List.append_of_mem hq
    rw [placePoint_of_alike hs hm]
    have hlike : (q.merge p).merges q = true := by
      rcases PlanPoint.merge_eq_or q p with he | he
      · rw [he]
        obtain ⟨hd, hk⟩ := PlanPoint.merges_iff.mp hm
        exact PlanPoint.merges_iff.mpr ⟨hd.symm, hk.symm⟩
      · rw [he]
        exact PlanPoint.merges_iff.mpr ⟨rfl, rfl⟩
    obtain ⟨h1, h2, h3⟩ := List.pairwise_append.mp hs
    obtain ⟨h4, h5⟩ := List.pairwise_cons.mp h2
    refine List.pairwise_append.mpr ⟨h1, List.pairwise_cons.mpr ⟨fun x hx => ?_, h5⟩, fun x hx y hy => ?_⟩
    · rw [(PlanPoint.before_congr hlike).2]
      exact h4 x hx
    · rcases List.mem_cons.mp hy with rfl | hy
      · rw [(PlanPoint.before_congr hlike).1]
        exact h3 x hx q List.mem_cons_self
      · exact h3 x hx y (List.mem_cons_of_mem _ hy)
  · obtain ⟨before, after, rfl, hplace, hbefore, hafter⟩ :=
      placePoint_of_new hs fun q hq => Bool.eq_false_of_not_eq_true fun hm => h ⟨q, hq, hm⟩
    rw [hplace]
    obtain ⟨h1, h2, h3⟩ := List.pairwise_append.mp hs
    refine List.pairwise_append.mpr ⟨h1, List.pairwise_cons.mpr ⟨hafter, h2⟩, fun x hx y hy => ?_⟩
    rcases List.mem_cons.mp hy with rfl | hy
    · exact hbefore x hx
    · exact h3 x hx y hy
end order

/-! #### Forced slow points -/

section forced
variable {s : State}

theorem insertionDistance_eq (l : Limits) (ref cap : Nat) : insertionDistance l ref cap =
    if cap < ref then (ref ^ 2 - cap ^ 2 + 2 * l.aDec - 1) / (2 * l.aDec) else 0 := by
  rw [insertionDistance, ceilDiv, pow_two, pow_two]

theorem Travel.distance_ahead (t : Travel) (x d : Int) : t.distance x (t.ahead x d) = d := by
  cases t <;> simp only [Travel.distance, Travel.ahead] <;> omega

theorem State.coversSlow_iff (d : Int) (cap : Nat) (p : PlanPoint) :
    s.coversSlow d cap p = true ↔ s.pointDistance p ≤ d ∧ ∃ c, p.kind = .slow c ∧ c ≤ cap := by
  unfold State.coversSlow
  cases p.kind with
  | stop => simp
  | slow c => simp

theorem State.isFar_iff (s : State) (d : Int) (p : PlanPoint) :
    (!p.isStop && decide (d < s.pointDistance p)) = true ↔ p.isStop = false ∧ d < s.pointDistance p := by
  rw [Bool.and_eq_true, Bool.not_eq_true', decide_eq_true_iff]

theorem State.insertSlow_eq (id : Nat) {cap n : Nat} {depth : Int} (h : s.te.winder = .winding)
    (hn : insertionDistance s.limits s.rg.refPrev cap = n) (hdepth : s.rg.travel.ahead s.guideDepth n = depth) :
    s.insertSlow id cap s.guideDepth =
      if s.rg.leg.any (s.coversSlow n cap) then (s, true)
      else if s.rg.stop.any fun p => s.pointDistance p ≤ n then (s, true)
      else if s.rg.points.length < 8 then
        ({ s with rg := { s.rg with plan := some (placePoint s.rg.travel
          { kind := .slow cap, depth := depth, origin := .forced, watchId := some id } s.rg.points) } }, true)
      else match s.slowBeyond n with
        | none => (s, false)
        | some p => ({ s with rg := { s.rg with
            plan := some (placePoint s.rg.travel (p.movedTo depth cap) (s.rg.points.erase p)) } }, true) := by
  rw [State.insertSlow, if_neg (not_not.mpr h)]
  dsimp only
  rw [Travel.distance_ahead, hn, hdepth] <;> rfl
end forced

/-- Settles O53. -/
theorem forcedSlowPointIsPlacedOrMoved : Obligations.ForcedSlowPointIsPlacedOrMoved := by
  unfold Obligations.ForcedSlowPointIsPlacedOrMoved
  refine ⟨fun id cap s hw => ?_, fun t p ps => ?_⟩
  · intro l n depth covered beyond slow far put t
    have hn : insertionDistance l s.rg.refPrev cap = n := insertionDistance_eq l s.rg.refPrev cap
    have hcovered : s.rg.leg.any (s.coversSlow n cap) = true ↔ covered := by
      rw [List.any_eq_true]
      exact exists_congr fun p => and_congr_right fun _ => s.coversSlow_iff n cap p
    have hbeyond : (s.rg.stop.any fun p => s.pointDistance p ≤ n) = true ↔ beyond := by
      rw [Option.any_eq_true]
      exact exists_congr fun p => and_congr_right fun _ => decide_eq_true_iff
    have hdepth : s.rg.travel.ahead s.guideDepth n = depth := by
      change _ = (match s.rg.travel with | .down => s.guideDepth + n | .up => s.guideDepth - n)
      cases s.rg.travel <;> rfl
    have hinsert := s.insertSlow_eq id hw hn hdepth
    refine ⟨fun h => ?_, fun hc hb => ?_⟩
    · by_cases hc : covered
      · exact hinsert.trans (if_pos (hcovered.mpr hc))
      · exact hinsert.trans ((if_neg (hc ∘ hcovered.mp)).trans (if_pos (hbeyond.mpr (h.resolve_left hc))))
    · replace hinsert := hinsert.trans ((if_neg (hc ∘ hcovered.mp)).trans (if_neg (hb ∘ hbeyond.mp)))
      refine ⟨fun hlen => hinsert.trans (if_pos hlen), fun hlen hnone => ?_,
        fun before after p hlen hleg hp hbefore c hk => ?_⟩
      · have hfind : s.slowBeyond n = none := by
          refine List.find?_eq_none.mpr fun p hp => ?_
          rw [s.isFar_iff n p]
          exact hnone p hp
        rw [if_neg (not_lt.mpr hlen), hfind] at hinsert
        exact hinsert
      · have hfind : s.slowBeyond n = some p := by
          refine List.find?_eq_some_iff_append.mpr ⟨(s.isFar_iff n p).mpr hp, before, after, hleg, fun q hq => ?_⟩
          rw [Bool.not_eq_true', ← Bool.not_eq_true, s.isFar_iff n q]
          exact hbefore q hq
        have hmoved : p.movedTo depth cap = { p with depth := depth, kind := .slow (min c cap) } := by
          rw [PlanPoint.movedTo, hk]
        rw [if_neg (not_lt.mpr hlen), hfind] at hinsert
        refine hinsert.trans ?_
        dsimp only
        rw [hmoved]
  · intro ahead alike hsorted
    have hrel : (fun x y : PlanPoint => x.before t y = true) = ahead := by
      funext x y
      exact propext PlanPoint.before_iff
    have hs : PlanPoint.sorted t ps := by
      rw [PlanPoint.sorted, hrel]
      exact hsorted
    refine ⟨?_, fun h => ?_, fun before after q hps hq => ?_⟩
    · have hplaced := placePoint_sorted (p := p) hs
      rw [PlanPoint.sorted, hrel] at hplaced
      exact hplaced
    · obtain ⟨before, after, hps, hplace, -, -⟩ :=
        placePoint_of_new hs fun q hq => Bool.eq_false_of_not_eq_true fun hm => h q hq (PlanPoint.merges_iff.mp hm)
      exact ⟨before, after, hps, hplace⟩
    · subst hps
      have hm : q.merges p = true := PlanPoint.merges_iff.mpr hq
      refine ⟨q.merge p, placePoint_of_alike hs hm, PlanPoint.merges_iff.mp (PlanPoint.merge_merges hm),
        PlanPoint.merge_eq_or q p, fun c d hc hd => PlanPoint.merge_slow hc hd, fun hk i j hi hj => ?_, fun hk hi => ?_,
        fun hk hp hi => ?_⟩
      · rw [PlanPoint.merge_same_kind hk, PlanPoint.lowerId_watchId hi hj]
      · rw [PlanPoint.merge_same_kind hk, PlanPoint.lowerId_of_none hi]
      · rw [PlanPoint.merge_same_kind hk, PlanPoint.lowerId_of_none_right hi hp]

end Sys2Proof.Machine
end

section
/-! The build of a plan (R68 to R73, R152): O34 and O35. -/

namespace Sys2Proof.Machine

open Sys2Proof

/-! #### The square root -/

theorem isqrtFrom_spec (n : Nat) : ∀ b r : Nat, r * r ≤ n → n < (r + 2 ^ b) * (r + 2 ^ b) →
    isqrtFrom b n r * isqrtFrom b n r ≤ n ∧ n < (isqrtFrom b n r + 1) * (isqrtFrom b n r + 1)
  | 0, r, hle, hlt => ⟨hle, hlt⟩
  | b + 1, r, hle, hlt => by
    have hdouble : r + 2 ^ (b + 1) = r + 2 ^ b + 2 ^ b := by rw [pow_succ]; omega
    rw [isqrtFrom]
    split_ifs with h
    · exact isqrtFrom_spec n b _ h (hdouble ▸ hlt)
    · exact isqrtFrom_spec n b r hle (not_le.mp h)

theorem isqrt_eq (n : Nat) : isqrt n = Nat.sqrt n := by
  refine Nat.eq_sqrt.mpr (isqrtFrom_spec n _ 0 (Nat.zero_le n) ?_)
  rw [zero_add, ← pow_add]
  refine Nat.lt_log2_self.trans_le (Nat.pow_le_pow_right (by decide) ?_)
  omega

/-! #### The points of a build -/

section points
variable {t : Travel} {p q : PlanPoint} {ps : List PlanPoint}

theorem mem_placePoint {x : PlanPoint} (h : x ∈ placePoint t p ps) : x = p ∨ x ∈ ps := by
  induction ps with
  | nil => exact .inl (List.mem_singleton.mp h)
  | cons q qs ih =>
    rw [placePoint_cons] at h
    split_ifs at h
    · rcases List.mem_cons.mp h with rfl | h
      · exact (PlanPoint.merge_eq_or q p).imp_right fun he => by rw [he]; exact List.mem_cons_self
      · exact .inr (List.mem_cons_of_mem _ h)
    · exact List.mem_cons.mp h
    · rcases List.mem_cons.mp h with rfl | h
      · exact .inr List.mem_cons_self
      · exact (ih h).imp_right (List.mem_cons_of_mem _)

/-- A point placed in a plan whose last point it comes before. -/
theorem placePoint_append (hb : p.before t q = true) : placePoint t p (ps ++ [q]) = placePoint t p ps ++ [q] := by
  have hm : ¬ q.merges p = true := fun hm => by
    obtain ⟨hd, hs⟩ := PlanPoint.merges_iff.mp hm
    rw [PlanPoint.not_before_of_merges (PlanPoint.merges_iff.mpr ⟨hd.symm, hs.symm⟩)] at hb
    cases hb
  induction ps with
  | nil => exact (placePoint_cons q []).trans ((if_neg hm).trans (if_pos hb))
  | cons x xs ih =>
    rw [List.cons_append, placePoint_cons, placePoint_cons, ih]
    split_ifs <;> rfl

/-- Points placed one after another. -/
def placeAll (t : Travel) (l ps : List PlanPoint) : List PlanPoint := l.foldl (fun ps p => placePoint t p ps) ps

theorem mem_placeAll {x : PlanPoint} {l : List PlanPoint} (h : x ∈ placeAll t l ps) : x ∈ l ∨ x ∈ ps := by
  induction l generalizing ps with
  | nil => exact .inr h
  | cons p l ih =>
    rcases ih h with h | h
    · exact .inl (List.mem_cons_of_mem _ h)
    · exact (mem_placePoint h).imp_left fun h => by rw [h]; exact List.mem_cons_self

theorem placeAll_append {l : List PlanPoint} (h : ∀ p ∈ l, p.before t q = true) :
    placeAll t l (ps ++ [q]) = placeAll t l ps ++ [q] := by
  induction l generalizing ps with
  | nil => rfl
  | cons p l ih =>
    have hp : placePoint t p (ps ++ [q]) = placePoint t p ps ++ [q] := placePoint_append (h p List.mem_cons_self)
    exact (congrArg (placeAll t l) hp).trans (ih fun x hx => h x (List.mem_cons_of_mem _ hx))

theorem placeAll_sorted {l : List PlanPoint} (hs : PlanPoint.sorted t ps) : PlanPoint.sorted t (placeAll t l ps) := by
  induction l generalizing ps with
  | nil => exact hs
  | cons p l ih => exact ih (placePoint_sorted hs)

/-- A point stands for another of its depth and kind: a STOP point of a watch id at most as high, or a SLOW point of a
cap at most as high. -/
def standsFor (x p : PlanPoint) : Prop := x.depth = p.depth ∧ match p.kind with
  | .stop => x.kind = .stop ∧ ∃ i j, x.watchId = some i ∧ p.watchId = some j ∧ i ≤ j
  | .slow c => ∃ d ≤ c, x.kind = .slow d
theorem standsFor_self {i : Nat} (h : p.watchId = some i) : standsFor p p := by
  refine ⟨rfl, ?_⟩
  cases hk : p.kind with
  | stop => exact ⟨rfl, i, i, h, h, le_rfl⟩
  | slow c => exact ⟨c, le_rfl, rfl⟩

theorem standsFor_trans {x : PlanPoint} (h1 : standsFor x q) (h2 : standsFor q p) : standsFor x p := by
  obtain ⟨hd1, h1⟩ := h1
  obtain ⟨hd2, h2⟩ := h2
  refine ⟨hd1.trans hd2, ?_⟩
  cases hk : p.kind with
  | stop =>
    rw [hk] at h2
    obtain ⟨hq, i, j, hi, hj, hij⟩ := h2
    rw [hq] at h1
    obtain ⟨hx, k, l, hk, hl, hkl⟩ := h1
    obtain rfl : l = i := Option.some_injective _ (hl.symm.trans hi)
    exact ⟨hx, k, j, hk, hj, hkl.trans hij⟩
  | slow c =>
    rw [hk] at h2
    obtain ⟨d, hd, hq⟩ := h2
    rw [hq] at h1
    obtain ⟨b, hb, hx⟩ := h1
    exact ⟨b, hb.trans hd, hx⟩

/-- Two points of watch entries held as one stand for each. -/
theorem merge_standsFor {i j : Nat} (hm : q.merges p = true) (hq : q.watchId = some i)
    (hp : p.watchId = some j) : standsFor (q.merge p) q ∧ standsFor (q.merge p) p := by
  obtain ⟨hd, hs⟩ := PlanPoint.merges_iff.mp hm
  have hdepth : (q.merge p).depth = p.depth := (PlanPoint.merges_iff.mp (PlanPoint.merge_merges hm)).1
  cases hkq : q.kind with
  | stop =>
    cases hkp : p.kind with
    | stop =>
      have he := PlanPoint.merge_same_kind (hkq.trans hkp.symm)
      have hid : (q.merge p).watchId = some (min i j) := by rw [he, PlanPoint.lowerId_watchId hq hp]
      have hkind : (q.merge p).kind = .stop := by
        rcases PlanPoint.merge_eq_or q p with h | h <;> rw [h] <;> assumption
      refine ⟨⟨hdepth.trans hd.symm, ?_⟩, hdepth, ?_⟩
      · rw [hkq]
        exact ⟨hkind, _, _, hid, hq, min_le_left i j⟩
      · rw [hkp]
        exact ⟨hkind, _, _, hid, hp, min_le_right i j⟩
    | slow d =>
      rw [PlanPoint.isStop, PlanPoint.isStop, hkq, hkp] at hs
      cases hs
  | slow c =>
    cases hkp : p.kind with
    | stop =>
      rw [PlanPoint.isStop, PlanPoint.isStop, hkq, hkp] at hs
      cases hs
    | slow d =>
      obtain ⟨hkind, -, -⟩ := PlanPoint.merge_slow hkq hkp
      refine ⟨⟨hdepth.trans hd.symm, ?_⟩, hdepth, ?_⟩
      · rw [hkq]
        exact ⟨_, min_le_left c d, hkind⟩
      · rw [hkp]
        exact ⟨_, min_le_right c d, hkind⟩

/-- Every point that is placed, and every one of the plan, has one that stands for it. -/
theorem placePoint_standsFor (hs : PlanPoint.sorted t ps) (hids : ∀ q ∈ ps, ∃ i, q.watchId = some i)
    (hp : ∃ i, p.watchId = some i) : ∀ q, q = p ∨ q ∈ ps → ∃ x ∈ placePoint t p ps, standsFor x q := by
  obtain ⟨j, hp⟩ := hp
  by_cases hlike : ∃ q ∈ ps, q.merges p = true
  · obtain ⟨q, hq, hm⟩ := hlike
    obtain ⟨i, hi⟩ := hids q hq
    obtain ⟨before, after, rfl⟩ := List.append_of_mem hq
    obtain ⟨hforq, hforp⟩ := merge_standsFor hm hi hp
    rw [placePoint_of_alike hs hm]
    have hmid : q.merge p ∈ before ++ q.merge p :: after := List.mem_append_right _ List.mem_cons_self
    rintro y (rfl | hy)
    · exact ⟨_, hmid, hforp⟩
    · obtain ⟨k, hk⟩ := hids y hy
      rcases List.mem_append.mp hy with hy | hy
      · exact ⟨y, List.mem_append_left _ hy, standsFor_self hk⟩
      · rcases List.mem_cons.mp hy with rfl | hy
        · exact ⟨_, hmid, hforq⟩
        · exact ⟨y, List.mem_append_right _ (List.mem_cons_of_mem _ hy), standsFor_self hk⟩
  · obtain ⟨before, after, rfl, hplace, -, -⟩ :=
      placePoint_of_new hs fun q hq => Bool.eq_false_of_not_eq_true fun hm => hlike ⟨q, hq, hm⟩
    rw [hplace]
    rintro y (rfl | hy)
    · exact ⟨y, List.mem_append_right _ List.mem_cons_self, standsFor_self hp⟩
    · obtain ⟨k, hk⟩ := hids y hy
      refine ⟨y, ?_, standsFor_self hk⟩
      rcases List.mem_append.mp hy with hy | hy
      · exact List.mem_append_left _ hy
      · exact List.mem_append_right _ (List.mem_cons_of_mem _ hy)

theorem placeAll_standsFor {l : List PlanPoint} (hs : PlanPoint.sorted t ps)
    (hids : ∀ q ∈ ps, ∃ i, q.watchId = some i) (hl : ∀ q ∈ l, ∃ i, q.watchId = some i) :
    ∀ q, q ∈ l ∨ q ∈ ps → ∃ x ∈ placeAll t l ps, standsFor x q := by
  induction l generalizing ps with
  | nil =>
    rintro q (hq | hq)
    · cases hq
    · obtain ⟨i, hi⟩ := hids q hq
      exact ⟨q, hq, standsFor_self hi⟩
  | cons p l ih =>
    have hp := hl p List.mem_cons_self
    have hplaced : ∀ q ∈ placePoint t p ps, ∃ i, q.watchId = some i := fun q hq =>
      (mem_placePoint hq).elim (fun h => h ▸ hp) (hids q)
    have hrest := ih (placePoint_sorted hs) hplaced fun q hq => hl q (List.mem_cons_of_mem _ hq)
    have hpoint (q : PlanPoint) (h : q = p ∨ q ∈ ps) : ∃ x ∈ placeAll t (p :: l) ps, standsFor x q := by
      obtain ⟨y, hy, hyq⟩ := placePoint_standsFor hs hids hp q h
      obtain ⟨x, hx, hxy⟩ := hrest y (.inr hy)
      exact ⟨x, hx, standsFor_trans hxy hyq⟩
    rintro q (hq | hq)
    · rcases List.mem_cons.mp hq with rfl | hq
      · exact hpoint q (.inl rfl)
      · exact hrest q (.inl hq)
    · exact hpoint q (.inr hq)
end points

/-! #### The binding of the tagged entries -/

section binding
variable (s : State) (r : TripRecord)

/-- The direction of a build (R69 step 3). -/
def State.buildTravel : Travel := if (s.conv r.body.guide).depth ≤ s.finalDepth r.body then .down else .up

/-- The distance of a depth from the guide, in the direction of a build. -/
def State.buildDistance (x : Int) : Int := (s.buildTravel r).distance (s.conv r.body.guide).depth x

/-- The binding that a build gives an entry (R152). -/
def State.buildBinding (w : WatchEntry) : Option (BindKind × Int) :=
  s.bindEntry r.id r.body.guide (s.buildTravel r) (s.buildDistance r (s.finalDepth r.body)) w

theorem tableGet_tableMap {α β : Type} {n : Nat} (f : α → β) (v : Vector (Option α) n) (i : Nat) :
    tableGet (tableMap (fun o => o.map f) v) i = (tableGet v i).map f := by
  rw [tableGet_eq, tableGet_eq, tableMap, Vector.toList_mk, List.getElem?_map]
  cases v.toList[i]? with
  | none => rfl
  | some o => rfl

theorem State.build_entry (id : Nat) : tableGet (s.build r).entries id =
    (s.watch id).map fun w => { w with bound := s.buildBinding r w } := tableGet_tableMap ..

/-- The final point of a build (R69 step 2). -/
def State.buildFinal : PlanPoint :=
  { kind := .stop, depth := s.finalDepth r.body, origin := finalOrigin r.body, watchId := none }

/-- The points of the bound entries of a build (R69 step 4). -/
def State.buildTagged : List PlanPoint :=
  (tableEntries (s.build r).entries).filterMap fun x => x.2.bound.bind (taggedPoint x.1 x.2)

theorem State.build_points : (s.build r).points = placeAll (s.buildTravel r) (s.buildTagged r) [s.buildFinal r] := rfl

/-- An entry applies to a build, and acts at a depth in range (R152). -/
def State.buildApplies (w : WatchEntry) : Prop := s.applies r.id r.body.guide (s.buildTravel r) w = true ∧
  -200000 ≤ s.boundDepth r.body.guide w ∧ s.boundDepth r.body.guide w ≤ 3400000

/-- A depth lies between the land windows of a build (R69 step 4). -/
def State.buildInside (x : Int) : Prop := (s.limits.landWindow : Int) < s.buildDistance r x ∧
  s.buildDistance r x < s.buildDistance r (s.finalDepth r.body) - s.limits.landWindow

variable {s r} {w : WatchEntry}

theorem State.buildBinding_of_not (h : ¬ s.buildApplies r w) : s.buildBinding r w = none := if_neg h

theorem State.buildBinding_notify (ha : w.action = .notify) (h : s.buildApplies r w) : s.buildBinding r w =
    if 0 < s.buildDistance r (s.boundDepth r.body.guide w) ∧
      s.buildDistance r (s.boundDepth r.body.guide w) ≤ s.buildDistance r (s.finalDepth r.body) then
      some (.notify, s.boundDepth r.body.guide w)
    else none := by
  refine (if_pos h).trans ?_
  rw [ha]
  rfl

theorem State.buildBinding_slow {cap : Nat} (ha : w.action = .slow cap) (h : s.buildApplies r w) :
    (s.buildInside r (s.boundDepth r.body.guide w) → s.buildBinding r w = some (.slow, s.boundDepth r.body.guide w)) ∧
    (¬ s.buildInside r (s.boundDepth r.body.guide w) → s.buildBinding r w = none) := by
  have hb : s.buildBinding r w = (_ : Option (BindKind × Int)) := if_pos h
  rw [ha] at hb
  exact ⟨fun hin => hb.trans (if_pos hin), fun hin => hb.trans (if_neg hin)⟩

theorem State.buildBinding_stop (ha : w.action = .stop) (h : s.buildApplies r w) :
    (s.buildInside r (s.boundDepth r.body.guide w) → s.buildBinding r w = some (.stop, s.boundDepth r.body.guide w)) ∧
    (¬ s.buildInside r (s.boundDepth r.body.guide w) → s.buildBinding r w = none) := by
  have hb : s.buildBinding r w = (_ : Option (BindKind × Int)) := if_pos h
  rw [ha] at hb
  exact ⟨fun hin => hb.trans (if_pos hin), fun hin => hb.trans (if_neg hin)⟩

/-- A bound STOP or SLOW entry lies between the land windows. -/
theorem State.buildBinding_some {k : BindKind} {x : Int} (h : s.buildBinding r w = some (k, x)) :
    (k = .notify ∧ w.action = .notify) ∨
    (((k = .stop ∧ w.action = .stop) ∨ (k = .slow ∧ ∃ cap, w.action = .slow cap)) ∧ s.buildInside r x) := by
  have happlies : s.buildApplies r w := by
    by_contra hn
    rw [State.buildBinding_of_not hn] at h
    cases h
  cases ha : w.action with
  | notify =>
    rw [State.buildBinding_notify ha happlies] at h
    split_ifs at h
    cases h
    exact .inl ⟨rfl, rfl⟩
  | slow cap =>
    obtain ⟨hin, hout⟩ := State.buildBinding_slow ha happlies
    by_cases hx : s.buildInside r (s.boundDepth r.body.guide w)
    · rw [hin hx] at h
      cases h
      exact .inr ⟨.inr ⟨rfl, cap, rfl⟩, hx⟩
    · rw [hout hx] at h
      cases h
  | stop =>
    obtain ⟨hin, hout⟩ := State.buildBinding_stop ha happlies
    by_cases hx : s.buildInside r (s.boundDepth r.body.guide w)
    · rw [hin hx] at h
      cases h
      exact .inr ⟨.inl ⟨rfl, rfl⟩, hx⟩
    · rw [hout hx] at h
      cases h
end binding

/-! #### The points of the bound entries -/

section tagged
variable {s : State} {r : TripRecord} {p : PlanPoint} {w : WatchEntry} {id : Nat}

theorem State.entry_bound (h : tableGet (s.build r).entries id = some w) {k : BindKind} {x : Int}
    (hb : w.bound = some (k, x)) : (k = .notify ∧ w.action = .notify) ∨
      (((k = .stop ∧ w.action = .stop) ∨ (k = .slow ∧ ∃ cap, w.action = .slow cap)) ∧ s.buildInside r x) := by
  rw [State.build_entry] at h
  obtain ⟨v, -, rfl⟩ := Option.map_eq_some_iff.mp h
  exact State.buildBinding_some hb

theorem State.mem_buildTagged : p ∈ s.buildTagged r ↔ ∃ id w, tableGet (s.build r).entries id = some w ∧
    ∃ b, w.bound = some b ∧ taggedPoint id w b = some p := by
  rw [State.buildTagged, List.mem_filterMap]
  constructor
  · rintro ⟨⟨id, w⟩, hmem, hp⟩
    exact ⟨id, w, mem_tableEntries.mp hmem, Option.bind_eq_some_iff.mp hp⟩
  · rintro ⟨id, w, hw, hp⟩
    exact ⟨(id, w), mem_tableEntries.mpr hw, Option.bind_eq_some_iff.mpr hp⟩

/-- Each of the points is a bound entry's, and lies between the land windows. -/
theorem State.buildTagged_point (h : p ∈ s.buildTagged r) : ∃ id w, p.watchId = some id ∧ p.origin = .tagged ∧
    tableGet (s.build r).entries id = some w ∧ s.buildInside r p.depth ∧
      ((p.kind = .stop ∧ w.bound = some (.stop, p.depth)) ∨
        ∃ cap, p.kind = .slow cap ∧ w.action = .slow cap ∧ w.bound = some (.slow, p.depth)) := by
  obtain ⟨id, w, hw, ⟨k, x⟩, hb, hp⟩ := State.mem_buildTagged.mp h
  rcases State.entry_bound hw hb with ⟨-, ha⟩ | ⟨⟨rfl, ha⟩ | ⟨rfl, cap, ha⟩, hin⟩
  · rw [taggedPoint, ha] at hp
    cases hp
  · rw [taggedPoint, ha] at hp
    cases hp
    exact ⟨id, w, rfl, rfl, hw, hin, .inl ⟨rfl, hb⟩⟩
  · rw [taggedPoint, ha] at hp
    cases hp
    exact ⟨id, w, rfl, rfl, hw, hin, .inr ⟨cap, rfl, ha, hb⟩⟩

theorem State.buildTagged_of_stop {x : Int} (hw : tableGet (s.build r).entries id = some w)
    (hb : w.bound = some (.stop, x)) :
    { kind := .stop, depth := x, origin := .tagged, watchId := some id } ∈ s.buildTagged r := by
  refine State.mem_buildTagged.mpr ⟨id, w, hw, _, hb, ?_⟩
  rcases State.entry_bound hw hb with ⟨hk, -⟩ | ⟨⟨-, ha⟩ | ⟨hk, -⟩, -⟩
  · cases hk
  · rw [taggedPoint, ha]
  · cases hk

theorem State.buildTagged_of_slow {x : Int} {cap : Nat} (hw : tableGet (s.build r).entries id = some w)
    (hb : w.bound = some (.slow, x)) (ha : w.action = .slow cap) :
    { kind := .slow cap, depth := x, origin := .tagged, watchId := some id } ∈ s.buildTagged r := by
  refine State.mem_buildTagged.mpr ⟨id, w, hw, _, hb, ?_⟩
  rw [taggedPoint, ha]

theorem State.buildDistance_pos (s : State) (r : TripRecord) (x y : Int) :
    0 < (s.buildTravel r).distance x y ↔ s.buildDistance r x < s.buildDistance r y := by
  rw [State.buildDistance, State.buildDistance]
  cases s.buildTravel r <;> simp only [Travel.distance] <;> omega

theorem State.buildTagged_before (h : p ∈ s.buildTagged r) : p.before (s.buildTravel r) (s.buildFinal r) = true := by
  obtain ⟨-, -, -, -, -, ⟨-, hin⟩, -⟩ := State.buildTagged_point h
  refine PlanPoint.before_iff.mpr (.inl ((s.buildDistance_pos r ..).mpr (hin.trans_le ?_)))
  exact Int.sub_le_self _ (Int.natCast_nonneg _)

/-- The points of a build before the final one. -/
def State.buildBefore (s : State) (r : TripRecord) : List PlanPoint := placeAll (s.buildTravel r) (s.buildTagged r) []

theorem State.build_points_append (s : State) (r : TripRecord) :
    (s.build r).points = s.buildBefore r ++ [s.buildFinal r] :=
  (s.build_points r).trans (placeAll_append (ps := []) fun _ h => State.buildTagged_before h)

theorem State.mem_buildBefore (h : p ∈ s.buildBefore r) : p ∈ s.buildTagged r :=
  (mem_placeAll h).resolve_right List.not_mem_nil

theorem State.buildBefore_standsFor (h : p ∈ s.buildTagged r) : ∃ x ∈ s.buildBefore r, standsFor x p :=
  placeAll_standsFor List.Pairwise.nil (fun q hq => absurd hq List.not_mem_nil) (fun q hq => by
    obtain ⟨id, -, hid, -⟩ := State.buildTagged_point hq
    exact ⟨id, hid⟩) p (.inl h)

theorem State.build_sorted (s : State) (r : TripRecord) : PlanPoint.sorted (s.buildTravel r) (s.build r).points := by
  rw [State.build_points]
  exact placeAll_sorted (List.pairwise_singleton ..)

theorem State.buildDistance_final (s : State) (r : TripRecord) : 0 ≤ s.buildDistance r (s.finalDepth r.body) := by
  rw [State.buildDistance, State.buildTravel]
  split_ifs with h
  · exact Int.sub_nonneg.mpr h
  · exact Int.sub_nonneg.mpr (not_le.mp h).le
end tagged

/-! #### The trip speed limit -/

section limit
variable (s : State) (r : TripRecord)

/-- The bounds of the trip speed limit that do not depend on the position (R70). -/
def State.limitBounds : List Nat := [s.limits.ofMode r.body.mode] ++ r.override.toList
  ++ (if s.te.unitMode = .inspection then [s.limits.inspectionLimit] else [])
  ++ (if s.cc.state ≠ .engaged then [s.limits.declutchedSpeed] else [])

/-- A conveyance of a moving drum is UNCERTAIN. -/
def State.buildLost : Prop := ∃ c : Conv, (c = .a ∨ r.body.guide = .b ∨ s.cc.state = .engaged) ∧
  (s.conv c).certainty = .uncertain

/-- A speed held to a bound where a condition holds. -/
def capped (P : Prop) [Decidable P] (x v : Nat) : Nat := if P then min x v else x

theorem capped_spec (P : Prop) [Decidable P] (x v : Nat) :
    capped P x v ≤ x ∧ (P → capped P x v ≤ v) ∧ (capped P x v = x ∨ (P ∧ capped P x v = v)) := by
  unfold capped
  split_ifs with h
  · exact ⟨min_le_left .., fun _ => min_le_right .., (min_choice x v).imp_right fun he => ⟨h, he⟩⟩
  · exact ⟨le_rfl, fun hp => absurd hp h, .inl rfl⟩

/-- A speed held to the override of a trip. -/
def overridden (x : Nat) (o : Option Nat) : Nat :=
  match o with
  | none => x
  | some v => min x v

theorem overridden_spec (x : Nat) (o : Option Nat) :
    overridden x o ≤ x ∧ (∀ v ∈ o.toList, overridden x o ≤ v) ∧ (overridden x o = x ∨ overridden x o ∈ o.toList) := by
  cases o with
  | none => exact ⟨le_rfl, fun v hv => absurd hv List.not_mem_nil, .inl rfl⟩
  | some v =>
    refine ⟨min_le_left .., fun u hu => ?_, (min_choice x v).imp_right fun he => ?_⟩
    · rw [List.mem_singleton.mp hu]
      exact min_le_right ..
    · exact List.mem_singleton.mpr he

theorem State.mem_limitBounds {v : Nat} : v ∈ s.limitBounds r ↔ v = s.limits.ofMode r.body.mode ∨
    v ∈ r.override.toList ∨ (s.te.unitMode = .inspection ∧ v = s.limits.inspectionLimit) ∨
    (s.cc.state ≠ .engaged ∧ v = s.limits.declutchedSpeed) := by
  have hone (P : Prop) [Decidable P] (x : Nat) : v ∈ (if P then [x] else []) ↔ P ∧ v = x := by
    split_ifs with h <;> simp [h]
  rw [State.limitBounds, List.mem_append, List.mem_append, List.mem_append, List.mem_singleton, hone, hone, or_assoc,
    or_assoc]

/-- A conveyance of a moving drum is UNCERTAIN, as the limit tests it (R70). -/
def State.movesLost (c : Conv) : Bool := s.movesIn r.body c && (s.conv c).certainty = .uncertain

theorem State.movesLost_iff : (s.movesLost r .a = true ∨ s.movesLost r .b = true) ↔ s.buildLost r := by
  have hconv (c : Conv) : s.movesLost r c = true ↔ (c = .a ∨ r.body.guide = .b ∨ s.cc.state = .engaged) ∧
      (s.conv c).certainty = .uncertain := by
    simp [State.movesLost, State.movesIn, or_assoc]
  rw [hconv, hconv]
  constructor
  · rintro (h | h)
    · exact ⟨_, h⟩
    · exact ⟨_, h⟩
  · rintro ⟨c, h⟩
    cases c
    · exact .inl h
    · exact .inr h

theorem State.tripLimit_spec : (∀ v ∈ s.limitBounds r, s.tripLimit r ≤ v) ∧
    (s.buildLost r → s.tripLimit r ≤ s.limits.uncertainSpeed) ∧
    (s.tripLimit r ∈ s.limitBounds r ∨ (s.buildLost r ∧ s.tripLimit r = s.limits.uncertainSpeed)) := by
  have hdef : s.tripLimit r = capped (s.cc.state ≠ .engaged) (capped (s.movesLost r .a = true ∨ s.movesLost r .b = true)
      (capped (s.te.unitMode = .inspection) (overridden (s.limits.ofMode r.body.mode) r.override)
        s.limits.inspectionLimit) s.limits.uncertainSpeed) s.limits.declutchedSpeed := rfl
  obtain ⟨hle2, hbound2, hmem2⟩ := overridden_spec (s.limits.ofMode r.body.mode) r.override
  obtain ⟨hle3, hbound3, hmem3⟩ := capped_spec (s.te.unitMode = .inspection)
    (overridden (s.limits.ofMode r.body.mode) r.override) s.limits.inspectionLimit
  obtain ⟨hle4, hbound4, hmem4⟩ := capped_spec (s.movesLost r .a = true ∨ s.movesLost r .b = true)
    (capped (s.te.unitMode = .inspection) (overridden (s.limits.ofMode r.body.mode) r.override)
      s.limits.inspectionLimit)
    s.limits.uncertainSpeed
  obtain ⟨hle5, hbound5, hmem5⟩ := capped_spec (s.cc.state ≠ .engaged)
    (capped (s.movesLost r .a = true ∨ s.movesLost r .b = true) (capped (s.te.unitMode = .inspection)
      (overridden (s.limits.ofMode r.body.mode) r.override) s.limits.inspectionLimit) s.limits.uncertainSpeed)
    s.limits.declutchedSpeed
  rw [← hdef] at hle5 hbound5 hmem5
  have hle := hle5.trans hle4
  refine ⟨fun v hv => ?_, fun h => hle5.trans (hbound4 ((s.movesLost_iff r).mpr h)), ?_⟩
  · rcases (s.mem_limitBounds r).mp hv with rfl | hv | ⟨hi, rfl⟩ | ⟨hc, rfl⟩
    · exact hle.trans (hle3.trans hle2)
    · exact hle.trans (hle3.trans (hbound2 v hv))
    · exact hle.trans (hbound3 hi)
    · exact hbound5 hc
  · rw [s.mem_limitBounds r]
    rcases hmem5 with h5 | h5
    · rcases hmem4 with h4 | ⟨hlost, h4⟩
      · rcases hmem3 with h3 | h3
        · rcases hmem2 with h2 | h2
          · exact .inl (.inl (h5.trans (h4.trans (h3.trans h2))))
          · rw [← h3, ← h4, ← h5] at h2
            exact .inl (.inr (.inl h2))
        · exact .inl (.inr (.inr (.inl ⟨h3.1, h5.trans (h4.trans h3.2)⟩)))
      · exact .inr ⟨(s.movesLost_iff r).mp hlost, h5.trans h4⟩
    · exact .inl (.inr (.inr (.inr h5)))
end limit

/-! #### The planned leg time -/

section legTime
variable {l : Limits} {x : Int} {limit : Nat}

theorem legTime_of_short (h : x.toNat ≤ l.dCreep) : legTime l x limit =
    ceilDiv (min l.vCreep limit * 1000) l.aAcc + ceilDiv (x.toNat * 1000) (min l.vCreep limit) := if_pos h

/-- The time of a leg that reaches a speed, cruises and creeps (R73). -/
def legTimeAt (l : Limits) (vc v cruise : Nat) : Nat := ceilDiv (v * 1000) l.aAcc + ceilDiv (cruise * 1000) v +
  ceilDiv ((v - vc) * 1000) l.aDec + ceilDiv (l.dCreep * 1000) vc

/-- The distances of acceleration and of retardation of a leg (R73). -/
def rampLength (l : Limits) (limit : Nat) : Nat := ceilDiv (limit ^ 2) (2 * l.aAcc)
def brakeLength (l : Limits) (limit : Nat) : Nat := ceilDiv (limit ^ 2 - (min l.vCreep limit) ^ 2) (2 * l.aDec)

theorem legTime_of_long (h : ¬ x.toNat ≤ l.dCreep) : legTime l x limit =
    if rampLength l limit + brakeLength l limit ≤ x.toNat - l.dCreep then
      legTimeAt l (min l.vCreep limit) limit (x.toNat - l.dCreep - rampLength l limit - brakeLength l limit)
    else legTimeAt l (min l.vCreep limit) (max (min l.vCreep limit) (Nat.sqrt ((2 * l.aAcc * l.aDec *
      (x.toNat - l.dCreep) + l.aAcc * (min l.vCreep limit) ^ 2) / (l.aAcc + l.aDec)))) 0 := by
  rw [rampLength, brakeLength, pow_two, pow_two, ← isqrt_eq]
  refine (if_neg h).trans ?_
  split_ifs <;> rfl
end legTime

/-- Settles O34. -/
theorem planBuildOrdersItsPointsUnderItsLimit : Obligations.PlanBuildOrdersItsPointsUnderItsLimit := by
  unfold Obligations.PlanBuildOrdersItsPointsUnderItsLimit
  refine ⟨fun s r => ?_, fun s r => s.tripLimit_spec r⟩
  intro b distance final
  refine ⟨⟨s.buildBefore r, s.build_points_append r, fun p hp => ?_⟩, s.buildDistance_final r, ?_, b.fits_iff⟩
  · obtain ⟨-, -, -, horigin, -, ⟨hlo, hhi⟩, -⟩ := State.buildTagged_point (State.mem_buildBefore hp)
    exact ⟨hlo, hhi, horigin⟩
  · refine (s.build_sorted r).imp fun {x y} h => ?_
    exact (PlanPoint.before_iff.mp h).imp_left (s.buildDistance_pos r ..).mp

/-- Settles O35. -/
theorem buildBindsTheTaggedEntries : Obligations.BuildBindsTheTaggedEntries := by
  unfold Obligations.BuildBindsTheTaggedEntries
  refine ⟨fun s r => ?_, fun l x limit => ?_, fun b s => rfl⟩
  · intro b guide here finish window distance downward applies depth inside entry
    have htravel : s.buildTravel r = if here ≤ finish then .down else .up := rfl
    have hdistance (x : Int) : s.buildDistance r x = distance x := by
      change (s.buildTravel r).distance here x = if here ≤ finish then x - here else here - x
      rw [htravel]
      split_ifs <;> rfl
    have hinside (x : Int) : s.buildInside r x ↔ inside x := by
      rw [State.buildInside, hdistance, hdistance]
    have hdown (c : Conv) : travelOf guide (s.buildTravel r) c = if downward c then .down else .up := by
      rw [travelOf, htravel]
      by_cases hc : c = guide <;> by_cases hh : here ≤ finish <;> simp [downward, hc, hh, Travel.opposite]
    have happlies (w : WatchEntry) : s.buildApplies r w ↔ applies w ∧ -200000 ≤ depth w ∧ depth w ≤ 3400000 := by
      refine and_congr_left fun _ => ?_
      have hadmits : w.facing.admits (travelOf guide (s.buildTravel r) w.conv) = true ↔ w.facing = .either ∨
          (w.facing = .down ∧ downward w.conv) ∨ (w.facing = .up ∧ ¬ downward w.conv) := by
        rw [hdown]
        by_cases hd : downward w.conv <;> cases w.facing <;> simp [hd, Facing.admits]
      rw [State.applies, Bool.and_eq_true, Bool.and_eq_true, Bool.and_eq_true, hadmits]
      simp [applies, guide, and_assoc]
    have hentry (id : Nat) (w : WatchEntry) (h : s.watch id = some w) :
        entry id = some { w with bound := s.buildBinding r w } := by
      refine (s.build_entry r id).trans ?_
      rw [h]
      rfl
    refine ⟨rfl, htravel, fun id h => ?_, fun id w h => ?_, fun id w x h => ?_, fun p hp => ?_, ?_⟩
    · refine (s.build_entry r id).trans ?_
      rw [h]
      rfl
    · intro x bound fits
      have he := hentry id w h
      have hbound (o : Option (BindKind × Int)) (ho : s.buildBinding r w = o) : bound o := ho ▸ he
      have hnone (hn : ¬ fits) : bound none := hbound none (State.buildBinding_of_not (hn ∘ (happlies w).mp))
      have hx : s.buildDistance r (s.boundDepth r.body.guide w) = distance x := hdistance _
      have hfinish : s.buildDistance r (s.finalDepth r.body) = distance finish := hdistance _
      refine ⟨hnone, fun hf ha hlo hhi => ?_, fun ha hout => ?_, fun hf ha hin => ?_, fun hf cap ha hin => ?_,
        fun ha hout => ?_⟩
      · have hb := State.buildBinding_notify ha ((happlies w).mpr hf)
        rw [hx, hfinish] at hb
        exact hbound _ (hb.trans (if_pos ⟨hlo, hhi⟩))
      · by_cases hf : fits
        · have hb := State.buildBinding_notify ha ((happlies w).mpr hf)
          rw [hx, hfinish] at hb
          exact hbound _ (hb.trans (if_neg fun hin => hout.elim (not_le.mpr hin.1) (not_lt.mpr hin.2)))
        · exact hnone hf
      · exact hbound _ ((State.buildBinding_stop ha ((happlies w).mpr hf)).1 ((hinside x).mpr hin))
      · exact hbound _ ((State.buildBinding_slow ha ((happlies w).mpr hf)).1 ((hinside x).mpr hin))
      · by_cases hf : fits
        · cases hact : w.action with
          | notify => exact absurd hact ha
          | stop => exact hbound _ ((State.buildBinding_stop hact ((happlies w).mpr hf)).2 (hout ∘ (hinside x).mp))
          | slow cap => exact hbound _ ((State.buildBinding_slow hact ((happlies w).mpr hf)).2 (hout ∘ (hinside x).mp))
        · exact hnone hf
    · refine ⟨fun hb => ?_, fun hb cap ha => ?_⟩
      · obtain ⟨p, hp, hd, hk⟩ := State.buildBefore_standsFor (State.buildTagged_of_stop h hb)
        obtain ⟨hkind, i, j, hi, hj, hij⟩ := hk
        cases hj
        exact ⟨p, by rw [s.build_points_append]; exact List.mem_append_left _ hp, hkind, hd, i, hij, hi⟩
      · obtain ⟨p, hp, hd, hk⟩ := State.buildBefore_standsFor (State.buildTagged_of_slow h hb ha)
        exact ⟨p, by rw [s.build_points_append]; exact List.mem_append_left _ hp, hd, hk⟩
    · have hbefore : b.points.dropLast = s.buildBefore r := by
        rw [s.build_points_append, List.dropLast_concat]
      rw [hbefore] at hp
      obtain ⟨id, w, hid, -, hw, -, hk⟩ := State.buildTagged_point (State.mem_buildBefore hp)
      exact ⟨id, w, hid, hw, hk⟩
    · have hleg : b.legTime = legTime s.limits ((((legOf b.points).find? PlanPoint.isStop).map fun p =>
          s.buildDistance r p.depth).getD 0) b.limit := rfl
      simp only [hdistance] at hleg
      exact hleg
  · intro up d vc d' sa sd time
    exact ⟨fun h => legTime_of_short h, fun h hle => (legTime_of_long (not_le.mpr h)).trans (if_pos hle),
      fun h hlt => (legTime_of_long (not_le.mpr h)).trans (if_neg (not_le.mpr hlt))⟩

end Sys2Proof.Machine
end

section
/-! The Watch Table at a Sample record and at a landing (R149 to R151, R154 to R156): O52. -/

namespace Sys2Proof.Machine

open Sys2Proof

section watch
variable {s : State} {id : Nat} {w : WatchEntry} {found : WinderState}

theorem entryActed_eq (w : WatchEntry) : entryActed w =
    if w.persistence = .once then none else some { w with bound := none } := by
  rw [entryActed]
  cases w.persistence <;> rfl

theorem State.fire_eq (code : Nat) : s.fire id w code =
    ({ s with
        wt := s.wt.setIfInBounds id
          (if w.persistence = Persistence.once then none else some { w with bound := none }) }).raise .watchFired
      s.activeId (uword32 id) (uword32 code) (word32 (s.conv w.conv).depth)
      (uword32 (if w.persistence = Persistence.once then 1 else 0)) := by
  rw [State.fire, entryActed_eq]
  rfl

theorem crossing_iff (prev last x : Int) (t : Travel) : crossing prev last x = some t ↔
    match t with
    | .down => prev < x ∧ x ≤ last
    | .up => x < prev ∧ last ≤ x := by
  unfold crossing
  cases t with
  | down => split_ifs <;> simp_all
  | up =>
    split_ifs with h1 h2
    · simp only [Option.some.injEq, reduceCtorEq, false_iff, not_and]
      omega
    · simpa using h2
    · simpa using h2

theorem State.forcedCrossed_iff : s.forcedCrossed w = true ↔
    ((s.conv w.conv).prevDepth < w.depth ∧ w.depth ≤ (s.conv w.conv).depth ∧
      (w.facing = .down ∨ w.facing = .either)) ∨
    (w.depth < (s.conv w.conv).prevDepth ∧ (s.conv w.conv).depth ≤ w.depth ∧
      (w.facing = .up ∨ w.facing = .either)) := by
  have hadmits (t : Travel) : w.facing.admits t = true ↔ match t with
      | .down => w.facing = .down ∨ w.facing = .either
      | .up => w.facing = .up ∨ w.facing = .either := by
    cases t <;> cases w.facing <;> simp [Facing.admits]
  have hdown := crossing_iff (s.conv w.conv).prevDepth (s.conv w.conv).depth w.depth .down
  have hup := crossing_iff (s.conv w.conv).prevDepth (s.conv w.conv).depth w.depth .up
  dsimp only at hdown hup
  unfold State.forcedCrossed
  rw [← and_assoc, ← and_assoc, ← hdown, ← hup]
  cases crossing (s.conv w.conv).prevDepth (s.conv w.conv).depth w.depth with
  | none => simp
  | some t => cases t <;> simp [hadmits]

theorem State.boundCrossed_iff (b : Int) : s.boundCrossed b = true ↔ match s.rg.travel with
    | .down => (s.conv s.rg.guide).prevDepth < b ∧ b ≤ s.guideDepth
    | .up => b < (s.conv s.rg.guide).prevDepth ∧ s.guideDepth ≤ b :=
  decide_eq_true_iff.trans (crossing_iff ..)

theorem State.testWatch_forced (hw : s.watch id = some w) (hb : w.binding = .forced) :
    State.testWatch found s id = if s.forcedCrossed w then s.fireForced id w found else s := by
  rw [State.testWatch, hw]
  dsimp only
  rw [hb]

theorem State.testWatch_tagged (hw : s.watch id = some w) (hb : w.binding = .tagged) :
    State.testWatch found s id = s.fireBound id w := by
  rw [State.testWatch, hw]
  dsimp only
  rw [hb]

theorem State.testWatch_none (hw : s.watch id = none) : State.testWatch found s id = s := by
  rw [State.testWatch, hw]

/-- A slow point that is not placed leaves everything as it was. -/
theorem State.insertSlow_of_not_placed {cap : Nat} {x : Int} (h : (s.insertSlow id cap x).2 = false) :
    (s.insertSlow id cap x).1 = s := by
  unfold State.insertSlow at h ⊢
  dsimp only at h ⊢
  split_ifs at h ⊢
  cases hfar : s.slowBeyond (s.rg.travel.distance s.guideDepth
      (s.rg.travel.ahead x (insertionDistance s.limits s.rg.refPrev cap))) with
  | none => rfl
  | some p =>
    rw [hfar] at h
    cases h

theorem State.fireSlow_of_placed {cap : Nat} (h : (s.insertSlow id cap s.guideDepth).2 = true) :
    s.fireSlow id cap w = (s.insertSlow id cap s.guideDepth).1.fire id w 2 := if_pos h

theorem State.fireSlow_of_not_placed {cap : Nat} (h : (s.insertSlow id cap s.guideDepth).2 = false) :
    s.fireSlow id cap w = (s.forcedStop id).fire id w 4 := by
  have hfire : s.fireSlow id cap w = ((s.insertSlow id cap s.guideDepth).1.forcedStop id).fire id w 4 :=
    if_neg (ne_true_of_eq_false h)
  rw [hfire, State.insertSlow_of_not_placed h]

theorem State.fireBound_of_other (h : w.bound = none ∨ ∃ b, w.bound = some (.stop, b)) : s.fireBound id w = s := by
  rcases h with h | ⟨b, h⟩ <;> rw [State.fireBound, h]

theorem State.fireBound_of_bound {b : Int} (h : w.bound = some (.notify, b) ∨ w.bound = some (.slow, b)) :
    s.fireBound id w =
      if s.boundCrossed b then s.fire id w (if w.bound = some (.notify, b) then 5 else 6) else s := by
  rcases h with h | h <;> simp [State.fireBound, h]

/-- The stop of a forced STOP entry (R151). -/
theorem State.forcedStop_eq : s.forcedStop id =
    if s.te.winder = .winding ∧ s.te.rest = .none then
      ({ s with te := { s.te with stopReason := .watch, stopWatch := some id } }).enter .stopping .sequence s.activeId
    else s := by
  refine ite_congr rfl (fun h => ?_) fun _ => rfl
  obtain ⟨-, hrest⟩ := h
  rw [State.beginStopping, State.modTe, ← hrest]

theorem State.watchReached_watch (depth : Int) : (s.watchReached depth).watch id = (s.watch id).bind fun w =>
    if w.bound = some (.stop, depth) then entryActed w else some w := by
  rw [State.watch, State.watch, State.watchReached, State.modWt, tableGet_eq, tableGet_eq, tableMap, Vector.toList_mk,
    List.getElem?_map]
  cases s.wt.toList[id]? <;> rfl
end watch

/-- Settles O52. -/
theorem watchEntriesActWhenCrossed : Obligations.WatchEntriesActWhenCrossed := by
  unfold Obligations.WatchEntriesActWhenCrossed
  refine ⟨fun id w found s hw => ?_, fun found id s hw => State.testWatch_none hw, fun s => ?_, fun depth s => ⟨rfl,
    fun id => ⟨fun h => ?_, fun w h => ⟨fun hb => ?_, fun hb => ?_⟩⟩⟩⟩
  · intro prev last acts fired stopped passed t
    have hstopped : s.forcedStop id = stopped := s.forcedStop_eq
    have hfired (code : Nat) (u : State) : u.fire id w code = fired code u := u.fire_eq code
    have hacts : s.forcedCrossed w = true ↔ acts := s.forcedCrossed_iff
    have hforced (hb : w.binding = .forced) (ha : acts) : t = s.fireForced id w found :=
      (State.testWatch_forced hw hb).trans (if_pos (hacts.mpr ha))
    have hstill (hb : w.binding = .forced) (ha : ¬ acts) : t = s :=
      (State.testWatch_forced hw hb).trans (if_neg (ha ∘ hacts.mp))
    refine ⟨hstill, fun hb ha hn => ?_, fun hb hn hf => ?_, fun hb ha hn hf => ?_, fun cap hb ha hn hf => ?_, fun hb =>
      ⟨fun hnone => ?_, fun b hbound => ?_⟩⟩
    · rw [hforced hb ha, State.fireForced, hn]
      exact hfired 1 s
    · by_cases ha : acts
      · rw [hforced hb ha, State.fireForced]
        cases hact : w.action with
        | notify => exact absurd hact hn
        | stop => exact if_neg hf
        | slow cap => exact if_neg hf
      · exact hstill hb ha
    · rw [hforced hb ha, State.fireForced, hn]
      exact (if_pos hf).trans ((congrArg _ hstopped).trans (hfired 3 _))
    · have hslow : t = s.fireSlow id cap w := by
        rw [hforced hb ha, State.fireForced, hn]
        exact if_pos hf
      exact ⟨fun hp => hslow.trans ((State.fireSlow_of_placed hp).trans (hfired 2 _)), fun hp => hslow.trans
        ((State.fireSlow_of_not_placed hp).trans ((congrArg _ hstopped).trans (hfired 4 _)))⟩
    · exact (State.testWatch_tagged hw hb).trans (State.fireBound_of_other hnone)
    · have hbnd := (State.testWatch_tagged (found := found) hw hb).trans (State.fireBound_of_bound hbound)
      refine ⟨fun hp => hbnd.trans (if_neg (hp ∘ (State.boundCrossed_iff b).mp)), fun hp => ?_⟩
      exact hbnd.trans ((if_pos ((State.boundCrossed_iff b).mpr hp)).trans (hfired _ s))
  · exact if_congr (WinderState.moving_iff _) rfl rfl
  · rw [State.watchReached_watch, h]
    rfl
  · rw [State.watchReached_watch, h]
    exact if_neg hb
  · rw [State.watchReached_watch, h]
    exact (if_pos hb).trans (entryActed_eq w)

end Sys2Proof.Machine
end

section
/-! The reference of a Sample record (R71, R75 to R80): O28. -/

namespace Sys2Proof.Machine

open Sys2Proof

/-! #### The least of a list -/

section least
variable {m b : Nat} {l k : List Nat}

/-- A number is of a list, and none of the list is less. -/
def leastIn (m : Nat) (l : List Nat) : Prop := m ∈ l ∧ ∀ x ∈ l, m ≤ x

theorem leastIn_of_mem_iff (h : leastIn m l) (hk : ∀ x, x ∈ l ↔ x ∈ k) : leastIn m k :=
  ⟨(hk m).mp h.1, fun x hx => h.2 x ((hk x).mpr hx)⟩

theorem leastIn_min (h : leastIn m l) : leastIn (min m b) (l ++ [b]) := by
  refine ⟨?_, fun x hx => ?_⟩
  · rcases min_choice m b with he | he <;> rw [he]
    · exact List.mem_append_left _ h.1
    · exact List.mem_append_right _ (List.mem_singleton.mpr rfl)
  · rcases List.mem_append.mp hx with hx | hx
    · exact (min_le_left _ _).trans (h.2 x hx)
    · rw [List.mem_singleton.mp hx]
      exact min_le_right _ _

theorem leastIn_leastOf (x : Nat) (ys : List Nat) : leastIn (leastOf x ys) (x :: ys) := by
  induction ys generalizing x with
  | nil => exact ⟨List.mem_singleton.mpr rfl, fun y hy => (List.mem_singleton.mp hy).ge⟩
  | cons y ys ih =>
    obtain ⟨hmem, hle⟩ := ih (min x y)
    have hmin := hle _ List.mem_cons_self
    refine ⟨?_, fun z hz => ?_⟩
    · rcases List.mem_cons.mp hmem with he | he
      · change leastOf (min x y) ys ∈ _
        rw [he]
        rcases min_choice x y with h | h <;> rw [h]
        · exact List.mem_cons_self
        · exact List.mem_cons_of_mem _ List.mem_cons_self
      · exact List.mem_cons_of_mem _ (List.mem_cons_of_mem _ he)
    · rcases List.mem_cons.mp hz with rfl | hz
      · exact hmin.trans (min_le_left _ _)
      · rcases List.mem_cons.mp hz with rfl | hz
        · exact hmin.trans (min_le_right _ _)
        · exact hle z (List.mem_cons_of_mem _ hz)
end least

/-! #### The leg -/

theorem legOf_append {before after : List PlanPoint} {q : PlanPoint} (hbefore : ∀ p ∈ before, p.isStop = false)
    (hq : q.isStop = true) : legOf (before ++ q :: after) = before.filter (fun p => p.depth ≠ q.depth) ++ [q] := by
  have hfind : (before ++ q :: after).find? PlanPoint.isStop = some q :=
    List.find?_eq_some_iff_append.mpr ⟨hq, before, after, rfl, fun p hp => by rw [hbefore p hp]; rfl⟩
  have htake : (before ++ q :: after).takeWhile (fun p => !p.isStop) = before := by
    rw [List.takeWhile_append_of_pos fun p hp => by rw [hbefore p hp]; rfl,
      List.takeWhile_cons_of_neg (by rw [hq]; decide), List.append_nil]
  rw [legOf, hfind]
  dsimp only
  rw [htake]

/-! #### The terms and the label of the reference -/

section reference
variable (s : State) (dt : Nat)

theorem curveAt_eq (l : Limits) (a : Nat) (p : PlanPoint) (d : Int) : curveAt l a p d = match p.kind with
    | .stop => Nat.sqrt (2 * a * (d - l.dCreep).toNat + l.vCreep * l.vCreep)
    | .slow cap => Nat.sqrt (2 * a * d.toNat + cap * cap) := by
  rw [curveAt]
  cases p.kind <;> exact isqrt_eq _

/-- The curve of a SLOW point is nowhere below its cap. -/
theorem cap_le_curveAt {l : Limits} {a cap : Nat} {p : PlanPoint} (h : p.kind = .slow cap) (d : Int) :
    cap ≤ curveAt l a p d := by
  rw [curveAt_eq, h]
  exact Nat.le_sqrt.mpr (Nat.le_add_left _ _)

/-- The terms of the reference (R75 to R77, R80). -/
def State.terms : List Nat :=
  (if s.te.winder = .winding then [s.drivenTerm dt, s.rg.limit] else [s.drivenTerm dt]) ++ s.brakingCurves

theorem State.leastIn_leastTerm : leastIn (s.leastTerm dt) (s.terms dt) := by
  have hleast := leastIn_leastOf (s.drivenTerm dt) s.brakingCurves
  rw [State.leastTerm, State.terms]
  split_ifs with hw
  · refine leastIn_of_mem_iff (leastIn_min (b := s.rg.limit) hleast) fun x => ?_
    simp only [List.cons_append, List.mem_cons, List.mem_append, List.not_mem_nil, or_false, List.nil_append]
    tauto
  · exact hleast

/-- The reference, before the land window, is the least of its terms, held to creep near the stop point. -/
theorem State.referenceNow_least (h : s.latchNow = false) : leastIn (s.referenceNow dt)
    (s.terms dt ++ if s.distanceToGo ≤ s.limits.dCreep then [s.limits.vCreep] else []) := by
  have href : s.referenceNow dt =
      if s.distanceToGo ≤ s.limits.dCreep then min (s.leastTerm dt) s.limits.vCreep else s.leastTerm dt :=
    if_neg (ne_true_of_eq_false h)
  rw [href]
  split_ifs
  · exact leastIn_min (s.leastIn_leastTerm dt)
  · rw [List.append_nil]
    exact s.leastIn_leastTerm dt

theorem State.referenceNow_of_latch (h : s.latchNow = true) : s.referenceNow dt = 0 := if_pos h

/-- A point's curve gives the reference as it falls (R78 item 3). -/
def State.fallsTo (ref : Nat) : Prop := ∃ p ∈ s.rg.leg, curveAt s.limits s.limits.aDec p (s.pointDistance p) = ref ∧
  (p.kind = .stop ∨ ∃ cap, p.kind = .slow cap ∧ cap < ref)

/-- The limit or a SLOW point's cap gives the reference (R78 items 1 and 4). -/
def State.levelAt (ref : Nat) : Prop := (s.te.winder = .winding ∧ s.rg.limit = ref) ∨
  ∃ p ∈ s.rg.leg, curveAt s.limits s.limits.aDec p (s.pointDistance p) = ref ∧ p.kind = .slow ref

theorem State.any_decelBy (ref : Nat) : s.rg.leg.any (s.decelBy ref) = true ↔ s.fallsTo ref := by
  rw [List.any_eq_true]
  refine exists_congr fun p => and_congr_right fun _ => ?_
  unfold State.decelBy
  dsimp only
  rw [Bool.and_eq_true, decide_eq_true_iff]
  refine and_congr_right fun he => ?_
  rw [he]
  cases p.kind with
  | stop => simp
  | slow cap => simp

theorem State.any_cappedBy (ref : Nat) : s.rg.leg.any (s.cappedBy ref) = true ↔
    ∃ p ∈ s.rg.leg, curveAt s.limits s.limits.aDec p (s.pointDistance p) = ref ∧ p.kind = .slow ref := by
  rw [List.any_eq_true]
  refine exists_congr fun p => and_congr_right fun _ => ?_
  unfold State.cappedBy
  dsimp only
  rw [Bool.and_eq_true, decide_eq_true_iff]
  refine and_congr_right fun he => ?_
  rw [he]
  cases p.kind with
  | stop => simp
  | slow cap => simp [eq_comm]

theorem State.labelNow_eq : s.labelNow dt =
    if s.latchNow = true then .landing
    else if s.distanceToGo ≤ s.limits.dCreep then .creep
    else if s.rg.leg.any (s.decelBy (s.referenceNow dt)) = true then .decel
    else if (s.te.winder = .winding ∧ s.rg.limit = s.referenceNow dt) ∨
      s.rg.leg.any (s.cappedBy (s.referenceNow dt)) = true then .cruise
    else if s.te.winder = .winding ∧ s.drivenTerm dt = s.referenceNow dt then .accel
    else if ¬ s.te.winder = .winding ∧ s.drivenTerm dt = s.referenceNow dt then .decel
    else .none := by
  rw [State.labelNow]
  simp only [Bool.or_eq_true, Bool.and_eq_true, decide_eq_true_iff, Bool.not_eq_true', decide_eq_false_iff_not]

/-- The reference that neither a falling curve nor a limit or cap gives is the driven term. -/
theorem State.drivenTerm_eq (hl : s.latchNow = false) (hd : ¬ s.distanceToGo ≤ s.limits.dCreep)
    (hf : ¬ s.fallsTo (s.referenceNow dt)) (hc : ¬ s.levelAt (s.referenceNow dt)) :
    s.drivenTerm dt = s.referenceNow dt := by
  obtain ⟨hmem, -⟩ := s.referenceNow_least dt hl
  rw [if_neg hd, List.append_nil, State.terms, List.mem_append] at hmem
  rcases hmem with hmem | hmem
  · split_ifs at hmem with hw
    · rcases List.mem_cons.mp hmem with he | he
      · exact he.symm
      · exact absurd (.inl ⟨hw, (List.mem_singleton.mp he).symm⟩) hc
    · exact (List.mem_singleton.mp hmem).symm
  · obtain ⟨p, hp, he⟩ := List.mem_map.mp hmem
    cases hk : p.kind with
    | stop => exact absurd ⟨p, hp, he, .inl hk⟩ hf
    | slow cap =>
      have hcap : cap ≤ s.referenceNow dt := he ▸ cap_le_curveAt hk _
      rcases hcap.lt_or_eq with hlt | heq
      · exact absurd ⟨p, hp, he, .inr ⟨cap, hk, hlt⟩⟩ hf
      · exact absurd (.inr ⟨p, hp, he, heq ▸ hk⟩) hc

theorem State.labelNow_spec (hl : s.latchNow = false) (hd : ¬ s.distanceToGo ≤ s.limits.dCreep) :
    (s.fallsTo (s.referenceNow dt) → s.labelNow dt = .decel) ∧
    (¬ s.fallsTo (s.referenceNow dt) → s.levelAt (s.referenceNow dt) → s.labelNow dt = .cruise) ∧
    (¬ s.fallsTo (s.referenceNow dt) → ¬ s.levelAt (s.referenceNow dt) →
      s.labelNow dt = if s.te.winder = .winding then .accel else .decel) := by
  rw [State.labelNow_eq, if_neg (ne_true_of_eq_false hl), if_neg hd]
  refine ⟨fun h => if_pos ((s.any_decelBy _).mpr h), fun hf hc => ?_, fun hf hc => ?_⟩
  · rw [if_neg (hf ∘ (s.any_decelBy _).mp), if_pos]
    exact hc.imp_right (s.any_cappedBy _).mpr
  · have hdriven := s.drivenTerm_eq dt hl hd hf hc
    rw [if_neg (hf ∘ (s.any_decelBy _).mp), if_neg fun h => hc (h.imp_right (s.any_cappedBy _).mp)]
    by_cases hw : s.te.winder = .winding
    · rw [if_pos ⟨hw, hdriven⟩, if_pos hw]
    · rw [if_neg fun h => hw h.1, if_pos ⟨hw, hdriven⟩, if_neg hw]
end reference

/-! #### The Reference Generator at a Sample record -/

section takes
variable (s : State) (prev : Nat) (plan : Option (List PlanPoint))

theorem State.takeReference_of_still (h : s.te.winder.moving = false) :
    s.takeReference prev plan = s.sendDrive 0 false :=
  if_neg (ne_true_of_eq_false h)

/-- The Reference Generator after a Sample record in WINDING or STOPPING (R75 to R80). -/
def State.driven (dt : Nat) : State :=
  (s.modRg fun r => { r with
    refPrev := (s.onPlan plan).referenceNow dt, latch := (s.onPlan plan).latchNow
    label := (s.onPlan plan).labelNow dt }).sendDrive (s.rg.travel.signed ((s.onPlan plan).referenceNow dt)) true

theorem State.takeReference_of_moving (h : s.te.winder.moving = true) : s.takeReference prev plan =
    let t := s.driven plan (unsignedElapsed s.efe.sampleTime prev)
    if s.te.winder = .winding ∧ s.te.rest = .none ∧ (s.onPlan plan).latchNow = true then
      { t with te := { s.te with rest := .toRest } }
    else t := if_pos h
theorem State.takeReference_rg_es (h : s.te.winder.moving = true) :
    (s.takeReference prev plan).rg = (s.driven plan (unsignedElapsed s.efe.sampleTime prev)).rg ∧
    (s.takeReference prev plan).es = (s.driven plan (unsignedElapsed s.efe.sampleTime prev)).es := by
  rw [State.takeReference_of_moving s prev plan h]
  dsimp only
  split_ifs <;> exact ⟨rfl, rfl⟩

theorem State.takeReference_rest (h : s.te.winder.moving = true) : (s.takeReference prev plan).te.rest =
    if s.te.winder = .winding ∧ s.te.rest = .none ∧ (s.onPlan plan).latchNow = true then .toRest else s.te.rest := by
  rw [State.takeReference_of_moving s prev plan h]
  dsimp only
  split_ifs <;> rfl

/-- What a Sample record leaves to the Reference Generator alone. -/
theorem State.takeReference_eq : s.takeReference prev plan = { s with
    rg := (s.takeReference prev plan).rg
    es := { s.es with refInForce := (s.takeReference prev plan).es.refInForce }
    te := { s.te with rest := (s.takeReference prev plan).te.rest } } := by
  cases h : s.te.winder.moving with
  | true =>
    rw [State.takeReference_of_moving s prev plan h]
    dsimp only
    split_ifs <;> rfl
  | false =>
    rw [State.takeReference_of_still s prev plan h]
    rfl

theorem State.takeReference_kept : (s.takeReference prev plan).rg.seq = s.rg.seq + 1 ∧
    (s.takeReference prev plan).rg.plan = s.rg.plan ∧ (s.takeReference prev plan).rg.limit = s.rg.limit := by
  cases h : s.te.winder.moving with
  | true =>
    rw [(State.takeReference_rg_es s prev plan h).1]
    exact ⟨rfl, rfl, rfl⟩
  | false =>
    rw [State.takeReference_of_still s prev plan h]
    exact ⟨rfl, rfl, rfl⟩

theorem Travel.mag_signed (t : Travel) (n : Nat) : mag (t.signed n) = n := by
  cases t
  · exact Int.natAbs_natCast n
  · exact (Int.natAbs_neg _).trans (Int.natAbs_natCast n)

theorem Travel.signed_eq (t : Travel) (x : Int) : t.signed x = if t = .down then x else -x := by
  cases t <;> rfl
end takes

/-- Settles O28. -/
theorem referenceOfASampleRecord : Obligations.ReferenceOfASampleRecord := by
  unfold Obligations.ReferenceOfASampleRecord
  refine ⟨fun before after q hb hq => legOf_append hb hq, fun prev plan s => ?_⟩
  intro t leg l dt ramp fall distance curve terms toGo latch bounds ref winding falls level
  obtain ⟨hseq, hplan, hlimit⟩ := s.takeReference_kept prev plan
  refine ⟨fun hmoving => ?_, fun hstill => ?_, hseq, hplan, hlimit, s.takeReference_eq prev plan⟩
  · have hdistance : (s.onPlan plan).pointDistance = distance := by
      funext p
      change s.rg.travel.distance (s.conv s.rg.guide).depth p.depth = match s.rg.travel with
        | .down => p.depth - (s.conv s.rg.guide).depth
        | .up => (s.conv s.rg.guide).depth - p.depth
      cases s.rg.travel <;> rfl
    have hcurve (p : PlanPoint) : curveAt l l.aDec p ((s.onPlan plan).pointDistance p) = curve p := by
      rw [hdistance]
      exact curveAt_eq ..
    have htoGo : (s.onPlan plan).distanceToGo = toGo := by
      rw [State.distanceToGo, hdistance]
      rfl
    have hlatch : (s.onPlan plan).latchNow = latch := by
      rw [State.latchNow, htoGo]
      rfl
    have hterms : (s.onPlan plan).terms dt = terms := by
      have hcurves : (s.onPlan plan).brakingCurves = leg.map curve := List.map_congr_left fun p _ => hcurve p
      rw [State.terms, hcurves]
      change (if s.te.winder = .winding then [(s.onPlan plan).drivenTerm dt, s.rg.limit] else
        [(s.onPlan plan).drivenTerm dt]) ++ leg.map curve =
        (if s.te.winder = .winding then [ramp, s.rg.limit] else [fall]) ++ leg.map curve
      split_ifs with hw
      · have hdriven : (s.onPlan plan).drivenTerm dt = ramp := if_pos hw
        rw [hdriven]
      · have hdriven : (s.onPlan plan).drivenTerm dt = fall := if_neg hw
        rw [hdriven]
    have hfalls (r : Nat) : (s.onPlan plan).fallsTo r ↔
        ∃ p ∈ leg, curve p = r ∧ (p.kind = .stop ∨ ∃ cap, p.kind = .slow cap ∧ cap < r) :=
      exists_congr fun p => and_congr_right fun _ => and_congr_left fun _ => by rw [← hcurve p]; rfl
    have hlevel (r : Nat) : (s.onPlan plan).levelAt r ↔
        (s.te.winder = .winding ∧ s.rg.limit = r) ∨ ∃ p ∈ leg, curve p = r ∧ p.kind = .slow r :=
      or_congr_right (exists_congr fun p => and_congr_right fun _ => and_congr_left fun _ => by rw [← hcurve p]; rfl)
    obtain ⟨hrg, hes⟩ := s.takeReference_rg_es prev plan hmoving
    have href : ref = (s.onPlan plan).referenceNow dt := congrArg ReferenceGenerator.refPrev hrg
    have hlabel : t.rg.label = (s.onPlan plan).labelNow dt := congrArg ReferenceGenerator.label hrg
    have hsent : t.rg.refSent = s.rg.travel.signed ref := by
      rw [href]
      exact congrArg ReferenceGenerator.refSent hrg
    have hinForce : t.es.refInForce = ref := by
      refine (congrArg EnvelopeSupervisor.refInForce hes).trans ((Travel.mag_signed ..).trans href.symm)
    have hrest := s.takeReference_rest prev plan hmoving
    rw [hlatch] at hrest
    refine ⟨fun h => ?_, fun h => ?_, (congrArg ReferenceGenerator.latch hrg).trans hlatch, hinForce,
      hsent.trans (Travel.signed_eq ..), ?_, hrest, fun h => ?_, fun h hd => ?_, fun h hd => ?_⟩
    · rw [href]
      exact State.referenceNow_of_latch _ _ (hlatch.trans h)
    · have hleast := (s.onPlan plan).referenceNow_least dt (hlatch.trans h)
      rw [hterms, htoGo, ← href] at hleast
      exact hleast
    · have hmessages : t.rg.sent = s.rg.sent ++
          [{ seq := s.rg.seq
             ref := if s.rg.guide = .a then s.rg.travel.signed ((s.onPlan plan).referenceNow dt)
               else -s.rg.travel.signed ((s.onPlan plan).referenceNow dt)
             run := true }] := congrArg ReferenceGenerator.sent hrg
      rw [← href, ← hsent] at hmessages
      exact hmessages
    · rw [hlabel, State.labelNow_eq]
      exact if_pos (hlatch.trans h)
    · rw [hlabel, State.labelNow_eq, if_neg (ne_true_of_eq_false (hlatch.trans h)), htoGo]
      exact if_pos hd
    · have hfar : ¬ (s.onPlan plan).distanceToGo ≤ (s.onPlan plan).limits.dCreep := by
        rw [htoGo]
        exact not_le.mpr hd
      have hspec := (s.onPlan plan).labelNow_spec dt (hlatch.trans h) hfar
      rw [hfalls, hlevel, ← href, ← hlabel] at hspec
      exact hspec
  · have ht : t = s.sendDrive 0 false := s.takeReference_of_still prev plan hstill
    rw [ht]
    refine ⟨?_, rfl, rfl⟩
    simp only [State.sendDrive, State.modRg, State.modEs, neg_zero, ite_self]

end Sys2Proof.Machine
end

section
/-! What the blocks of a Sample record leave of a winder that keeps moving. -/

namespace Sys2Proof.Machine

open Sys2Proof

/-! #### What the blocks of a record leave while the winder keeps moving -/

/-- The winder of a state moves, and has come from that of another with its leg, its reference and its envelope; the
plan may have a point more. -/
structure State.Rides (u v : State) : Prop where
  moving : u.te.winder.moving = true
  winding : v.te.winder = .winding → u.te.winder = .winding
  rg : { v.rg with plan := none } = { u.rg with plan := none }
  env : v.es.env = u.es.env

/-- Where the winder of a state moves, it has come so from another. -/
def State.rides (u v : State) : Prop := v.te.winder.moving = true → u.Rides v

section rides
variable {u v w : State}

theorem State.rides_refl (u : State) : u.rides u := fun h => ⟨h, id, rfl, rfl⟩

theorem State.rides_trans (h1 : u.rides v) (h2 : v.rides w) : u.rides w := fun hw =>
  have hv := h2 hw
  have hu := h1 hv.moving
  ⟨hu.moving, hu.winding ∘ hv.winding, hv.rg.trans hu.rg, hv.env.trans hu.env⟩

theorem State.rides_of_still (h : v.te.winder.moving = false) : u.rides v := fun hm =>
  absurd (hm.symm.trans h) (by decide)

theorem State.rides_of_same (h : u.rides v) (hw : w.te.winder = v.te.winder)
    (hrg : { w.rg with plan := none } = { v.rg with plan := none }) (henv : w.es.env = v.es.env) : u.rides w :=
  State.rides_trans h fun hm => ⟨hw ▸ hm, fun h => hw ▸ h, hrg, henv⟩

theorem State.rides_foldl {β : Type} {f : State → β → State} (l : List β) (h : u.rides v)
    (hf : ∀ (v : State) (b : β), b ∈ l → v.rides (f v b)) : u.rides (l.foldl f v) := by
  induction l generalizing v with
  | nil => exact h
  | cons b l ih =>
    exact ih (State.rides_trans h (hf v b List.mem_cons_self)) fun w c hc => hf w c (List.mem_cons_of_mem _ hc)

theorem State.rides_modTe (f : Executive → Executive) (hf : (f u.te).winder = u.te.winder := by rfl) :
    u.rides (u.modTe f) := State.rides_of_same u.rides_refl hf rfl rfl

theorem State.rides_setStopOrder (h : u.rides v) (b : Bool) : u.rides (v.setStopOrder b) :=
  State.rides_of_same h rfl rfl rfl

theorem State.rides_beginStopping (h : u.te.winder.moving = true) (r : StopReason) (i : Option Nat) (y : Cause) :
    u.rides (u.beginStopping r i y) := fun _ => ⟨h, fun hw => (by cases hw), rfl, rfl⟩

theorem State.rides_toIdle (y : Cause) : u.rides (u.toIdle y) := State.rides_of_still rfl

theorem State.rides_trip (x : ServiceReturn) (k : FaultKind) : u.rides (u.trip x k) := State.rides_of_still rfl

theorem State.rides_lock (k : FaultKind) : u.rides (u.lock k) := State.rides_of_still rfl

theorem State.rides_controlledStop (k : FaultKind) : u.rides (u.controlledStop k) := by
  unfold State.controlledStop
  split
  next => exact State.rides_toIdle _
  next => exact State.rides_toIdle _
  next hw =>
    refine of_ite (State.rides_setStopOrder (State.rides_beginStopping (by rw [hw]; rfl) _ _ _) _) ?_
    exact State.rides_setStopOrder (State.rides_modTe _) _
  next => exact State.rides_setStopOrder (State.rides_modTe _) _
  next => exact State.rides_toIdle _
  next => exact State.rides_toIdle _
  all_goals exact State.rides_refl _

theorem State.rides_emergency (k : FaultKind) : u.rides (u.emergency k) := by
  unfold State.emergency
  split
  all_goals first | exact State.rides_refl _ | exact State.rides_trip _ _

theorem State.rides_lockout (k : FaultKind) : u.rides (u.lockout k) := by
  unfold State.lockout
  split
  all_goals first | exact State.rides_refl _ | exact State.rides_lock _

theorem State.rides_respond (k : FaultKind) (v : Severity) : u.rides (u.respond k v) := by
  refine of_ite (State.rides_refl _) (State.rides_trans (v := u.setInForce v) ?_ ?_)
  · exact of_ite (State.rides_refl _) (State.rides_of_same (State.rides_refl _) rfl rfl rfl)
  · unfold State.order
    split
    · exact State.rides_refl _
    · exact State.rides_controlledStop k
    · exact State.rides_emergency k
    · exact State.rides_lockout k

/-- A report leaves the leg, the reference and the envelope of a winder that keeps moving. -/
theorem State.rides_report (r : Report) : u.rides (u.report r) := by
  rw [State.report_eq]
  refine of_ite (State.rides_of_same (State.rides_refl _) rfl rfl rfl) ?_
  have htaken : u.rides (u.taken r) := State.rides_of_same (State.rides_refl _) (congrArg _ (u.taken_te r)) rfl rfl
  exact State.rides_trans htaken (State.rides_respond _ _)

theorem State.rides_reportAll (rs : List Report) : u.rides (u.reportAll rs) :=
  State.rides_foldl rs u.rides_refl fun _ r _ => State.rides_report r

/-! #### The Watch Table, the Clutch Controller and the Trip Executive -/

theorem State.rides_fire (h : u.rides v) (i : Nat) (e : WatchEntry) (k : Nat) : u.rides (v.fire i e k) :=
  State.rides_of_same h rfl rfl rfl

theorem State.rides_forcedStop (i : Nat) : u.rides (u.forcedStop i) := by
  unfold State.forcedStop
  split
  next h => exact State.rides_beginStopping (by rw [h.1]; rfl) _ _ _
  · exact State.rides_refl _

theorem State.rides_modPlan (f : ReferenceGenerator → Option (List PlanPoint)) :
    u.rides (u.modRg fun r => { r with plan := f r }) := State.rides_of_same (State.rides_refl _) rfl rfl rfl

theorem State.rides_insertSlow (i cap : Nat) (x : Int) : u.rides (u.insertSlow i cap x).1 := by
  refine of_ite (P := fun x : State × Bool => u.rides x.1) (State.rides_refl _) ?_
  refine of_ite (P := fun x : State × Bool => u.rides x.1) (State.rides_refl _) ?_
  refine of_ite (P := fun x : State × Bool => u.rides x.1) (State.rides_refl _) ?_
  refine of_ite (P := fun x : State × Bool => u.rides x.1) (State.rides_modPlan _) ?_
  split
  · exact State.rides_refl _
  · exact State.rides_modPlan _

theorem State.rides_testWatch (f : WinderState) (i : Nat) : u.rides (State.testWatch f u i) := by
  unfold State.testWatch
  split
  · exact State.rides_refl _
  next e _ =>
    split
    · refine of_ite ?_ (State.rides_refl _)
      unfold State.fireForced
      split
      · exact State.rides_fire (State.rides_refl _) _ _ _
      next cap _ =>
        refine of_ite ?_ (State.rides_refl _)
        cases hp : (u.insertSlow i cap u.guideDepth).2 with
        | true =>
          rw [State.fireSlow_of_placed hp]
          exact State.rides_fire (State.rides_insertSlow _ _ _) _ _ _
        | false =>
          rw [State.fireSlow_of_not_placed hp]
          exact State.rides_fire (State.rides_forcedStop _) _ _ _
      · exact of_ite (State.rides_fire (State.rides_forcedStop _) _ _ _) (State.rides_refl _)
    · unfold State.fireBound
      split
      · exact of_ite (State.rides_fire (State.rides_refl _) _ _ _) (State.rides_refl _)
      · exact of_ite (State.rides_fire (State.rides_refl _) _ _ _) (State.rides_refl _)
      · exact State.rides_refl _
      · exact State.rides_refl _

theorem State.rides_takeWatch (u : State) : u.rides u.takeWatch :=
  of_ite (State.rides_foldl _ (State.rides_refl _) fun _ _ _ => State.rides_testWatch _ _) (State.rides_refl _)

theorem State.rides_modCc (f : ClutchController → ClutchController) : u.rides (u.modCc f) :=
  State.rides_of_same (State.rides_refl _) rfl rfl rfl

theorem State.rides_takeClutch (u : State) : u.rides u.takeClutch := by
  refine of_ite ?_ ?_
  · unfold State.testDiscrepancy
    (repeat' split) <;> first | exact State.rides_refl _ | exact State.rides_modCc _ | exact State.rides_report _
  · unfold State.testDrift
    split
    · exact of_ite (State.rides_modCc _) (State.rides_refl _)
    · exact of_ite (State.rides_trans (State.rides_modCc _) (State.rides_report _)) (State.rides_refl _)

theorem State.rides_afterLanding (h : v.te.winder.moving = false) : u.rides (w.afterLanding v) :=
  of_ite (State.rides_of_still h) (State.rides_of_still rfl)

theorem State.rides_landingEnd (u : State) : u.rides u.landingEnd := by
  cases hp : u.rg.stop with
  | none =>
    unfold State.landingEnd
    dsimp only
    rw [hp]
    exact of_ite (State.rides_modTe _) (State.rides_setStopOrder (State.rides_modTe _) _)
  | some p =>
    rw [State.landingEnd_eq u hp]
    split
    · exact State.rides_of_still rfl
    all_goals exact State.rides_afterLanding rfl

theorem State.rides_brakesConfirmed (u : State) : u.rides u.brakesConfirmed := by
  unfold State.brakesConfirmed
  split
  next => exact State.rides_landingEnd u
  next =>
    rw [State.stopEnd_eq]
    exact of_ite (State.rides_of_still rfl) (State.rides_of_still rfl)
  all_goals exact State.rides_refl _

theorem State.rides_restTest (u : State) : u.rides u.restTest :=
  of_ite (of_ite (State.rides_trans (State.rides_modTe _) (State.rides_brakesConfirmed _)) (State.rides_modTe _))
    (State.rides_modTe _)

theorem State.rides_takeExecutive (r : RestStep) : u.rides (u.takeExecutive r) :=
  of_ite (State.rides_refl _) (of_ite (State.rides_restTest _) (of_ite (State.rides_restTest _) (State.rides_refl _)))
end rides

end Sys2Proof.Machine
end

section
/-! The reference under the envelope, and the tiers (R79, R92 to R99): O29. -/

namespace Sys2Proof.Machine

open Sys2Proof

/-! #### The order of the blocks -/

section blocks
variable {order l : List SampleBlock}

/-- The names of a list in the order in which each is named first. -/
theorem foldl_first_named (l seen : List SampleBlock) :
    l.foldl (fun seen b => if seen.contains b then seen else seen ++ [b]) seen =
      seen ++ (l.filter fun b => !seen.contains b).eraseDups := by
  induction l generalizing seen with
  | nil => simp
  | cons b l ih =>
    rw [List.foldl_cons, ih, List.filter_cons]
    cases hb : seen.contains b with
    | true => simp
    | false =>
      have hrest : (l.filter fun c => !(seen ++ [b]).contains c) =
          (l.filter fun c => !seen.contains c).filter fun c => !c == b := by
        rw [List.filter_filter]
        refine List.filter_congr fun c _ => ?_
        have hbeq : (c == b) = decide (c = b) := rfl
        simp [hbeq, Bool.and_comm]
      rw [if_neg Bool.false_ne_true, hrest, Bool.not_false, if_pos rfl, List.eraseDups_cons, List.append_assoc,
        List.singleton_append]

theorem blockOrder_eq (order : List SampleBlock) : blockOrder order =
    (order ++ [SampleBlock.reference, .envelope, .watch, .clutch, .executive]).eraseDups := by
  have h := foldl_first_named (order ++ [SampleBlock.reference, .envelope, .watch, .clutch, .executive]) []
  have hall : ((order ++ [SampleBlock.reference, .envelope, .watch, .clutch, .executive]).filter
      fun b => !([] : List SampleBlock).contains b) =
      order ++ [SampleBlock.reference, .envelope, .watch, .clutch, .executive] := List.filter_true _
  rw [hall, List.nil_append] at h
  exact h

theorem mem_blockOrder (order : List SampleBlock) (b : SampleBlock) : b ∈ blockOrder order := by
  rw [blockOrder_eq, List.mem_eraseDups, List.mem_append]
  cases b <;> simp

theorem nodup_blockOrder (order : List SampleBlock) : (blockOrder order).Nodup := by
  refine of_foldl (P := List.Nodup) _ List.nodup_nil fun seen b h => ?_
  split
  · exact h
  next hb =>
    refine h.append (List.nodup_singleton b) fun c hc hcb => hb ?_
    rw [List.mem_singleton.mp hcb] at hc
    exact List.contains_iff_mem.mpr hc

theorem ne_of_nodup_at_two {a b : SampleBlock} {x y z : List SampleBlock} (h : (x ++ a :: (y ++ b :: z)).Nodup) :
    ∀ c ∈ x ++ y ++ z, c ≠ a ∧ c ≠ b := by
  have hperm : (x ++ a :: (y ++ b :: z)).Perm (a :: b :: (x ++ y ++ z)) := by
    refine List.perm_middle.trans (List.Perm.cons a ?_)
    rw [← List.append_assoc]
    exact List.perm_middle
  obtain ⟨ha, hrest⟩ := List.nodup_cons.mp (hperm.nodup_iff.mp h)
  obtain ⟨hb, -⟩ := List.nodup_cons.mp hrest
  exact fun c hc => ⟨fun he => ha (List.mem_cons_of_mem _ (he ▸ hc)), fun he => hb (he ▸ hc)⟩

/-- Where two elements of a list without repetitions lie. -/
theorem split_at_two {a b : SampleBlock} (hl : l.Nodup) (ha : a ∈ l) (hb : b ∈ l) (hab : a ≠ b) :
    ∃ x y z, (l = x ++ a :: (y ++ b :: z) ∨ l = x ++ b :: (y ++ a :: z)) ∧
      ∀ c ∈ x ++ y ++ z, c ≠ a ∧ c ≠ b := by
  obtain ⟨p, q, rfl⟩ := List.append_of_mem ha
  rcases List.mem_append.mp hb with hb | hb
  · obtain ⟨x, y, rfl⟩ := List.append_of_mem hb
    have hshape : (x ++ b :: y) ++ a :: q = x ++ b :: (y ++ a :: q) := by rw [List.append_assoc, List.cons_append]
    rw [hshape] at hl ⊢
    exact ⟨x, y, q, .inr rfl, fun c hc => (ne_of_nodup_at_two hl c hc).symm⟩
  · obtain ⟨y, z, rfl⟩ := List.append_of_mem ((List.mem_cons.mp hb).resolve_left hab.symm)
    exact ⟨p, y, z, .inl rfl, ne_of_nodup_at_two hl⟩
end blocks

/-! #### The envelope of a state -/

section envelope
variable {u v : State} {dt : Nat}

theorem curveAt_mono {l : Limits} {a b : Nat} (h : a ≤ b) (p : PlanPoint) (d : Int) :
    curveAt l a p d ≤ curveAt l b p d := by
  rw [curveAt_eq, curveAt_eq]
  cases p.kind with
  | stop =>
    exact Nat.sqrt_le_sqrt (Nat.add_le_add_right (Nat.mul_le_mul_right _ (Nat.mul_le_mul_left 2 h)) _)
  | slow cap =>
    exact Nat.sqrt_le_sqrt (Nat.add_le_add_right (Nat.mul_le_mul_right _ (Nat.mul_le_mul_left 2 h)) _)

theorem State.leastIn_envNow (s : State) : leastIn s.envNow (s.rg.limit :: s.envelopeCurves) := leastIn_leastOf ..

theorem State.referenceNow_le_leastTerm (s : State) : s.referenceNow dt ≤ s.leastTerm dt := by
  unfold State.referenceNow
  dsimp only
  split_ifs
  · exact Nat.zero_le _
  · exact min_le_left _ _
  · exact le_rfl

theorem State.referenceNow_le_terms (s : State) {x : Nat} (h : x ∈ s.terms dt) : s.referenceNow dt ≤ x :=
  s.referenceNow_le_leastTerm.trans ((s.leastIn_leastTerm dt).2 x h)

/-- In STOPPING the reference only falls (R80). -/
theorem State.referenceNow_le_refPrev (s : State) (h : s.te.winder ≠ .winding) : s.referenceNow dt ≤ s.rg.refPrev := by
  have hdriven : s.drivenTerm dt ∈ s.terms dt := by
    rw [State.terms, if_neg h]
    exact List.mem_cons_self
  have hfalls : s.drivenTerm dt ≤ s.rg.refPrev := by
    rw [State.drivenTerm, if_neg h]
    exact Nat.sub_le _ _
  exact (s.referenceNow_le_terms hdriven).trans hfalls

/-- The reference stays at or below the envelope of its plan (R79). -/
theorem State.referenceNow_le_envNow (s : State) (ha : s.limits.aDec ≤ s.limits.aRet) (hr : s.rg.refPrev ≤ s.rg.limit) :
    s.referenceNow dt ≤ s.envNow := by
  rcases List.mem_cons.mp s.leastIn_envNow.1 with he | he
  · rw [he]
    by_cases hw : s.te.winder = .winding
    · refine s.referenceNow_le_terms ?_
      rw [State.terms, if_pos hw]
      exact List.mem_append_left _ (List.mem_cons_of_mem _ List.mem_cons_self)
    · exact (s.referenceNow_le_refPrev hw).trans hr
  · obtain ⟨p, hp, hcurve⟩ := List.mem_map.mp he
    have hterm : curveAt s.limits s.limits.aDec p (s.pointDistance p) ∈ s.terms dt :=
      List.mem_append_right _ (List.mem_map.mpr ⟨p, hp, rfl⟩)
    rw [← hcurve]
    exact (s.referenceNow_le_terms hterm).trans (curveAt_mono ha _ _)

theorem State.pointDistance_congr (hpm : v.pm = u.pm) (hguide : v.rg.guide = u.rg.guide)
    (htravel : v.rg.travel = u.rg.travel) : v.pointDistance = u.pointDistance := by
  funext p
  rw [State.pointDistance, State.pointDistance, State.guideDepth, State.guideDepth, State.conv, State.conv, hpm, hguide,
    htravel]

theorem State.leg_congr (hplan : v.rg.plan = u.rg.plan) : v.rg.leg = u.rg.leg := by
  rw [ReferenceGenerator.leg, ReferenceGenerator.leg, ReferenceGenerator.points, ReferenceGenerator.points, hplan]

/-- The envelope is one of the description, the position and the leg. -/
theorem State.envNow_congr (hds : v.ds = u.ds) (hpm : v.pm = u.pm) (hguide : v.rg.guide = u.rg.guide)
    (htravel : v.rg.travel = u.rg.travel) (hlimit : v.rg.limit = u.rg.limit) (hplan : v.rg.plan = u.rg.plan) :
    v.envNow = u.envNow := by
  rw [State.envNow, State.envNow, State.envelopeCurves, State.envelopeCurves, State.limits, State.limits,
    State.pointDistance_congr hpm hguide htravel, State.leg_congr hplan, hds, hlimit]

/-- The reference is one of the description, the position, the Reference Generator and of whether the winder winds. -/
theorem State.referenceNow_congr (hds : v.ds = u.ds) (hpm : v.pm = u.pm) (hrg : v.rg = u.rg)
    (hw : v.te.winder = .winding ↔ u.te.winder = .winding) : v.referenceNow dt = u.referenceNow dt := by
  have hdistance : v.pointDistance = u.pointDistance :=
    State.pointDistance_congr hpm (by rw [hrg]) (by rw [hrg])
  have hlimits : v.limits = u.limits := by rw [State.limits, State.limits, hds]
  have htoGo : v.distanceToGo = u.distanceToGo := by rw [State.distanceToGo, State.distanceToGo, hdistance, hrg]
  have hdriven : v.drivenTerm dt = u.drivenTerm dt := by
    rw [State.drivenTerm, State.drivenTerm, hlimits, hrg, if_congr hw rfl rfl]
  have hleast : v.leastTerm dt = u.leastTerm dt := by
    rw [State.leastTerm, State.leastTerm, State.brakingCurves, State.brakingCurves, hdriven, hlimits, hdistance, hrg]
    exact if_congr hw rfl rfl
  rw [State.referenceNow, State.referenceNow, State.latchNow, State.latchNow, hleast, htoGo, hlimits, hrg]
end envelope

/-! #### A Sample record in a moving winder -/

section record
variable {s u v w t : State} {prev : Nat} {rest : RestStep} {found : ReferenceGenerator}

/-- A state has the description, the Sample record and the position of another. -/
def State.Sees (u v : State) : Prop := v.ds = u.ds ∧ v.efe = u.efe ∧ v.pm = u.pm

theorem State.Sees.trans (h1 : u.Sees v) (h2 : v.Sees w) : u.Sees w :=
  ⟨h2.1.trans h1.1, h2.2.1.trans h1.2.1, h2.2.2.trans h1.2.2⟩

theorem State.sees_takeBlock (v : State) (b : SampleBlock) : v.Sees (State.takeBlock prev rest found v b) :=
  ⟨State.takeBlock_ds .., State.takeBlock_efe .., State.takeBlock_pm ..⟩

theorem State.sees_foldl (l : List SampleBlock) (v : State) : v.Sees (l.foldl (State.takeBlock prev rest found) v) :=
  of_foldl (P := v.Sees) l ⟨rfl, rfl, rfl⟩ fun w b h => h.trans (w.sees_takeBlock b)

/-- The other three blocks leave the leg, the reference and the envelope. -/
theorem State.rides_takeBlock {b : SampleBlock} (hb : b ≠ .reference ∧ b ≠ .envelope) :
    v.rides (State.takeBlock prev rest found v b) := by
  cases b with
  | reference => exact absurd rfl hb.1
  | envelope => exact absurd rfl hb.2
  | watch => exact State.rides_takeWatch v
  | clutch => exact State.rides_takeClutch v
  | executive => exact State.rides_takeExecutive rest

theorem State.rides_quiet {l : List SampleBlock} (hl : ∀ b ∈ l, b ≠ .reference ∧ b ≠ .envelope) :
    v.rides (l.foldl (State.takeBlock prev rest found) v) :=
  State.rides_foldl l v.rides_refl fun _ b hb => State.rides_takeBlock (hl b hb)

/-- The Envelope Supervisor's env is the envelope of the plan that the record found, or no less than the record's
reference. -/
theorem State.envNow_supervised (v : State) :
    (v.onPlan found.plan).envNow ≤ (v.onPlan (v.supervisedPlan prev found)).envNow ∨
      v.recordReference prev found ≤ (v.onPlan (v.supervisedPlan prev found)).envNow := by
  rw [State.supervisedPlan]
  split_ifs with h
  · exact .inl le_rfl
  · by_cases hlt : v.envNow < v.recordReference prev found
    · exact .inl (not_lt.mp fun he => h ⟨hlt, he⟩)
    · exact .inr (not_lt.mp hlt)

theorem State.takeEnvelope_of_moving (ht : (v.takeEnvelope prev found).te.winder.moving = true) :
    v.te.winder.moving = true ∧ ((v.takeEnvelope prev found).te.winder = .winding → v.te.winder = .winding) ∧
    { (v.takeEnvelope prev found).rg with plan := none } = { v.rg with plan := none } ∧
    (v.takeEnvelope prev found).es.env = (v.onPlan (v.supervisedPlan prev found)).envNow := by
  obtain ⟨hmoving, hwinding, hrg, henv⟩ := State.rides_reportAll _ ht
  have hmoving' : v.te.winder.moving = true := hmoving
  refine ⟨hmoving, hwinding, hrg, henv.trans ?_⟩
  have hseen : (v.onPlan (v.supervisedPlan prev found)).te.winder.moving = true := hmoving
  exact congrArg EnvelopeSupervisor.env (if_pos hseen)

theorem State.takeReference_refPrev (hv : v.te.winder.moving = true) (plan : Option (List PlanPoint)) :
    (v.takeReference prev plan).rg.refPrev =
      (v.onPlan plan).referenceNow (unsignedElapsed v.efe.sampleTime prev) :=
  congrArg ReferenceGenerator.refPrev (v.takeReference_rg_es prev plan hv).1

theorem State.takeReference_winder (plan : Option (List PlanPoint)) :
    (v.takeReference prev plan).te.winder = v.te.winder := by
  have hte := congrArg (fun t : State => t.te.winder) (v.takeReference_eq prev plan)
  exact hte

theorem State.takeReference_course (plan : Option (List PlanPoint)) :
    (v.takeReference prev plan).rg.guide = v.rg.guide ∧ (v.takeReference prev plan).rg.travel = v.rg.travel ∧
      (v.takeReference prev plan).rg.limit = v.rg.limit := by
  cases h : v.te.winder.moving with
  | true =>
    rw [(v.takeReference_rg_es prev plan h).1]
    exact ⟨rfl, rfl, rfl⟩
  | false =>
    rw [v.takeReference_of_still prev plan h]
    exact ⟨rfl, rfl, rfl⟩

/-- The envelope of the plan that the record found does not depend on the block that reads it. -/
theorem State.envNow_onFound (hsees : u.Sees v) (hguide : v.rg.guide = u.rg.guide) (htravel : v.rg.travel = u.rg.travel)
    (hlimit : v.rg.limit = u.rg.limit) : (v.onPlan u.rg.plan).envNow = u.envNow :=
  State.envNow_congr (v := v.onPlan u.rg.plan) hsees.1 hsees.2.2 hguide htravel hlimit rfl

theorem course_of_rg {f g : ReferenceGenerator} (h : { f with plan := none } = { g with plan := none }) :
    f.guide = g.guide ∧ f.travel = g.travel ∧ f.limit = g.limit ∧ f.refPrev = g.refPrev ∧
      { f with plan := g.plan } = g := by
  have hplan := congrArg (fun r : ReferenceGenerator => { r with plan := g.plan }) h
  have hguide := congrArg ReferenceGenerator.guide h
  have htravel := congrArg ReferenceGenerator.travel h
  have hlimit := congrArg ReferenceGenerator.limit h
  have hrefPrev := congrArg ReferenceGenerator.refPrev h
  exact ⟨hguide, htravel, hlimit, hrefPrev, hplan⟩

/-- The reference of a record before its envelope. -/
theorem State.refPrev_le_env_of_reference_first (ha : u.limits.aDec ≤ u.limits.aRet) (hr : u.rg.refPrev ≤ u.rg.limit)
    (hv : u.rides v) (hsees : u.Sees v)
    (hw : (v.takeReference prev u.rg.plan).rides w) (hsees' : u.Sees w)
    (ht : (w.takeEnvelope prev u.rg).te.winder.moving = true) :
    (w.takeEnvelope prev u.rg).rg.refPrev ≤ (w.takeEnvelope prev u.rg).es.env := by
  obtain ⟨hwm, -, hrgt, henv⟩ := State.takeEnvelope_of_moving ht
  obtain ⟨hvm', -, hrgw, -⟩ := hw hwm
  have hvm : v.te.winder.moving = true := v.takeReference_winder (prev := prev) u.rg.plan ▸ hvm'
  obtain ⟨-, -, -, hreft, -⟩ := course_of_rg hrgt
  obtain ⟨hguidew, htravelw, hlimitw, hrefw, -⟩ := course_of_rg hrgw
  obtain ⟨hguidev, htravelv, hlimitv, hrefv, -⟩ := course_of_rg (hv hvm).rg
  obtain ⟨hguide, htravel, hlimit⟩ := v.takeReference_course (prev := prev) u.rg.plan
  have hfoundw : (w.onPlan u.rg.plan).envNow = u.envNow := State.envNow_onFound hsees'
    (hguidew.trans (hguide.trans hguidev)) (htravelw.trans (htravel.trans htravelv))
      (hlimitw.trans (hlimit.trans hlimitv))
  have hfoundv : (v.onPlan u.rg.plan).envNow = u.envNow := State.envNow_onFound hsees hguidev htravelv hlimitv
  have hlimits : (v.onPlan u.rg.plan).limits = u.limits := congrArg (fun d : DescriptionStore => d.desc.limits) hsees.1
  have hle : w.rg.refPrev ≤ u.envNow := by
    rw [hrefw, State.takeReference_refPrev hvm, ← hfoundv]
    refine (v.onPlan u.rg.plan).referenceNow_le_envNow (by rw [hlimits]; exact ha) ?_
    exact (hrefv.trans_le hr).trans_eq hlimitv.symm
  rw [hreft, henv]
  rcases w.envNow_supervised (prev := prev) (found := u.rg) with h | h
  · exact hle.trans (hfoundw ▸ h)
  · exact (le_max_left _ _).trans h

/-- The envelope of a record before its reference. -/
theorem State.refPrev_le_env_of_envelope_first (ha : u.limits.aDec ≤ u.limits.aRet) (hr : u.rg.refPrev ≤ u.rg.limit)
    (hv : u.rides v) (hsees : u.Sees v) (hw : (v.takeEnvelope prev u.rg).rides w) (hsees' : u.Sees w)
    (ht : (w.takeReference prev u.rg.plan).te.winder.moving = true) :
    (w.takeReference prev u.rg.plan).rg.refPrev ≤ (w.takeReference prev u.rg.plan).es.env := by
  have hwm : w.te.winder.moving = true := w.takeReference_winder (prev := prev) u.rg.plan ▸ ht
  obtain ⟨hem, hwinding, hrgw, henvw⟩ := hw hwm
  obtain ⟨hvm, hvwinding, hrge, henve⟩ := State.takeEnvelope_of_moving hem
  have hrides := hv hvm
  have hrg := hrgw.trans (hrge.trans hrides.rg)
  obtain ⟨hguidev, htravelv, hlimitv, hrefv, -⟩ := course_of_rg hrides.rg
  obtain ⟨hguidew, htravelw, hlimitw, hrefw, hrgw'⟩ := course_of_rg hrg
  have hfoundw : (w.onPlan u.rg.plan).envNow = u.envNow := State.envNow_onFound hsees' hguidew htravelw hlimitw
  have hfoundv : (v.onPlan u.rg.plan).envNow = u.envNow := State.envNow_onFound hsees hguidev htravelv hlimitv
  have hlimits : (w.onPlan u.rg.plan).limits = u.limits := congrArg (fun d : DescriptionStore => d.desc.limits) hsees'.1
  have henv : (w.takeReference prev u.rg.plan).es.env = (v.onPlan (v.supervisedPlan prev u.rg)).envNow := by
    have hes := congrArg (fun t : State => t.es.env) (w.takeReference_eq prev u.rg.plan)
    exact hes.trans (henvw.trans henve)
  rw [State.takeReference_refPrev hwm, henv]
  rcases v.envNow_supervised (prev := prev) (found := u.rg) with h | h
  · refine le_trans ?_ (hfoundw.trans hfoundv.symm ▸ h)
    refine (w.onPlan u.rg.plan).referenceNow_le_envNow (by rw [hlimits]; exact ha) ?_
    exact (hrefw.trans_le hr).trans_eq hlimitw.symm
  · refine le_trans ?_ h
    by_cases hww : w.te.winder = .winding
    · have hvw : v.te.winder = .winding := hvwinding (hwinding hww)
      refine le_trans (le_of_eq ?_) (le_max_right _ _)
      have hefe : w.efe = v.efe := hsees'.2.1.trans hsees.2.1.symm
      rw [hefe]
      exact State.referenceNow_congr (v := w.onPlan u.rg.plan) (u := v.modRg fun _ => u.rg)
        (hsees'.1.trans hsees.1.symm)
        (hsees'.2.2.trans hsees.2.2.symm) hrgw' ⟨fun _ => hvw, fun _ => hww⟩
    · refine ((w.onPlan u.rg.plan).referenceNow_le_refPrev hww).trans (le_trans (le_of_eq ?_) (le_max_left _ _))
      exact hrefw.trans hrefv.symm
/-- What the position path leaves of the Reference Generator of a winder that keeps moving. -/
theorem State.takeRecord_rg (s : State) (heads : Heads) (h : (s.takeRecord heads).te.winder.moving = true) :
    { (s.takeRecord heads).rg with plan := none } = { s.rg with plan := none } := by
  have hreporting : Reporting fun v : State =>
      v.te.winder.moving = true → { v.rg with plan := none } = { s.rg with plan := none } :=
    { modEfe := fun _ hv => hv, modPm := fun _ hv => hv, modEs := fun _ hv => hv, modCc := fun _ hv _ => hv
      raise := fun _ _ _ _ _ _ hv => hv
      report := fun r hv hm => (State.rides_report r hm).rg.trans (hv (State.rides_report r hm).moving) }
  exact hreporting.takeRecord (fun _ => rfl) heads h

/-- A winder that moves after the blocks of a record moved before them. -/
theorem State.moving_of_blocks {l : List SampleBlock}
    (ht : (l.foldl (State.takeBlock prev rest found) u).te.winder.moving = true) : u.te.winder.moving = true := by
  induction l generalizing u with
  | nil => exact ht
  | cons b l ih =>
    have hb := ih ht
    cases b with
    | reference => exact u.takeReference_winder (prev := prev) found.plan ▸ hb
    | envelope => exact (State.takeEnvelope_of_moving hb).1
    | watch => exact (u.rides_takeWatch hb).moving
    | clutch => exact (u.rides_takeClutch hb).moving
    | executive => exact (State.rides_takeExecutive rest hb).moving

/-- Whatever the order of the blocks, a record that leaves the winder moving leaves the reference at or below env
(R79). -/
theorem State.refPrev_le_env_of_blocks {l : List SampleBlock} (hl : l.Nodup)
    (href : .reference ∈ l) (henv : .envelope ∈ l)
    (ha : u.limits.aDec ≤ u.limits.aRet) (hr : u.rg.refPrev ≤ u.rg.limit)
    (ht : (l.foldl (State.takeBlock prev rest u.rg) u).te.winder.moving = true) :
    (l.foldl (State.takeBlock prev rest u.rg) u).rg.refPrev ≤ (l.foldl (State.takeBlock prev rest u.rg) u).es.env := by
  obtain ⟨x, y, z, hsplit, hquiet⟩ := split_at_two hl href henv (by decide)
  have hx := State.rides_quiet (v := u) (prev := prev) (rest := rest) (found := u.rg) fun c hc =>
    hquiet c (List.mem_append_left _ (List.mem_append_left y hc))
  have hy (v : State) := State.rides_quiet (v := v) (prev := prev) (rest := rest) (found := u.rg) fun c hc =>
    hquiet c (List.mem_append_left _ (List.mem_append_right x hc))
  have hz (v : State) := State.rides_quiet (v := v) (prev := prev) (rest := rest) (found := u.rg) fun c hc =>
    hquiet c (List.mem_append_right _ hc)
  have hsees := State.sees_foldl (prev := prev) (rest := rest) (found := u.rg)
  have hblock := State.sees_takeBlock (prev := prev) (rest := rest) (found := u.rg)
  rcases hsplit with rfl | rfl <;> rw [List.foldl_append, List.foldl_cons, List.foldl_append, List.foldl_cons] at ht ⊢
  · obtain ⟨hmoving, -, hrg, henvz⟩ := hz _ ht
    have hle := State.refPrev_le_env_of_reference_first ha hr hx (hsees x u) (hy _)
      (((hsees x u).trans (hblock _ .reference)).trans (hsees y _)) hmoving
    rw [(course_of_rg hrg).2.2.2.1, henvz]
    exact hle
  · obtain ⟨hmoving, -, hrg, henvz⟩ := hz _ ht
    have hle := State.refPrev_le_env_of_envelope_first ha hr hx (hsees x u) (hy _)
      (((hsees x u).trans (hblock _ .envelope)).trans (hsees y _)) hmoving
    rw [(course_of_rg hrg).2.2.2.1, henvz]
    exact hle
end record

/-- Settles O29. -/
theorem referenceStaysUnderTheEnvelopeAndItsTiers : Obligations.ReferenceStaysUnderTheEnvelopeAndItsTiers := by
  unfold Obligations.ReferenceStaysUnderTheEnvelopeAndItsTiers
  refine ⟨fun dt s _ ha hr => s.referenceNow_le_envNow ha hr,
    fun e heads order s t he _ hmoving ha hr => ?_, fun s hs => ?_⟩
  · have ht : (blockOrder order).foldl (State.takeBlock (s.elapse e).efe.sampleTime
        ((s.elapse e).takeRecord heads).te.rest ((s.elapse e).takeRecord heads).rg)
          ((s.elapse e).takeRecord heads) = t := by
      cases he
      rfl
    rw [← ht] at hmoving ⊢
    have hu := State.moving_of_blocks hmoving
    obtain ⟨-, -, hlimit, hrefPrev, -⟩ := course_of_rg ((s.elapse e).takeRecord_rg heads hu)
    have hlimits : ((s.elapse e).takeRecord heads).limits = s.limits :=
      congrArg (fun d : DescriptionStore => d.desc.limits) (State.takeRecord_ds ..)
    refine State.refPrev_le_env_of_blocks (nodup_blockOrder order) (mem_blockOrder order _) (mem_blockOrder order _)
      (by rw [hlimits]; exact ha) ?_ hmoving
    exact hrefPrev.trans_le (hr.trans_eq hlimit.symm)
  · intro e l distance curve bounds length travel error
    have hdistance : s.pointDistance = distance := by
      funext p
      change s.rg.travel.distance (s.conv s.rg.guide).depth p.depth = match s.rg.travel with
        | .down => p.depth - (s.conv s.rg.guide).depth
        | .up => (s.conv s.rg.guide).depth - p.depth
      cases s.rg.travel <;> rfl
    have hcurves : s.envelopeCurves = s.rg.leg.map curve := by
      refine List.map_congr_left fun p _ => ?_
      rw [hdistance]
      exact curveAt_eq ..
    have hnow : e = { s.es with
        env := s.envNow, margin := marginOf l s.envNow, tier1 := s.envNow + marginOf l s.envNow
        tier2 := s.envNow + 2 * marginOf l s.envNow, progress := s.progressNow, follow := s.followNow
        motion := ⟨s.baselineNow .a, s.baselineNow .b⟩ } := if_pos hs
    have htravel : s.legTravel = travel := by
      change s.rg.travel.signed length = match s.rg.travel with | .down => length | .up => -length
      cases s.rg.travel <;> rfl
    have hfollow : s.followNow = if s.te.winder = .winding ∧
      error then some (s.es.follow.getD s.efe.sampleTime) else none := by
      refine (if_congr (and_congr_right fun _ => decide_eq_true_iff) rfl rfl).trans ?_
      cases s.es.follow <;> rfl
    have hleast := s.leastIn_envNow
    rw [hcurves] at hleast
    rw [hnow]
    refine ⟨rfl, hleast.1, hleast.2, rfl, rfl, rfl, ?_, hfollow⟩
    rw [← htravel]
    rfl

end Sys2Proof.Machine
end

section
/-! The reports of the Envelope Supervisor and its baselines (R91 to R109): O30. -/

namespace Sys2Proof.Machine

open Sys2Proof

/-! #### A list of reports -/

section reports
variable {k : FaultKind} {c : Conv} {r : Report} {l m : List Report}

/-- A list has a report of a kind about a conveyance. -/
def hasReport (k : FaultKind) (c : Conv) (l : List Report) : Prop := ∃ r ∈ l, r.kind = k ∧ r.subject = c.code

theorem hasReport_append : hasReport k c (l ++ m) ↔ hasReport k c l ∨ hasReport k c m := by
  simp only [hasReport, List.mem_append, or_and_right, exists_or]

theorem hasReport_ite (P : Prop) [Decidable P] (x : FaultKind) (d : Conv) (hr : r.kind = x ∧ r.subject = d.code) :
    hasReport k c (if P then [r] else []) ↔ k = x ∧ c = d ∧ P := by
  have hcode : c.code = d.code ↔ c = d := by cases c <;> cases d <;> decide
  obtain ⟨hx, hd⟩ := hr
  split_ifs with h
  · simp only [hasReport, List.mem_singleton, exists_eq_left, hx, hd, h, and_true,
      eq_comm (b := k), eq_comm (b := c.code),
      hcode]
  · simp [hasReport, h]
/-- What a report names: its kind and its subject. -/
def Report.key (r : Report) : FaultKind × Nat := (r.kind, r.subject)

theorem keys_ite (P : Prop) [Decidable P] : ((if P then [r] else []).map Report.key).Sublist [Report.key r] := by
  split_ifs
  · exact List.Sublist.refl _
  · exact List.nil_sublist _
end reports

/-! #### The reports by their conditions -/

section conditions
variable (s : State) (c d : Conv) (k : FaultKind)

theorem State.convAtRest_iff_not_lt : s.convAtRest c = true ↔ ¬ s.limits.standstill < mag (s.conv c).speed := by
  rw [State.convAtRest, decide_eq_true_iff, not_lt]

/-- The distance to the limit toward which a conveyance moves (R102). -/
def State.ahead : Int := if 0 < (s.conv c).speed then (s.convRec c).bottom - (s.conv c).depth
  else (s.conv c).depth - (s.convRec c).top

theorem State.overwind_of_rest (h : ¬ s.limits.standstill < mag (s.conv c).speed) : s.overwind c = none :=
  if_pos ((s.convAtRest_iff_not_lt c).mpr h)

theorem State.overwind_of_moving (h : s.limits.standstill < mag (s.conv c).speed) : s.overwind c =
    some (if 0 < (s.conv c).speed then (s.convRec c).bottom else (s.convRec c).top, s.ahead c) := by
  refine (if_neg fun hr => (s.convAtRest_iff_not_lt c).mp hr h).trans ?_
  rw [State.ahead]
  split_ifs <;> rfl

theorem State.has_overwind : hasReport k c (s.overwindReports d) ↔
    k = .overwind ∧ c = d ∧ s.limits.standstill < mag (s.conv d).speed ∧ s.ahead d ≤ 0 := by
  unfold State.overwindReports
  by_cases h : s.limits.standstill < mag (s.conv d).speed
  · rw [s.overwind_of_moving d h, and_iff_right h]
    exact hasReport_ite _ _ _ ⟨rfl, rfl⟩
  · rw [s.overwind_of_rest d h]
    simp [hasReport, h]

/-- The speed from which the emergency braking stops within a distance (R102). -/
theorem lt_of_approachSpeed (l : Limits) {x : Int} (hx : 0 < x) (v : Int) :
    approachSpeed l x < mag v ↔ 2 * l.aEmg * x < v ^ 2 := by
  rw [approachSpeed, isqrt_eq, Nat.sqrt_lt']
  have hnat : ((2 * l.aEmg * x.toNat : Nat) : Int) = 2 * l.aEmg * x := by
    push_cast
    rw [Int.toNat_of_nonneg hx.le]
  have hsq : ((mag v ^ 2 : Nat) : Int) = v ^ 2 := by
    push_cast
    exact Int.natAbs_sq v
  rw [← Int.ofNat_lt, hnat, hsq]

theorem State.has_approach : hasReport k c (s.approachReports d) ↔
    k = .overwindApproach ∧ c = d ∧ s.limits.standstill < mag (s.conv d).speed ∧ 0 < s.ahead d ∧
      2 * s.limits.aEmg * s.ahead d < (s.conv d).speed ^ 2 := by
  unfold State.approachReports
  by_cases h : s.limits.standstill < mag (s.conv d).speed
  · rw [s.overwind_of_moving d h, and_iff_right h]
    refine (hasReport_ite _ .overwindApproach d ⟨rfl, rfl⟩).trans ?_
    exact and_congr_right fun _ => and_congr_right fun _ => and_congr_right fun hpos => lt_of_approachSpeed _ hpos _
  · rw [s.overwind_of_rest d h]
    simp [hasReport, h]

theorem State.has_speed : hasReport k c s.speedReports ↔
    (k = .overspeed ∧ c = s.rg.guide ∧
      ((s.envNow + 2 * marginOf s.limits s.envNow : Nat) : Int) < s.guideSpeed) ∨
    (k = .envelopeExceeded ∧ c = s.rg.guide ∧ ((s.envNow + marginOf s.limits s.envNow : Nat) : Int) <
      s.guideSpeed) := by
  unfold State.speedReports
  rw [hasReport_append]
  push_cast
  exact or_congr (hasReport_ite _ _ _ ⟨rfl, rfl⟩) (hasReport_ite _ _ _ ⟨rfl, rfl⟩)

theorem State.has_overtravel : hasReport k c s.overtravelReports ↔
    k = .overtravel ∧ c = s.rg.guide ∧ s.distanceToGo < -(s.limits.overtravelLimit : Int) :=
  hasReport_ite _ _ _ ⟨rfl, rfl⟩

theorem State.has_direction : hasReport k c s.directionReports ↔
    k = .directionWrong ∧ c = s.rg.guide ∧ s.legTravel + 100000000 < s.es.progress := by
  refine (hasReport_ite _ .directionWrong s.rg.guide ⟨rfl, rfl⟩).trans ?_
  refine and_congr_right fun _ => and_congr_right fun _ => ?_
  rw [State.progressNow, Config.rollbackLimit]
  omega

theorem State.has_follow : hasReport k c s.followReports ↔
    k = .driveNotFollowing ∧ c = s.rg.guide ∧ s.te.winder = .winding ∧ s.followError = true ∧ s.followLasted = true :=
  hasReport_ite _ _ _ ⟨rfl, rfl⟩

theorem State.has_overtime : hasReport k c s.overtimeReports ↔
    k = .tripOvertime ∧ c = s.rg.guide ∧ s.te.winder.moving = true ∧ s.overdue = true :=
  hasReport_ite _ _ _ ⟨rfl, rfl⟩

theorem State.has_motion : hasReport k c (s.motionReports d) ↔
    k = .unexpectedMotion ∧ c = d ∧ s.movedAway d = true := hasReport_ite _ _ _ ⟨rfl, rfl⟩
/-- The reports of the record: those of the overwind limits, those about the guide of a moving winder, and those of the
motion baselines. -/
theorem State.has_envelopeReports : hasReport k c s.envelopeReports ↔
    hasReport k c (s.overwindReports c) ∨ hasReport k c (s.approachReports c) ∨
    (s.te.winder.moving = true ∧ (hasReport k c s.speedReports ∨ hasReport k c s.overtravelReports ∨
      hasReport k c s.directionReports ∨ hasReport k c s.followReports ∨ hasReport k c s.overtimeReports)) ∨
    hasReport k c (s.motionReports c) := by
  have hguided : hasReport k c (if s.te.winder.moving then s.speedReports ++
    s.overtravelReports ++ s.directionReports ++
      s.followReports ++ s.overtimeReports else []) ↔ s.te.winder.moving = true ∧ (hasReport k c s.speedReports ∨
        hasReport k c s.overtravelReports ∨ hasReport k c s.directionReports ∨ hasReport k c s.followReports ∨
        hasReport k c s.overtimeReports) := by
    split_ifs with h
    · simp only [hasReport_append, h, true_and, or_assoc]
    · simp [hasReport, h]
  have hboth {P : Conv → List Report} (hP : ∀ d, hasReport k c (P d) → c = d) :
      (hasReport k c (P .a) ∨ hasReport k c (P .b)) ↔ hasReport k c (P c) := by
    refine ⟨fun h => ?_, fun h => ?_⟩
    · rcases h with h | h
      · exact hP _ h ▸ h
      · exact hP _ h ▸ h
    · cases c
      · exact .inl h
      · exact .inr h
  have hoverwind := hboth (P := s.overwindReports) fun d h => ((s.has_overwind c d k).mp h).2.1
  have happroach := hboth (P := s.approachReports) fun d h => ((s.has_approach c d k).mp h).2.1
  have hmotion := hboth (P := s.motionReports) fun d h => ((s.has_motion c d k).mp h).2.1
  rw [State.envelopeReports, hasReport_append, hasReport_append, hasReport_append, hasReport_append, hasReport_append,
    hasReport_append, hguided, ← hoverwind, ← happroach, ← hmotion]
  simp only [or_assoc]
/-- The winder moves, and the conveyance is the guide. -/
def State.guided : Prop := s.te.winder.moving = true ∧ c = s.rg.guide

/-- The condition of each kind of report about a conveyance (R91). -/
def State.reportCondition : FaultKind → Prop
  | .overwind => s.limits.standstill < mag (s.conv c).speed ∧ s.ahead c ≤ 0
  | .overwindApproach => s.limits.standstill < mag (s.conv c).speed ∧ 0 < s.ahead c ∧
      2 * s.limits.aEmg * s.ahead c < (s.conv c).speed ^ 2
  | .overspeed => s.guided c ∧ ((s.envNow + 2 * marginOf s.limits s.envNow : Nat) : Int) < s.guideSpeed
  | .envelopeExceeded => s.guided c ∧ ((s.envNow + marginOf s.limits s.envNow : Nat) : Int) < s.guideSpeed
  | .overtravel => s.guided c ∧ s.distanceToGo < -(s.limits.overtravelLimit : Int)
  | .directionWrong => s.guided c ∧ s.legTravel + 100000000 < s.es.progress
  | .driveNotFollowing => s.guided c ∧ s.te.winder = .winding ∧ s.followError = true ∧ s.followLasted = true
  | .tripOvertime => s.guided c ∧ s.overdue = true
  | .unexpectedMotion => s.movedAway c = true
  | _ => False

theorem State.has_envelopeReports_iff : hasReport k c s.envelopeReports ↔ s.reportCondition c k := by
  rw [s.has_envelopeReports, s.has_overwind, s.has_approach, s.has_speed, s.has_overtravel,
    s.has_direction, s.has_follow,
    s.has_overtime, s.has_motion]
  cases k <;> simp [State.reportCondition, State.guided] <;> tauto
end conditions

/-! #### The order of the reports -/

section order
variable (s : State) (c : Conv)

theorem State.overwind_keys : ((s.overwindReports c).map Report.key).Sublist [(.overwind, c.code)] := by
  unfold State.overwindReports
  cases s.overwind c with
  | none => exact List.nil_sublist _
  | some x => exact keys_ite _

theorem State.approach_keys : ((s.approachReports c).map Report.key).Sublist [(.overwindApproach, c.code)] := by
  unfold State.approachReports
  cases s.overwind c with
  | none => exact List.nil_sublist _
  | some x => exact keys_ite _

theorem State.motion_keys : ((s.motionReports c).map Report.key).Sublist [(.unexpectedMotion, c.code)] := keys_ite _

/-- The reports about the guide, in the order of R91. -/
theorem State.guide_keys : ((if s.te.winder.moving then s.speedReports ++ s.overtravelReports ++ s.directionReports ++
    s.followReports ++ s.overtimeReports else []).map Report.key).Sublist
      [(.overspeed, s.rg.guide.code), (.envelopeExceeded, s.rg.guide.code), (.overtravel, s.rg.guide.code),
       (.directionWrong, s.rg.guide.code), (.driveNotFollowing, s.rg.guide.code),
         (.tripOvertime, s.rg.guide.code)] := by
  split_ifs
  · simp only [List.map_append, State.speedReports]
    exact (((((keys_ite _).append (keys_ite _)).append (keys_ite _)).append (keys_ite _)).append (keys_ite _)).append
      (keys_ite _)
  · exact List.nil_sublist _

theorem State.envelopeReports_keys : (s.envelopeReports.map Report.key).Sublist
    ([(.overwind, Conv.a.code), (.overwind, Conv.b.code)] ++
      [(.overwindApproach, Conv.a.code), (.overwindApproach, Conv.b.code)] ++
      [(.overspeed, s.rg.guide.code), (.envelopeExceeded, s.rg.guide.code), (.overtravel, s.rg.guide.code),
       (.directionWrong, s.rg.guide.code), (.driveNotFollowing, s.rg.guide.code), (.tripOvertime, s.rg.guide.code)] ++
      [(.unexpectedMotion, Conv.a.code), (.unexpectedMotion, Conv.b.code)]) := by
  simp only [State.envelopeReports, List.map_append]
  exact ((((((s.overwind_keys .a).append (s.overwind_keys .b)).append (s.approach_keys .a)).append
    (s.approach_keys .b)).append s.guide_keys).append (s.motion_keys .a)).append (s.motion_keys .b)
end order

/-! #### The motion baselines -/

section motion
variable (s : State) (c : Conv)

theorem motionTested_iff (w : WinderState) : motionTested w = true ↔ w ≠ .checking ∧ w.moving = false := by
  cases w <;> decide

theorem WinderState.resting_iff (w : WinderState) : w.resting = true ↔
    (w ≠ .checking ∧ w.moving = false) ∧ w ≠ .preparing ∧ w ≠ .prepared := by
  cases w <;> decide

theorem State.supervised_iff : s.supervised c = true ↔ c = .a ∨ s.cc.state = .engaged := by
  simp [State.supervised]

theorem State.movedAway_iff : s.movedAway c = true ↔ (s.te.winder ≠ .checking ∧ s.te.winder.moving = false) ∧
    (c = .a ∨ s.cc.state = .engaged) ∧ ∃ b, s.es.motion.get c = some b ∧
      s.limits.driftLimit < ((s.drum c).paidOut - b).natAbs / 1000000 := by
  unfold State.movedAway
  rw [Bool.and_eq_true, Bool.and_eq_true, motionTested_iff, State.supervised_iff, State.movement, and_assoc]
  refine and_congr_right fun _ => and_congr_right fun _ => ?_
  cases s.es.motion.get c with
  | none => simp
  | some b => simp [mag]

theorem State.baselineTaken_eq : s.baselineTaken c =
    if (s.te.winder ≠ .checking ∧ s.te.winder.moving = false) ∧ s.te.winder ≠ .preparing ∧ s.te.winder ≠ .prepared ∧
      (c = .a ∨ s.cc.state = .engaged) ∧ (s.conv c).speed.natAbs ≤ s.limits.standstill ∧ s.lines.brakeApplied = true
    then some (s.drum c).paidOut else none := by
  refine if_congr ?_ rfl rfl
  rw [WinderState.resting_iff, State.supervised_iff, State.convAtRest_iff_not_lt, not_lt]
  tauto

theorem State.superviseNow_motion : s.superviseNow.motion.get c = s.baselineNow c := by
  unfold State.superviseNow
  dsimp only
  split_ifs <;> cases c <;> rfl
end motion

/-- Settles O30. -/
theorem envelopeReportsByTheirConditions : Obligations.EnvelopeReportsByTheirConditions := by
  unfold Obligations.EnvelopeReportsByTheirConditions
  refine ⟨fun prev found s => ?_, fun s => ?_, fun s c => ?_⟩
  · intro onFound ref seen
    have hplan : s.onPlan (s.supervisedPlan prev found) = seen := by
      change s.onPlan (if s.envNow < ref ∧ s.envNow < onFound.envNow then found.plan else s.rg.plan) =
        if s.envNow < ref ∧ s.envNow < onFound.envNow then onFound else s
      split_ifs <;> rfl
    rw [State.takeEnvelope, hplan]
    rfl
  · exact s.envelopeReports_keys
  · intro l m reports guided travel v depth ahead toward rests
    have hlasted : s.followLasted = true ↔
        ∃ t, s.es.follow = some t ∧ l.followTime * 1000 ≤ unsignedElapsed s.efe.sampleTime t := s.followLasted_iff
    have herror : s.followError = true ↔ l.followLimit < (s.guideSpeed - s.es.refInForce).natAbs := decide_eq_true_iff
    have hmoved := s.movedAway_iff c
    have hall (k : FaultKind) : reports k ↔ s.reportCondition c k := s.has_envelopeReports_iff c k
    have hfollow := hall .driveNotFollowing
    rw [State.reportCondition, herror, hlasted] at hfollow
    have hovertime := hall .tripOvertime
    rw [State.reportCondition, s.overdue_iff] at hovertime
    refine ⟨hall .overspeed, hall .envelopeExceeded, hall .overtravel, hall .directionWrong, hfollow, hovertime,
      hall .overwind, hall .overwindApproach, ?_⟩
    intro supervised taken away
    refine ⟨(hall .unexpectedMotion).trans hmoved, ?_⟩
    have htaken : s.baselineTaken c = taken := s.baselineTaken_eq c
    rw [s.superviseNow_motion, State.baselineNow, htaken]
    cases hb : s.es.motion.get c with
    | none => rfl
    | some b =>
      refine if_congr (hmoved.trans ?_) rfl rfl
      rw [hb]
      simp only [Option.some.injEq, exists_eq_left']
      rfl

end Sys2Proof.Machine
end

section
/-! The cross-check of a drum, and a Sample record with a valid primary (R26 to R28, R30, R36, R40, R43): O26. -/

namespace Sys2Proof.Machine

open Sys2Proof

/-! #### The items of the two drums and conveyances -/

section both
variable {α : Type} (p : Both α) (c : Conv) (x y : α)

theorem Both.get_set : (p.set c x).get c = x := by cases c <;> rfl

theorem Both.get_set_other : (p.set c x).get c.other = p.get c.other := by cases c <;> rfl

theorem Both.set_set : (p.set c x).set c y = p.set c y := by cases c <;> rfl
theorem Both.set_get : p.set c (p.get c) = p := by cases c <;> rfl
end both

section position
variable (u : State) (c : Conv) (f : ConvModel → ConvModel) (g : DrumModel → DrumModel)

theorem State.conv_modConv : (u.modConv c f).conv c = f (u.conv c) := Both.get_set ..
theorem State.conv_other_modConv : (u.modConv c f).conv c.other = u.conv c.other := Both.get_set_other ..
theorem State.drum_modConv (d : Conv) : (u.modConv c f).drum d = u.drum d := rfl
theorem State.drum_modDrum : (u.modDrum c g).drum c = g (u.drum c) := Both.get_set ..
theorem State.drum_other_modDrum : (u.modDrum c g).drum c.other = u.drum c.other := Both.get_set_other ..
theorem State.conv_modDrum (d : Conv) : (u.modDrum c g).conv d = u.conv d := rfl
theorem State.passage_modConv : (u.modConv c f).pm.passage = u.pm.passage := rfl
theorem State.passage_modDrum : (u.modDrum c g).pm.passage = u.pm.passage := rfl
theorem State.redepth_eq : u.redepth c = u.modConv c fun m =>
    { m with prevDepth := m.depth, depth := u.depthNow c } := rfl

theorem State.conv_report (r : Report) : (u.report r).conv = u.conv := by
  funext d
  rw [State.conv, State.report_pm, State.conv]

theorem State.drum_report (r : Report) : (u.report r).drum = u.drum := by
  funext d
  rw [State.drum, State.report_pm, State.drum]

/-- What a change of certainty leaves of the Position Model. -/
theorem State.setCertainty_pm (n : Certainty) (y : CertaintyCause) : (u.setCertainty c n y).pm =
    { u.pm with convs := u.pm.convs.set c { u.conv c with certainty := n } } := by
  rw [State.setCertainty]
  split_ifs with h
  · rw [← h]
    exact congrArg (fun x => { u.pm with convs := x }) (Both.set_get u.pm.convs c).symm
  · rfl
end position

/-! #### A report reads nothing of the Encoder Front End -/

section encoders
variable (e : EncoderFrontEnd) (s : State) (k : FaultKind) (v : Severity) (y : Cause)

/-- A state with another Encoder Front End. -/
def State.withEfe : State := { s with efe := e }

theorem State.withEfe_interrupt : (s.withEfe e).interrupt = s.interrupt.withEfe e := by
  have hhead : (s.withEfe e).activeHead = s.activeHead := rfl
  unfold State.interrupt
  rw [hhead]
  split <;> rfl

theorem State.withEfe_enter (w : WinderState) (n : Nat) : (s.withEfe e).enter w y n = (s.enter w y n).withEfe e := rfl

theorem State.withEfe_halt : (s.withEfe e).halt = s.halt.withEfe e := by
  have hl (t : State) : t.halt = t.silenced.interrupt.setStopOrder false := rfl
  have hs : (s.withEfe e).silenced = s.silenced.withEfe e := rfl
  rw [hl, hs, State.withEfe_interrupt, hl]
  rfl

theorem State.withEfe_toIdle : (s.withEfe e).toIdle y = (s.toIdle y).withEfe e := by
  rw [State.toIdle, State.withEfe_interrupt]
  rfl

theorem State.withEfe_trip (x : ServiceReturn) : (s.withEfe e).trip x k = (s.trip x k).withEfe e := by
  rw [State.trip, State.withEfe_halt]
  rfl

theorem State.withEfe_lock : (s.withEfe e).lock k = (s.lock k).withEfe e := by
  rw [State.lock, State.withEfe_halt]
  rfl

theorem State.withEfe_controlledStop : (s.withEfe e).controlledStop k = (s.controlledStop k).withEfe e := by
  have hte : (s.withEfe e).te = s.te := rfl
  unfold State.controlledStop
  rw [hte]
  split
  · exact State.withEfe_toIdle ..
  · exact State.withEfe_toIdle ..
  · rw [apply_ite (State.withEfe e)]
    rfl
  · rfl
  · exact State.withEfe_toIdle ..
  · exact State.withEfe_toIdle ..
  all_goals rfl

theorem State.withEfe_order : (s.withEfe e).order k v = (s.order k v).withEfe e := by
  have hte : (s.withEfe e).te = s.te := rfl
  unfold State.order State.emergency State.lockout
  split
  · rfl
  · exact State.withEfe_controlledStop ..
  · rw [hte]
    split <;> first | rfl | exact State.withEfe_trip ..
  · rw [hte]
    split <;> first | rfl | exact State.withEfe_lock ..

theorem State.withEfe_respond : (s.withEfe e).respond k v = (s.respond k v).withEfe e := by
  have hforce : (s.withEfe e).setInForce v = (s.setInForce v).withEfe e := by
    unfold State.setInForce
    rw [apply_ite (State.withEfe e)]
    rfl
  unfold State.respond
  rw [apply_ite (State.withEfe e), hforce, State.withEfe_order]
  rfl

theorem State.withEfe_report (r : Report) : (s.withEfe e).report r = (s.report r).withEfe e := by
  have ht : (s.withEfe e).taken r = (s.taken r).withEfe e := rfl
  rw [State.report_eq, State.report_eq, apply_ite (State.withEfe e), ht, State.withEfe_respond]
  rfl
end encoders

/-! #### The cross-check -/

section crossCheck
variable (c : Conv) (s : State)

/-- A state with another front of one drum. -/
def State.marked (g : DrumFront) : State := { s with efe := { s.efe with drums := s.efe.drums.set c g } }

theorem State.modFront_eq (f : DrumFront → DrumFront) : s.modFront c f = s.marked c (f (s.front c)) := rfl

theorem State.marked_marked (g h : DrumFront) : (s.marked c g).marked c h = s.marked c h := by
  simp only [State.marked, Both.set_set]

theorem State.front_marked (g : DrumFront) : (s.marked c g).front c = g := Both.get_set ..

theorem State.report_marked (g : DrumFront) (r : Report) : (s.marked c g).report r = (s.report r).marked c g := by
  have h := State.withEfe_report { s.efe with drums := s.efe.drums.set c g } s r
  rw [State.marked, State.marked, State.report_efe]
  exact h

theorem State.modFront_report (r : Report) (f : DrumFront → DrumFront) :
    (s.report r).modFront c f = (s.report r).marked c (f (s.front c)) := by
  rw [State.modFront_eq, State.front, State.report_efe, State.front]

/-- The tolerance of the cross-check (R26). -/
def State.agrees (o : Int) : Prop :=
  mag ((s.front c).primary.count - (s.front c).check.count - o) ≤ (s.ds.desc.drums.get c).tolerance

variable {c s}

theorem State.crossCheck_of_check_invalid (h : (s.front c).check.valid = false) : s.crossCheck c =
    if (s.front c).primary.valid = true ∧ (s.front c).checkLost = false then
      (s.report (bare .checkChannelLost c.code)).marked c { s.front c with checkLost := true }
    else s := by
  rw [State.crossCheck, if_neg (ne_true_of_eq_false h), State.modFront_report]
  exact if_congr (by rw [Bool.and_eq_true, Bool.not_eq_true']) rfl rfl

theorem State.crossCheck_of_primary_invalid (h : (s.front c).check.valid = true)
    (hp : (s.front c).primary.valid = false) :
    s.crossCheck c = s.marked c { s.front c with checkLost := false } := by
  rw [State.crossCheck, if_pos h]
  exact if_neg (ne_true_of_eq_false hp)

theorem State.crossCheck_of_pending (h : (s.front c).check.valid = true) (hp : (s.front c).primary.valid = true)
    (ho : (s.front c).offset = none) : s.crossCheck c = s.marked c { s.front c with
      offset := some ((s.front c).primary.count - (s.front c).check.count), disagree :=
        false, checkLost := false } := by
  rw [State.crossCheck, if_pos h]
  refine (if_pos hp).trans ?_
  rw [ho]
  dsimp only
  rw [State.modFront_eq c s, State.modFront_eq, State.marked_marked, State.front_marked]

theorem State.crossCheck_of_offset {o : Int} (h : (s.front c).check.valid = true)
    (hp : (s.front c).primary.valid = true)
    (ho : (s.front c).offset = some o) : s.crossCheck c =
      if mag ((s.front c).primary.count - (s.front c).check.count - o) ≤ (s.ds.desc.drums.get c).tolerance then
        s.marked c { s.front c with disagree := false, checkLost := false }
      else if (s.front c).disagree = true then s.marked c { s.front c with checkLost := false }
      else ((s.report { kind := .encoderDisagree, subject := c.code
                        item1 := (s.front c).primary.count - (s.front c).check.count, item2 := o, item3 := 0 }).marked c
        { s.front c with disagree := true, checkLost := false }).setCertainty c .uncertain .crossCheck := by
  rw [State.crossCheck, if_pos h]
  refine (if_pos hp).trans ?_
  rw [ho]
  dsimp only
  rw [State.modFront_eq c s, State.modFront_report, State.modFront_eq, State.report_marked, State.marked_marked,
    State.marked_marked, State.front_marked]
end crossCheck

/-! #### A Sample record with a valid primary -/

section measure
variable (c : Conv) (prev : Nat) (s : State)

/-- The length that a valid primary count measures (R29). -/
def State.measuredLength : Int := paidOut (s.layers c) (s.front c).primary.count

/-- The speed over the time since the last valid count (R30). -/
def State.measuredSpeed : Int :=
  match (s.drum c).lastValid with
  | none => 0
  | some (c0, t0) => speedOver (s.measuredLength c - paidOut (s.layers c) c0) (signedElapsed s.efe.sampleTime t0)

/-- The extrapolated or the kept length, with which the measured one is compared (R36, R40). -/
def State.expectedLength : Int :=
  match (s.drum c).run with
  | .run => (s.drum c).paidOut + (s.conv c).speed * signedElapsed s.efe.sampleTime prev
  | .none | .lost => (s.drum c).paidOut

theorem State.expectedLength_eq : s.expectedLength c prev = if (s.drum c).run = .run then
    (s.drum c).paidOut + (s.conv c).speed * signedElapsed s.efe.sampleTime prev else (s.drum c).paidOut := by
  unfold State.expectedLength
  cases (s.drum c).run <;> rfl

/-- The state as the measured speed is set. -/
def State.speeded (v : Int) : State := { s with pm := { s.pm with convs := s.pm.convs.set c { s.conv c with speed := v } } }

/-- The state after the comparison of lengths (R36, R40). -/
def State.compared : State :=
  if (s.drum c).run = .run ∨ ((s.drum c).run = .none ∧ (s.drum c).heldLast = true) then
    (s.speeded c (s.measuredSpeed c)).compareLength c (s.measuredLength c - s.expectedLength c prev)
  else s.speeded c (s.measuredSpeed c)

/-- The items of the conveyance and the drum after a valid record (R30, R43). -/
def State.corrected (t : State) : State :=
  (t.modConv c fun m => { m with
    correction := if (s.drum c).run ≠ .none ∧ (s.drum c).markInRun = true then
        m.correction - (s.measuredLength c - s.expectedLength c prev).tdiv 1000000 else m.correction
    degraded := if (s.drum c).run = .none then m.degraded else 0 }).modDrum c fun _ =>
    { paidOut := s.measuredLength c, lastValid := some ((s.front c).primary.count, s.efe.sampleTime), run := .none,
      markInRun := false, heldLast := false }

theorem State.measure_eq : s.measure c prev =
    let t := (s.corrected c prev (s.compared c prev)).redepth c
    if (s.drum c).lastValid.isNone then t.modConv c fun m => { m with prevDepth := m.depth } else t := rfl
/-- What the comparison leaves of the Position Model: all but the certainty. -/
theorem State.compareLength_pm (d : Int) : ∃ x, (s.compareLength c d).pm =
    { s.pm with convs := s.pm.convs.set c { s.conv c with certainty := x } } := by
  have hsame : s.pm = { s.pm with convs := s.pm.convs.set c { s.conv c with certainty := (s.conv c).certainty } } :=
    congrArg (fun x => { s.pm with convs := x }) (Both.set_get s.pm.convs c).symm
  rw [State.compareLength]
  split_ifs
  · exact ⟨_, s.setCertainty_pm c _ _⟩
  · exact ⟨_, hsame⟩
  · exact ⟨_, hsame⟩
  · exact ⟨_, (State.report_pm ..).trans (s.setCertainty_pm c _ _)⟩

theorem State.compared_pm : ∃ x, (s.compared c prev).pm = { s.pm with
    convs := s.pm.convs.set c { s.conv c with speed := s.measuredSpeed c, certainty := x } } := by
  have hset (m n : ConvModel) : (s.pm.convs.set c m).set c n = s.pm.convs.set c n := Both.set_set ..
  have hget (m : ConvModel) : (s.pm.convs.set c m).get c = m := Both.get_set ..
  rw [State.compared]
  split_ifs
  · obtain ⟨x, hx⟩ := (s.speeded c (s.measuredSpeed c)).compareLength_pm c (s.measuredLength c - s.expectedLength c prev)
    refine ⟨x, hx.trans ?_⟩
    simp only [State.speeded, State.conv, hset, hget]
  · exact ⟨_, rfl⟩

theorem State.measure_pm_only : s.measure c prev = { s.compared c prev with pm := (s.measure c prev).pm } := by
  rw [State.measure_eq]
  dsimp only
  split_ifs <;> rfl

/-- The items of a valid record, from those as the lengths were compared. -/
theorem State.measure_items : ((s.measure c prev).conv c).certainty = ((s.compared c prev).conv c).certainty ∧
    ((s.measure c prev).conv c).speed = ((s.compared c prev).conv c).speed ∧
    ((s.measure c prev).conv c).correction = (if (s.drum c).run ≠ .none ∧ (s.drum c).markInRun = true then
      ((s.compared c prev).conv c).correction - (s.measuredLength c - s.expectedLength c prev).tdiv 1000000
      else ((s.compared c prev).conv c).correction) ∧
    ((s.measure c prev).conv c).degraded =
      (if (s.drum c).run = .none then ((s.compared c prev).conv c).degraded else 0) ∧
    (s.measure c prev).drum c = { paidOut := s.measuredLength c
                                  lastValid := some ((s.front c).primary.count, s.efe.sampleTime), run := .none
                                  markInRun := false, heldLast := false } ∧
    (s.measure c prev).conv c.other = (s.compared c prev).conv c.other ∧
    (s.measure c prev).drum c.other = (s.compared c prev).drum c.other ∧
    (s.measure c prev).pm.passage = (s.compared c prev).pm.passage := by
  rw [State.measure_eq]
  dsimp only
  split_ifs <;> simp_all only [State.redepth_eq, State.corrected, State.conv_modConv, State.conv_other_modConv,
    State.drum_modConv, State.drum_modDrum, State.drum_other_modDrum, State.conv_modDrum, State.passage_modConv,
    State.passage_modDrum, if_true, if_false, not_true, not_false_eq_true, ne_eq, and_self]

/-- The state as the lengths are compared, in the three outcomes of R36 and R40. -/
theorem State.compared_eq : s.compared c prev =
    if ((s.drum c).run = .run ∨ ((s.drum c).run = .none ∧ (s.drum c).heldLast = true)) ∧
        mag (s.measuredLength c - s.expectedLength c prev) / 1000000 ≤ s.limits.captureWindow ∧
        (s.conv c).certainty = .degraded then
      (s.speeded c (s.measuredSpeed c)).setCertainty c .certain .sample
    else if ((s.drum c).run = .run ∨ ((s.drum c).run = .none ∧ (s.drum c).heldLast = true)) ∧
        ¬mag (s.measuredLength c - s.expectedLength c prev) / 1000000 ≤ s.limits.captureWindow ∧
        (s.conv c).certainty ≠ .uncertain then
      ((s.speeded c (s.measuredSpeed c)).setCertainty c .uncertain .sample).report (bare .positionLost c.code)
    else s.speeded c (s.measuredSpeed c) := by
  have hcertainty (v : Int) : ((s.speeded c v).conv c).certainty = (s.conv c).certainty :=
    (congrArg ConvModel.certainty (Both.get_set s.pm.convs c { s.conv c with speed := v })).trans rfl
  have hlimits (v : Int) : (s.speeded c v).limits = s.limits := rfl
  unfold State.compared State.compareLength
  rw [hcertainty, hlimits]
  split_ifs <;> simp_all
end measure

/-- Settles O26: the outcomes of the cross-check one by one, and `measure` as its comparison of lengths followed by
the items of R30 and R43. -/
theorem crossCheckAndTheReturnOfThePrimary : Obligations.CrossCheckAndTheReturnOfThePrimary := by
  unfold Obligations.CrossCheckAndTheReturnOfThePrimary
  refine ⟨fun c s => ⟨fun hc h => ?_, fun hc hp hl => ?_, State.crossCheck_of_primary_invalid, fun hc hp =>
    ⟨State.crossCheck_of_pending hc hp, fun o ho => ⟨fun ha => ?_, fun ha hd => ?_, fun ha hd => ?_⟩⟩⟩,
    fun c prev strict s hv => ?_⟩
  · rw [State.crossCheck_of_check_invalid hc, if_neg]
    rintro ⟨hp, hl⟩
    rcases h with h | h
    · exact Bool.false_ne_true (h.symm.trans hp)
    · exact Bool.false_ne_true (hl.symm.trans h)
  · rw [State.crossCheck_of_check_invalid hc, if_pos ⟨hp, hl⟩]
    rfl
  · rw [State.crossCheck_of_offset hc hp ho, if_pos ha]
    rfl
  · rw [State.crossCheck_of_offset hc hp ho, if_neg ha, if_pos hd]
    rfl
  · rw [State.crossCheck_of_offset hc hp ho, if_neg ha, if_neg (ne_true_of_eq_false hd)]
    rfl
  · have hposition : s.position c prev strict = s.measure c prev := if_pos hv
    obtain ⟨hcertainty, hspeed, hcorrection, hdegraded, hdrum, hother, hdrumOther, hpassage⟩ := s.measure_items c prev
    obtain ⟨x, hx⟩ := s.compared_pm c prev
    have hconv : (s.compared c prev).conv c = { s.conv c with speed := s.measuredSpeed c, certainty := x } :=
      (congrArg (fun p => p.convs.get c) hx).trans (Both.get_set ..)
    have hconvOther : (s.compared c prev).conv c.other = s.conv c.other :=
      (congrArg (fun p => p.convs.get c.other) hx).trans (Both.get_set_other ..)
    have hdrumsame : (s.compared c prev).drum c.other = s.drum c.other := congrArg (fun p => p.drums.get c.other) hx
    rw [hconv] at hspeed hcorrection hdegraded
    rw [State.expectedLength_eq] at hcorrection
    have hbase := s.compared_eq c prev
    rw [State.expectedLength_eq] at hbase
    dsimp only
    rw [hposition]
    refine ⟨?_, ?_, hspeed, hcorrection, hdegraded, hdrum, hother.trans hconvOther, hdrumOther.trans hdrumsame,
      hpassage.trans ((congrArg PositionModel.passage hx).trans rfl)⟩
    · exact (State.measure_pm_only c prev s).trans (congrArg (fun b : State => { b with pm := (s.measure c prev).pm }) hbase)
    · exact hcertainty.trans (congrArg (fun b : State => (b.conv c).certainty) hbase)

end Sys2Proof.Machine
end

section
/-! The edges of the mark lines and the marks passed at a Sample record (R41, R42, R44, R45): O25. -/

namespace Sys2Proof.Machine

open Sys2Proof

/-! #### The conditions of an edge -/

theorem motionOf_eq_some (x : Int) (t : Travel) : motionOf x = some t ↔
    (t = .down ∧ 0 < x) ∨ (t = .up ∧ x < 0) := by
  unfold motionOf
  cases t <;> split_ifs <;> simp <;> omega

theorem opposed_iff (x y : Int) : opposed x y = true ↔ (0 < x ∧ y < 0) ∨ (x < 0 ∧ 0 < y) := by
  simp only [opposed, Bool.or_eq_true, Bool.and_eq_true, decide_eq_true_eq]

theorem admits_down_iff (f : Facing) : f.admits .down = true ↔ f ≠ .up := by cases f <;> decide
theorem admits_up_iff (f : Facing) : f.admits .up = true ↔ f ≠ .down := by cases f <;> decide

section edge
variable (s : State) (m : Mark) (i : Nat) (edge : Nat)

theorem motionOf_cases (x : Int) :
    (motionOf x = some .down ∧ 0 < x) ∨ (motionOf x = some .up ∧ x < 0) ∨ (motionOf x = none ∧ x = 0) := by
  unfold motionOf
  split_ifs <;> simp <;> omega

theorem State.passing_iff : s.passing m = true ↔ s.limits.standstill < mag (s.conv m.conv).speed ∧
    (m.facing = .either ∨ (m.facing = .down ∧ 0 < (s.conv m.conv).speed) ∨
      (m.facing = .up ∧ (s.conv m.conv).speed < 0)) := by
  have hrest : s.convAtRest m.conv = true ↔ mag (s.conv m.conv).speed ≤ s.limits.standstill := decide_eq_true_iff
  rw [State.passing, Bool.and_eq_true, Bool.not_eq_true', ← Bool.not_eq_true, hrest, Nat.not_le]
  refine and_congr_right fun hspeed => ?_
  rcases motionOf_cases (s.conv m.conv).speed with ⟨hm, hx⟩ | ⟨hm, hx⟩ | ⟨hm, hx⟩
  · rw [hm]
    dsimp only
    rw [admits_down_iff]
    cases m.facing <;> simp <;> omega
  · rw [hm]
    dsimp only
    rw [admits_up_iff]
    cases m.facing <;> simp <;> omega
  · rw [hx] at hspeed
    exact absurd hspeed (Nat.not_lt_zero _)

theorem State.crossedFarLine_iff : s.crossedFarLine m = true ↔
    (0 < (s.conv m.conv).speed ∧ m.facing ≠ .up ∧ (s.conv m.conv).prevDepth ≤ m.depth + s.limits.captureWindow ∧
      m.depth + s.limits.captureWindow < (s.conv m.conv).depth) ∨
    ((s.conv m.conv).speed < 0 ∧ m.facing ≠ .down ∧ m.depth - s.limits.captureWindow ≤ (s.conv m.conv).prevDepth ∧
      (s.conv m.conv).depth < m.depth - s.limits.captureWindow) := by
  rw [State.crossedFarLine]
  rcases motionOf_cases (s.conv m.conv).speed with ⟨hm, hx⟩ | ⟨hm, hx⟩ | ⟨hm, hx⟩
  · rw [hm]
    simp only [Bool.and_eq_true, decide_eq_true_eq, admits_down_iff, and_assoc]
    constructor
    · exact fun h => .inl ⟨hx, h⟩
    · rintro (h | h)
      · exact h.2
      · omega
  · rw [hm]
    simp only [Bool.and_eq_true, decide_eq_true_eq, admits_up_iff, and_assoc]
    constructor
    · exact fun h => .inr ⟨hx, h⟩
    · rintro (h | h)
      · omega
      · exact h.2
  · rw [hm]
    constructor
    · intro h
      cases h
    · rintro (h | h) <;> omega

/-! #### The edge of a mark line -/

variable {s m i} {line : Fin 24}

theorem State.takeEdge_of_no_mark (h : ∀ j n, s.mark j = some n → n.line ≠ line) : s.takeEdge line edge = s := by
  have hnone : s.markOnLine line = none :=
    tableEntries_find?_eq_none.mpr fun j n hn => decide_eq_false (h j n hn)
  rw [State.takeEdge, hnone]

theorem State.takeEdge_of_mark (h : s.markOnLine line = some (i, m)) : s.takeEdge line edge =
    if s.passing m = true ∧ s.passage i ≠ .taken then
      if (s.conv m.conv).certainty = .uncertain then (s.setPassage i .taken).redatum m edge
      else (s.setPassage i .taken).correct i m edge
    else s := by
  rw [State.takeEdge, h]

/-- An event that was just raised stays in the queue through the next. -/
theorem State.mem_raise_raise (t : State) (k l : EventKind) (p q : Nat) (v1 v2 v3 v4 w1 w2 w3 w4 : Word32) :
    { kind := k, trip := p, time := t.unitTime, v1 := v1, v2 := v2, v3 := v3, v4 := v4 } ∈
      ((t.raise k p v1 v2 v3 v4).raise l q w1 w2 w3 w4).link.events := by
  rw [State.raise_eq, State.raise_eq]
  refine List.mem_append_left _ ?_
  dsimp only
  generalize (if ¬t.link.events.length < 32 then t.link.events.tail else t.link.events) = es
  split_ifs with h
  · exact List.mem_append_right _ (List.mem_singleton_self _)
  · have hne : es ≠ [] := fun he => h (by simp only [he, List.nil_append, List.length_singleton, Nat.reduceLT])
    rw [List.tail_append_of_ne_nil hne]
    exact List.mem_append_right _ (List.mem_singleton_self _)

section correct
variable (s m i)

/-- The error of the model at an edge (R42). -/
def State.edgeError : Int := m.depth - ((s.conv m.conv).depth + s.projected m.conv edge)

theorem State.correct_far (h : ¬mag (s.edgeError m edge) ≤ s.limits.captureWindow) : s.correct i m edge =
    (s.report { kind := .markDisagree, subject := i, item1 := s.edgeError m edge, item2 := 0, item3 := 0 }).setCertainty
      m.conv .uncertain .mark := if_neg h

/-- The state as the correction is made and its event raised (R42). -/
def State.advanced : State :=
  (s.modConv m.conv fun c => { c with
    correction := c.correction + s.edgeError m edge, depth := c.depth + s.edgeError m edge }).raise .markPassed
      s.activeId (uword32 i) (uword32 m.conv.code) (word32 (s.edgeError m edge))
      (word32 ((s.conv m.conv).depth + s.edgeError m edge))

theorem State.correct_near (h : mag (s.edgeError m edge) ≤ s.limits.captureWindow) : s.correct i m edge =
    (let t := if (s.conv m.conv).certainty = .degraded then (s.advanced m i edge).setCertainty m.conv .certain .mark
      else s.advanced m i edge
    if (s.drum m.conv).run = .run then
      (t.modConv m.conv fun c => { c with degraded := 0 }).modDrum m.conv fun d => { d with markInRun := true }
    else t) := by
  have hdepth : ((s.modConv m.conv fun c => { c with
      correction := c.correction + s.edgeError m edge, depth := c.depth + s.edgeError m edge }).conv m.conv).depth =
      (s.conv m.conv).depth + s.edgeError m edge := by rw [State.conv_modConv]
  have hadvanced : s.advanced m i edge = (s.modConv m.conv fun c => { c with
      correction := c.correction + s.edgeError m edge, depth := c.depth + s.edgeError m edge }).raise .markPassed
      s.activeId (uword32 i) (uword32 m.conv.code) (word32 (s.edgeError m edge))
      (word32 ((s.modConv m.conv fun c => { c with
        correction := c.correction + s.edgeError m edge, depth :=
          c.depth + s.edgeError m edge }).conv m.conv).depth) := by
    rw [hdepth, State.advanced]
  rw [hadvanced]
  exact if_pos h

/-- The state as a DEGRADED conveyance becomes CERTAIN by the mark (R42). -/
def State.assured : State :=
  if (s.conv m.conv).certainty = .degraded then (s.advanced m i edge).setCertainty m.conv .certain .mark
  else s.advanced m i edge

theorem State.assured_pm (hc : (s.conv m.conv).certainty ≠ .uncertain) : (s.assured m i edge).pm = { s.pm with
    convs := s.pm.convs.set m.conv { s.conv m.conv with
      correction := (s.conv m.conv).correction + s.edgeError m edge
      depth := (s.conv m.conv).depth + s.edgeError m edge, certainty := .certain } } := by
  have hadvanced : (s.advanced m i edge).pm = { s.pm with convs := s.pm.convs.set m.conv { s.conv m.conv with
      correction := (s.conv m.conv).correction + s.edgeError m edge
      depth := (s.conv m.conv).depth + s.edgeError m edge } } := rfl
  have hset (x y : ConvModel) : (s.pm.convs.set m.conv x).set m.conv y = s.pm.convs.set m.conv y := Both.set_set ..
  have hget (x : ConvModel) : (s.pm.convs.set m.conv x).get m.conv = x := Both.get_set ..
  rw [State.assured]
  split_ifs with hd
  · rw [State.setCertainty_pm, State.conv, hadvanced]
    dsimp only
    rw [hset, hget]
  · have hcertain : (s.conv m.conv).certainty = .certain := by
      cases h : (s.conv m.conv).certainty
      all_goals first | rfl | exact absurd h hc | exact absurd h hd
    rw [hadvanced, ← hcertain]

theorem State.assured_event : { kind := .markPassed, trip := s.activeId, time := s.unitTime, v1 := uword32 i
                                v2 := uword32 m.conv.code, v3 := word32 (s.edgeError m edge)
                                v4 := word32 ((s.conv m.conv).depth + s.edgeError m edge) } ∈
    (s.assured m i edge).link.events := by
  have hadvanced : { kind := .markPassed, trip := s.activeId, time := s.unitTime, v1 := uword32 i
                     v2 := uword32 m.conv.code, v3 := word32 (s.edgeError m edge)
                     v4 := word32 ((s.conv m.conv).depth + s.edgeError m edge) } ∈
      (s.advanced m i edge).link.events :=
    List.mem_append_right _ (List.mem_singleton_self _)
  rw [State.assured]
  split_ifs
  · rw [State.setCertainty]
    split_ifs
    · exact hadvanced
    · exact State.mem_raise_raise ..
  · exact hadvanced

theorem State.assured_frame :
    s.assured m i edge = { s with pm := (s.assured m i edge).pm, link := (s.assured m i edge).link } := by
  rw [State.assured]
  split_ifs
  · rw [State.setCertainty]
    split_ifs <;> rfl
  · rfl

/-- A correction within the capture window (R42): the items of the conveyance and the drum, and the event. -/
theorem State.correct_near_items (h : mag (s.edgeError m edge) ≤ s.limits.captureWindow)
    (hc : (s.conv m.conv).certainty ≠ .uncertain) :
    ((s.correct i m edge).conv m.conv = { s.conv m.conv with
      correction := (s.conv m.conv).correction + s.edgeError m edge
      depth := (s.conv m.conv).depth + s.edgeError m edge, certainty := .certain
      degraded := if (s.drum m.conv).run = .run then 0 else (s.conv m.conv).degraded }) ∧
    ((s.correct i m edge).drum m.conv = { s.drum m.conv with
      markInRun := (s.drum m.conv).markInRun || (s.drum m.conv).run = .run }) ∧
    (s.correct i m edge).pm.passage = s.pm.passage ∧
    { kind := .markPassed, trip := s.activeId, time := s.unitTime, v1 := uword32 i, v2 := uword32 m.conv.code
      v3 := word32 (s.edgeError m edge), v4 := word32 ((s.conv m.conv).depth + s.edgeError m edge) } ∈
        (s.correct i m edge).link.events ∧
    s.correct i m edge = { s with pm := (s.correct i m edge).pm, link := (s.correct i m edge).link } ∧
    (s.correct i m edge).pm.convs.get m.conv.other = s.conv m.conv.other ∧
    (s.correct i m edge).pm.drums.get m.conv.other = s.drum m.conv.other := by
  have heq := State.correct_near s m i edge h
  change s.correct i m edge = (if (s.drum m.conv).run = .run then
    ((s.assured m i edge).modConv m.conv fun c => { c with degraded := 0 }).modDrum m.conv
      fun d => { d with markInRun := true } else s.assured m i edge) at heq
  have hpm := s.assured_pm m i edge hc
  have hconv := (congrArg (fun p => p.convs.get m.conv) hpm).trans (Both.get_set ..)
  have hother := (congrArg (fun p => p.convs.get m.conv.other) hpm).trans (Both.get_set_other ..)
  have hdrum (c : Conv) : (s.assured m i edge).drum c = s.drum c := congrArg (fun p => p.drums.get c) hpm
  have hpassage := congrArg PositionModel.passage hpm
  have hframe := s.assured_frame m i edge
  rw [heq]
  split_ifs with hrun
  · refine ⟨?_, ?_, hpassage, s.assured_event m i edge, ?_, ?_, ?_⟩
    · rw [State.conv_modDrum, State.conv_modConv]
      exact congrArg (fun x : ConvModel => { x with degraded := 0 }) hconv
    · rw [State.drum_modDrum, State.drum_modConv, hdrum]
      simp only [hrun, decide_true, Bool.or_true]
    · exact congrArg (fun x : State => (x.modConv m.conv fun c => { c with degraded := 0 }).modDrum m.conv
        fun d => { d with markInRun := true }) hframe
    · exact (Both.get_set_other ..).trans hother
    · exact (Both.get_set_other ..).trans (hdrum _)
  · refine ⟨hconv, ?_, hpassage, s.assured_event m i edge, hframe, hother, hdrum _⟩
    rw [hdrum]
    simp only [hrun, decide_false, Bool.or_false]
end correct

theorem exec_markEdge (e : Elapse) (age : Nat) : exec (.markEdge e line age) s =
    .next ((s.elapse e).takeEdge line ((((s.elapse e).sampleClock : Int) - age) % 2 ^ 32).toNat) := rfl

/-- An edge that is taken (R41): the mark is TAKEN, and the conveyance corrected or its datum set. -/
theorem State.takeEdge_of_passes (h : s.markOnLine line = some (i, m))
    (hp : s.limits.standstill < mag (s.conv m.conv).speed ∧ s.passage i ≠ .taken ∧
      (m.facing = .either ∨ (m.facing = .down ∧ 0 < (s.conv m.conv).speed) ∨
        (m.facing = .up ∧ (s.conv m.conv).speed < 0))) : s.takeEdge line edge =
    if (s.conv m.conv).certainty = .uncertain then (s.setPassage i .taken).redatum m edge
    else (s.setPassage i .taken).correct i m edge := by
  obtain ⟨hspeed, htaken, hfacing⟩ := hp
  rw [State.takeEdge_of_mark edge h, if_pos ⟨(s.passing_iff m).mpr ⟨hspeed, hfacing⟩, htaken⟩]

theorem State.takeEdge_of_not_passes (h : s.markOnLine line = some (i, m))
    (hp : ¬(s.limits.standstill < mag (s.conv m.conv).speed ∧ s.passage i ≠ .taken ∧
      (m.facing = .either ∨ (m.facing = .down ∧ 0 < (s.conv m.conv).speed) ∨
        (m.facing = .up ∧ (s.conv m.conv).speed < 0)))) : s.takeEdge line edge = s := by
  rw [State.takeEdge_of_mark edge h, if_neg]
  rintro ⟨hpass, htaken⟩
  obtain ⟨hspeed, hfacing⟩ := (s.passing_iff m).mp hpass
  exact hp ⟨hspeed, htaken, hfacing⟩

theorem State.redatum_of_invalid (h : (s.front m.conv).primary.valid = false) : s.redatum m edge = s :=
  if_neg (ne_true_of_eq_false h)

/-- The datum that an edge sets (R44). -/
theorem State.redatum_of_valid (h : (s.front m.conv).primary.valid = true) : s.redatum m edge =
    ({ s with pm := { s.pm with convs := s.pm.convs.set m.conv { s.conv m.conv with
        datumCount := (s.front m.conv).primary.count, datumDepth := m.depth - s.projected m.conv edge
        sDatum := stretchMm (s.convRec m.conv) (s.conv m.conv).loadClass
          (m.depth - s.projected m.conv edge + (s.convRec m.conv).ropeOffset)
        correction := 0, degraded := 0, depth := m.depth } } }).setCertainty m.conv .certain .mark := by
  have hdepth : m.depth - s.projected m.conv edge + s.projected m.conv edge = m.depth := Int.sub_add_cancel ..
  refine (if_pos h).trans ?_
  dsimp only
  rw [hdepth]
  rfl

/-- A mark that is TAKEN, with the items of its conveyance. -/
def State.placed (i : Nat) (c : Conv) (v : ConvModel) (s : State) : State :=
  { s with pm := { s.pm with convs := s.pm.convs.set c v, passage := s.pm.passage.setIfInBounds i .taken } }

theorem State.setPassage_eq (i : Nat) (c : Conv) (s : State) : s.setPassage i .taken = s.placed i c (s.conv c) :=
  congrArg (fun x => { s with pm := { s.pm with convs := x, passage := s.pm.passage.setIfInBounds i .taken } })
    (Both.set_get s.pm.convs c).symm

section taken
variable (h : s.markOnLine line = some (i, m)) (hp : s.limits.standstill < mag (s.conv m.conv).speed ∧
  s.passage i ≠ .taken ∧ (m.facing = .either ∨ (m.facing = .down ∧ 0 < (s.conv m.conv).speed) ∨
    (m.facing = .up ∧ (s.conv m.conv).speed < 0)))
include h hp

theorem State.takeEdge_without_count (hu : (s.conv m.conv).certainty = .uncertain)
    (hv : (s.front m.conv).primary.valid = false) : s.takeEdge line edge = s.placed i m.conv (s.conv m.conv) := by
  rw [State.takeEdge_of_passes edge h hp, if_pos hu, ← State.setPassage_eq]
  exact State.redatum_of_invalid (s := s.setPassage i .taken) edge hv

theorem State.takeEdge_datum (hu : (s.conv m.conv).certainty = .uncertain)
    (hv : (s.front m.conv).primary.valid = true) : s.takeEdge line edge =
      (s.placed i m.conv { s.conv m.conv with
        datumCount := (s.front m.conv).primary.count, datumDepth := m.depth - s.projected m.conv edge
        sDatum := stretchMm (s.convRec m.conv) (s.conv m.conv).loadClass
          (m.depth - s.projected m.conv edge + (s.convRec m.conv).ropeOffset)
        correction := 0, degraded := 0, depth := m.depth }).setCertainty m.conv .certain .mark := by
  rw [State.takeEdge_of_passes edge h hp, if_pos hu]
  exact State.redatum_of_valid (s := s.setPassage i .taken) edge hv

theorem State.takeEdge_far (hu : (s.conv m.conv).certainty ≠ .uncertain)
    (hfar : s.limits.captureWindow < mag (s.edgeError m edge)) : s.takeEdge line edge =
      ((s.placed i m.conv (s.conv m.conv)).report
        { kind := .markDisagree, subject := i, item1 := s.edgeError m edge, item2 := 0, item3 := 0 }).setCertainty
          m.conv .uncertain .mark := by
  rw [State.takeEdge_of_passes edge h hp, if_neg hu, ← State.setPassage_eq]
  exact State.correct_far (s.setPassage i .taken) m i edge (Nat.not_le.mpr hfar)

theorem State.takeEdge_near (hu : (s.conv m.conv).certainty ≠ .uncertain) :
    s.takeEdge line edge = (s.setPassage i .taken).correct i m edge := by
  rw [State.takeEdge_of_passes edge h hp, if_neg hu]
end taken

/-! #### A mark at a Sample record -/

section pass
variable (old : Both Int)

theorem State.passMark_of_none (h : s.mark i = none) : s.passMark old i = s := by rw [State.passMark, h]

theorem State.passMark_of_armed (h : s.mark i = some m) (hp : s.passage i = .armed) : s.passMark old i =
    if (s.conv m.conv).certainty = .certain ∧ s.crossedFarLine m = true then
      (s.report (bare .markMissed i)).setPassage i .disarmed
    else s := by
  rw [State.passMark, h]
  dsimp only
  rw [hp]

theorem State.passMark_of_not_armed (h : s.mark i = some m) (hp : s.passage i ≠ .armed) : s.passMark old i =
    if mag (s.conv m.conv).speed ≤ s.limits.standstill ∨
        (0 < (s.conv m.conv).speed ∧ old.get m.conv < 0) ∨ ((s.conv m.conv).speed < 0 ∧ 0 < old.get m.conv) then
      s.setPassage i .armed
    else s := by
  have hreturns : (s.convAtRest m.conv = true ∨ opposed (s.conv m.conv).speed (old.get m.conv) = true) ↔
      mag (s.conv m.conv).speed ≤ s.limits.standstill ∨
        (0 < (s.conv m.conv).speed ∧ old.get m.conv < 0) ∨ ((s.conv m.conv).speed < 0 ∧ 0 < old.get m.conv) :=
    or_congr decide_eq_true_iff (opposed_iff ..)
  rw [State.passMark, h]
  dsimp only
  cases hpassage : s.passage i with
  | armed => exact absurd hpassage hp
  | taken => exact if_congr hreturns rfl rfl
  | disarmed => exact if_congr hreturns rfl rfl
end pass
end edge

/-- Settles O25: `takeEdge` and `passMark` by their cases. -/
theorem markEdgeCorrectsOrSetsTheDatum : Obligations.MarkEdgeCorrectsOrSetsTheDatum := by
  unfold Obligations.MarkEdgeCorrectsOrSetsTheDatum
  refine ⟨fun e line age s h => ?_, fun e line age i m s h => ?_,
    fun old s => ⟨rfl, fun i h => s.passMark_of_none old h,
    fun i m h => ⟨fun hp hc hb => ?_, fun hp hcb => ?_, fun hp hr => ?_, fun hp hr => ?_⟩⟩⟩
  · exact congrArg Host.Outcome.next (State.takeEdge_of_no_mark (s := s.elapse e) _ h)
  · simp only [exec_markEdge]
    generalize ((((s.elapse e).sampleClock : Int) - age) % 2 ^ 32).toNat = edge
    refine ⟨fun hp => ?_, fun hp hu hv => ?_, fun hp hu hv => ?_, fun hp hu hfar => ?_, fun hp hu hnear => ?_⟩
    · exact congrArg Host.Outcome.next (State.takeEdge_of_not_passes (s := s.elapse e) edge h hp)
    · exact congrArg Host.Outcome.next (State.takeEdge_without_count (s := s.elapse e) edge h hp hu hv)
    · exact congrArg Host.Outcome.next (State.takeEdge_datum (s := s.elapse e) edge h hp hu hv)
    · exact congrArg Host.Outcome.next (State.takeEdge_far (s := s.elapse e) edge h hp hu hfar)
    · obtain ⟨hconv, hdrum, hpassage, hevent, hframe, hother, hdrumOther⟩ :=
        State.correct_near_items ((s.elapse e).setPassage i .taken) m i edge hnear hu
      exact ⟨_, congrArg Host.Outcome.next (State.takeEdge_near (s := s.elapse e) edge h hp hu), hconv, hdrum, hpassage,
        ⟨_, hevent, rfl, rfl, rfl, rfl, rfl, rfl⟩, hframe, hother, hdrumOther⟩
  · rw [State.passMark_of_armed old h hp, if_pos ⟨hc, (s.crossedFarLine_iff m).mpr hb⟩]
    rfl
  · rw [State.passMark_of_armed old h hp, if_neg]
    rintro ⟨hc, hcross⟩
    exact hcb.elim (fun hn => hn hc) (fun hn => hn ((s.crossedFarLine_iff m).mp hcross))
  · rw [State.passMark_of_not_armed old h hp, if_pos hr]
    rfl
  · rw [State.passMark_of_not_armed old h hp, if_neg hr]

end Sys2Proof.Machine
end

section
/-! The pending flags, the counts and the port: only a report sets a flag or counts (R174, R176), and of the Control
Link Port a Sample record changes the events, the overrun mark and the pulse of ATTN alone. -/

namespace Sys2Proof.Machine

open Sys2Proof

/-- The pending flag and the occurrence count of a fault kind. -/
def State.tally (s : State) (k : FaultKind) : Bool × Nat :=
  (s.isPending k, (s.fm.counts.toList[k.idx]?).getD 0)

/-- The Control Link Port but for its events, the overrun mark and the pulse of ATTN. -/
def State.port (s : State) : ControlLink := { s.link with events := [], overrun := false, pulse := none }

/-- The flags, the counts and the port. -/
def State.sheet (s : State) : Vector Bool 31 × Vector Nat 31 × ControlLink := (s.fm.pending, s.fm.counts, s.port)

section sheet
variable (s t : State)

theorem State.link_of_port (h : t.port = s.port) : t.link = { s.link with
    events := t.link.events, overrun := t.link.overrun, pulse := t.link.pulse } :=
  congrArg (fun l : ControlLink => { l with
    events := t.link.events, overrun := t.link.overrun, pulse := t.link.pulse }) h

theorem State.tally_congr (h : t.sheet = s.sheet) : t.tally = s.tally := by
  simp only [State.sheet, Prod.mk.injEq] at h
  obtain ⟨hp, hc, -⟩ := h
  funext k
  rw [State.tally, State.isPending, hp, hc, State.tally, State.isPending]

theorem State.sheet_of_fm (h : t.fm = s.fm) (hport : t.port = s.port) : t.sheet = s.sheet := by
  rw [State.sheet, h, hport, State.sheet]

theorem State.port_enter (w : WinderState) (y : Cause) (n : Nat) : (s.enter w y n).port = s.port := rfl

theorem State.port_interrupt : s.interrupt.port = s.port := by
  unfold State.interrupt
  split <;> rfl

theorem State.port_complete : s.complete.port = s.port := by
  unfold State.complete
  split <;> rfl

theorem State.port_insertSlow (i cap : Nat) (x : Int) : (s.insertSlow i cap x).1.port = s.port := by
  unfold State.insertSlow
  dsimp only
  repeat' split
  all_goals rfl

theorem State.port_fireBound (i : Nat) (w : WatchEntry) : (s.fireBound i w).port = s.port := by
  unfold State.fireBound
  repeat' split
  all_goals rfl

theorem State.port_takeReference (prev : Nat) (p : Option (List PlanPoint)) :
    (s.takeReference prev p).port = s.port := by
  unfold State.takeReference
  dsimp only
  repeat' split
  all_goals rfl

theorem State.sheet_enter (w : WinderState) (y : Cause) (n : Nat) : (s.enter w y n).sheet = s.sheet := by
  obtain ⟨hp, hc, -, -⟩ := s.enter_fm_frame w y n
  rw [State.sheet, hp, hc, s.port_enter, State.sheet]

theorem State.sheet_setStopOrder (b : Bool) : (s.setStopOrder b).sheet = s.sheet := rfl

theorem State.sheet_modTe (f : Executive → Executive) : (s.modTe f).sheet = s.sheet := rfl

theorem State.sheet_interrupt : s.interrupt.sheet = s.sheet := State.sheet_of_fm _ _ s.interrupt_fm s.port_interrupt

theorem State.sheet_toIdle (y : Cause) : (s.toIdle y).sheet = s.sheet := by
  rw [State.toIdle, State.sheet_enter, State.sheet_interrupt]

theorem State.sheet_beginStopping (r : StopReason) (i : Option Nat) (y : Cause) :
    (s.beginStopping r i y).sheet = s.sheet := State.sheet_enter ..

theorem State.sheet_halt : s.halt.sheet = s.sheet := by
  rw [State.halt, State.sheet_setStopOrder, State.sheet_interrupt]
  rfl

theorem State.sheet_trip (r : ServiceReturn) (k : FaultKind) : (s.trip r k).sheet = s.sheet := by
  rw [State.trip, State.sheet_enter, State.sheet_modTe, State.sheet_halt]

theorem State.sheet_lock (k : FaultKind) : (s.lock k).sheet = s.sheet := by
  rw [State.lock, State.sheet_enter, State.sheet_halt]

theorem State.sheet_controlledStop (k : FaultKind) : (s.controlledStop k).sheet = s.sheet := by
  unfold State.controlledStop
  split
  case h_3 => exact of_ite (P := fun t : State => t.sheet = s.sheet) (State.sheet_beginStopping ..) rfl
  case h_4 => rfl
  all_goals first | rfl | exact State.sheet_toIdle ..

theorem State.sheet_order (k : FaultKind) (v : Severity) : (s.order k v).sheet = s.sheet := by
  unfold State.order State.emergency State.lockout
  split
  · rfl
  · exact State.sheet_controlledStop ..
  · split
    all_goals first | rfl | exact State.sheet_trip ..
  · split
    all_goals first | rfl | exact State.sheet_lock ..

theorem State.sheet_setInForce (v : Severity) : (s.setInForce v).sheet = s.sheet := by
  unfold State.setInForce
  split <;> rfl

/-- A response sets no flag and counts nothing. -/
theorem State.sheet_respond (k : FaultKind) (v : Severity) : (s.respond k v).sheet = s.sheet := by
  unfold State.respond
  split
  · rfl
  · rw [State.sheet_order, State.sheet_setInForce]

theorem State.sheet_log (r : Report) (v : Severity) : (s.log r v).sheet = s.sheet := by
  unfold State.log State.modFm State.sheet State.port
  dsimp only
  split
  · rfl
  · split <;> rfl

theorem State.sheet_taken (r : Report) : (s.taken r).sheet =
    (s.fm.pending.setIfInBounds r.kind.idx true, (s.countReport r.kind).fm.counts, s.port) :=
  State.sheet_log ((s.countReport r.kind).setPending r.kind true) r (s.severity r.kind)

variable (r : Report)


theorem getElem?_setIfInBounds_other {α : Type} (v : Vector α 31) {j k : FaultKind} (h : k ≠ j) (x : α) :
    (v.setIfInBounds j.idx x).toList[k.idx]? = v.toList[k.idx]? := by
  rw [Vector.getElem?_toList, Vector.getElem?_toList,
    Vector.getElem?_setIfInBounds_ne fun he => h (FaultKind.idx_injective he.symm)]

theorem State.tally_countReport_self (k : FaultKind) :
    (s.countReport k).tally k = (s.isPending k, min 255 ((s.tally k).2 + 1)) :=
  congrArg (fun x : Option Nat => (s.isPending k, x.getD 0)) (getElem?_setIfInBounds_idx ..)

theorem State.tally_countReport_other {j k : FaultKind} (h : k ≠ j) : (s.countReport j).tally k = s.tally k :=
  congrArg (fun x : Option Nat => (s.isPending k, x.getD 0)) (getElem?_setIfInBounds_other _ h _)

theorem State.tally_report_taken (h : s.isPending r.kind = false) : (s.report r).tally = (s.taken r).tally := by
  rw [State.report_eq, if_neg (ne_true_of_eq_false h)]
  exact State.tally_congr _ _ (State.sheet_respond ..)

/-- A report sets its flag and counts (R174, R176). -/
theorem State.tally_report_self : (s.report r).tally r.kind = (true, min 255 ((s.tally r.kind).2 + 1)) := by
  cases h : s.isPending r.kind with
  | true => rw [State.report_eq, if_pos h, State.tally_countReport_self, h]
  | false =>
    have hc : (s.taken r).fm.counts = _ := congrArg (fun x => x.2.1) (s.sheet_taken r)
    have hcount := congrArg Prod.snd (s.tally_countReport_self r.kind)
    rw [State.tally_report_taken s r h, State.tally, s.isPending_taken r, hc]
    exact congrArg (Prod.mk true) hcount

/-- A report leaves the flag and the count of every other kind. -/
theorem State.tally_report_other {k : FaultKind} (h : k ≠ r.kind) : (s.report r).tally k = s.tally k := by
  cases hp : s.isPending r.kind with
  | true => rw [State.report_eq, if_pos hp, State.tally_countReport_other s h]
  | false =>
    have hf : (s.taken r).fm.pending = _ := congrArg (fun x => x.1) (s.sheet_taken r)
    have hc : (s.taken r).fm.counts = _ := congrArg (fun x => x.2.1) (s.sheet_taken r)
    have hcount := congrArg Prod.snd (State.tally_countReport_other s h)
    rw [State.tally_report_taken s r hp, State.tally, State.isPending, hf, hc, getElem?_setIfInBounds_other _ h]
    exact congrArg (Prod.mk _) hcount

/-- A pending flag stands through a report. -/
theorem State.isPending_report {k : FaultKind} (h : s.isPending k = true) : (s.report r).isPending k = true := by
  by_cases hk : k = r.kind
  · rw [hk]
    exact congrArg Prod.fst (s.tally_report_self r)
  · exact (congrArg Prod.fst (s.tally_report_other r hk)).trans h

theorem State.isPending_of_sheet {k : FaultKind} (h : t.sheet = s.sheet) (hk : s.isPending k = true) :
    t.isPending k = true := (congrArg (fun f => (f k).1) (State.tally_congr s t h)).trans hk

/-- A pending flag stands through the position path. -/
theorem State.isPending_reporting (k : FaultKind) : Reporting fun s => s.isPending k = true where
  modEfe _ h := h
  modPm _ h := h
  modEs _ h := h
  modCc _ h _ := h
  raise _ _ _ _ _ _ h := h
  report r h := State.isPending_report _ r h
end sheet

/-! #### The blocks at a Sample record -/

section blocks
variable (s : State)

theorem State.sheet_forcedStop (i : Nat) : (s.forcedStop i).sheet = s.sheet := by
  unfold State.forcedStop
  split
  · exact State.sheet_beginStopping ..
  · rfl

theorem State.sheet_fire (i : Nat) (w : WatchEntry) (k : Nat) : (s.fire i w k).sheet = s.sheet :=
  State.sheet_of_fm _ _ (State.fire_fm ..) rfl

theorem State.sheet_insertSlow (i cap : Nat) (x : Int) : (s.insertSlow i cap x).1.sheet = s.sheet :=
  State.sheet_of_fm _ _ (State.insertSlow_fm ..) (State.port_insertSlow ..)

theorem State.sheet_fireForced (i : Nat) (w : WatchEntry) (f : WinderState) :
    (s.fireForced i w f).sheet = s.sheet := by
  have hstop : ((s.forcedStop i).fire i w 1).sheet = s.sheet := by rw [State.sheet_fire, State.sheet_forcedStop]
  unfold State.fireForced
  split
  · exact State.sheet_fire ..
  next cap _ =>
    refine of_ite (P := fun t : State => t.sheet = s.sheet) ?_ rfl
    cases hp : (s.insertSlow i cap s.guideDepth).2 with
    | true => rw [State.fireSlow_of_placed hp, State.sheet_fire, State.sheet_insertSlow]
    | false => rw [State.fireSlow_of_not_placed hp, State.sheet_fire, State.sheet_forcedStop]
  · exact of_ite (P := fun t : State => t.sheet = s.sheet) hstop rfl

theorem State.sheet_testWatch (f : WinderState) (i : Nat) : (State.testWatch f s i).sheet = s.sheet := by
  unfold State.testWatch
  split
  · rfl
  · split
    · exact of_ite (P := fun t : State => t.sheet = s.sheet) (State.sheet_fireForced ..) rfl
    · exact State.sheet_of_fm _ _ (State.fireBound_fm ..) (State.port_fireBound ..)

theorem State.sheet_takeWatch : s.takeWatch.sheet = s.sheet :=
  of_ite (P := fun t : State => t.sheet = s.sheet)
    (of_foldl (P := fun t : State => t.sheet = s.sheet) _ rfl fun t i h => (t.sheet_testWatch _ i).trans h) rfl

theorem State.sheet_afterLanding {t : State} (h : t.sheet = s.sheet) : (s.afterLanding t).sheet = s.sheet :=
  of_ite (P := fun u : State => u.sheet = s.sheet) h (by rw [State.sheet_enter, State.sheet_interrupt, h])

theorem State.sheet_landed : s.landed.sheet = s.sheet := by
  unfold State.landed
  split <;> rfl

theorem State.sheet_landingEnd : s.landingEnd.sheet = s.sheet := by
  cases hp : s.rg.stop with
  | none =>
    unfold State.landingEnd
    dsimp only
    rw [hp]
    exact of_ite (P := fun u : State => u.sheet = s.sheet) rfl rfl
  | some p =>
    have hraise (t : State) (k : EventKind) (n : Nat) (v1 v2 v3 v4 : Word32) :
        (t.raise k n v1 v2 v3 v4).sheet = t.sheet := rfl
    have hreached (t : State) (x : Int) : (t.watchReached x).sheet = t.sheet := rfl
    have hdwell (k : DwellKind) : (s.landed.enterDwell k).sheet = s.sheet := by
      rw [State.sheet_of_fm _ _ (State.enterDwell_fm ..) rfl, State.sheet_landed]
    rw [State.landingEnd_eq s hp]
    split
    · rw [State.sheet_enter, State.sheet_of_fm _ _ (State.complete_fm ..) (State.port_complete ..),
        hraise, State.sheet_landed]
    · exact s.sheet_afterLanding (hdwell _)
    · exact s.sheet_afterLanding (hdwell _)
    all_goals
      refine s.sheet_afterLanding ?_
      rw [hreached, hraise, State.sheet_enter, State.sheet_landed]

theorem State.sheet_stopEnd : s.stopEnd.sheet = s.sheet := by
  unfold State.stopEnd
  dsimp only
  split
  · exact (State.sheet_of_fm _ _ (State.raiseHeld_fm ..) rfl).trans (State.sheet_enter ..)
  all_goals exact State.sheet_toIdle ..

theorem State.sheet_brakesConfirmed : s.brakesConfirmed.sheet = s.sheet := by
  unfold State.brakesConfirmed
  split
  · exact s.sheet_landingEnd
  · exact s.sheet_stopEnd
  all_goals rfl

theorem State.sheet_restTest : s.restTest.sheet = s.sheet := by
  refine of_ite (P := fun u : State => u.sheet = s.sheet) (of_ite (P := fun u : State => u.sheet = s.sheet) ?_ rfl) rfl
  rw [State.sheet_brakesConfirmed, State.sheet_modTe]

/-- A pending flag stands through every block's part of a Sample record. -/
theorem State.isPending_takeBlock {k : FaultKind} (h : s.isPending k = true) (prev : Nat) (rest : RestStep)
    (found : ReferenceGenerator) (b : SampleBlock) : (State.takeBlock prev rest found s b).isPending k = true := by
  cases b with
  | reference => exact State.isPending_of_sheet s _ (State.sheet_of_fm _ _ (State.takeReference_fm ..)
                   (State.port_takeReference ..)) h
  | envelope => exact (State.isPending_reporting k).takeEnvelope h _ _
  | watch => exact State.isPending_of_sheet s _ s.sheet_takeWatch h
  | clutch => exact (State.isPending_reporting k).takeClutch h
  | executive =>
    refine of_ite (P := fun u : State => u.isPending k = true) h ?_
    have hrest := State.isPending_of_sheet s _ s.sheet_restTest h
    exact of_ite (P := fun u : State => u.isPending k = true) hrest
      (of_ite (P := fun u : State => u.isPending k = true) hrest h)

/-- A report leaves the port but for its events, the overrun mark and the pulse. -/
theorem State.port_report (r : Report) : (s.report r).port = s.port := by
  have htaken : (s.taken r).port = s.port := congrArg (fun x => x.2.2) (s.sheet_taken r)
  rw [State.report_eq]
  split
  · rfl
  · exact (congrArg (fun x => x.2.2) (State.sheet_respond (s.taken r) r.kind (s.severity r.kind))).trans htaken

theorem State.port_reporting (l : ControlLink) : Reporting fun s => s.port = l where
  modEfe _ h := h
  modPm _ h := h
  modEs _ h := h
  modCc _ h _ := h
  raise _ _ _ _ _ _ h := h
  report r h := (State.port_report _ r).trans h

theorem State.port_of_sheet {t : State} (h : t.sheet = s.sheet) : t.port = s.port := congrArg (fun x => x.2.2) h

theorem State.port_takeBlock (prev : Nat) (rest : RestStep) (found : ReferenceGenerator) (b : SampleBlock) :
    (State.takeBlock prev rest found s b).port = s.port := by
  cases b with
  | reference => exact State.port_takeReference ..
  | envelope => exact (State.port_reporting s.port).takeEnvelope rfl _ _
  | watch => exact s.port_of_sheet s.sheet_takeWatch
  | clutch => exact (State.port_reporting s.port).takeClutch rfl
  | executive =>
    have hrest := s.port_of_sheet s.sheet_restTest
    exact of_ite (P := fun u : State => u.port = s.port) rfl (of_ite (P := fun u : State => u.port = s.port) hrest
      (of_ite (P := fun u : State => u.port = s.port) hrest rfl))
end blocks

end Sys2Proof.Machine
end

section
/-! A Sample record as one drum and its conveyance see it (R24, R26 to R28, R35 to R40). -/

namespace Sys2Proof.Machine

open Sys2Proof

/-! #### What the cross-check leaves -/

section crossCheck
variable (s : State) (d : Conv)

theorem State.efe_marked_report (r : Report) (g : DrumFront) :
    ((s.report r).marked d g).efe = { s.efe with drums := s.efe.drums.set d g } := by
  rw [← State.report_marked, State.report_efe]
  rfl

/-- The cross-check changes one drum's front and, with a valid primary, its conveyance's certainty. -/
theorem State.crossCheck_frame : ∃ x g, (s.crossCheck d).pm = { s.pm with
      convs := s.pm.convs.set d { s.conv d with certainty := x } } ∧
    (s.crossCheck d).efe = { s.efe with drums := s.efe.drums.set d g } ∧ g.primary = (s.front d).primary ∧
    ((s.front d).primary.valid = false → x = (s.conv d).certainty) := by
  have hpm : s.pm = { s.pm with convs := s.pm.convs.set d { s.conv d with certainty := (s.conv d).certainty } } :=
    congrArg (fun x => { s.pm with convs := x }) (Both.set_get s.pm.convs d).symm
  have hefe : s.efe = { s.efe with drums := s.efe.drums.set d (s.front d) } :=
    congrArg (fun x => { s.efe with drums := x }) (Both.set_get s.efe.drums d).symm
  cases hc : (s.front d).check.valid with
  | false =>
    rw [State.crossCheck_of_check_invalid hc]
    split_ifs
    · exact ⟨_, _, (s.report_pm _).trans hpm, s.efe_marked_report d _ _, rfl, fun _ => rfl⟩
    · exact ⟨_, _, hpm, hefe, rfl, fun _ => rfl⟩
  | true =>
    cases hp : (s.front d).primary.valid with
    | false =>
      rw [State.crossCheck_of_primary_invalid hc hp]
      exact ⟨_, _, hpm, rfl, rfl, fun _ => rfl⟩
    | true =>
      cases ho : (s.front d).offset with
      | none =>
        rw [State.crossCheck_of_pending hc hp ho]
        exact ⟨_, _, hpm, rfl, rfl, fun _ => rfl⟩
      | some o =>
        rw [State.crossCheck_of_offset hc hp ho]
        split_ifs
        · exact ⟨_, _, hpm, rfl, rfl, fun _ => rfl⟩
        · exact ⟨_, _, hpm, rfl, rfl, fun _ => rfl⟩
        · refine ⟨.uncertain, _, (State.setCertainty_pm ..).trans ?_,
            (State.setCertainty_efe ..).trans (s.efe_marked_report d _ _), rfl,
            fun h => absurd h (by simp)⟩
          exact congrArg (fun p : PositionModel => { p with
            convs := p.convs.set d { p.convs.get d with certainty := .uncertain } }) (s.report_pm _)
end crossCheck

/-! #### What one conveyance's position leaves of the other's -/

section besides
variable {c : Conv} {s : State}

/-- The items of the other drum and conveyance. -/
def State.besides (c : Conv) (s : State) : ConvModel × DrumModel := (s.conv c.other, s.drum c.other)

variable (c s)

theorem State.besides_modConv (f : ConvModel → ConvModel) : (s.modConv c f).besides c = s.besides c :=
  congrArg (fun x => (x, s.drum c.other)) (s.conv_other_modConv c f)

theorem State.besides_modDrum (f : DrumModel → DrumModel) : (s.modDrum c f).besides c = s.besides c :=
  congrArg (fun x => (s.conv c.other, x)) (s.drum_other_modDrum c f)

theorem State.besides_setCertainty (n : Certainty) (y : CertaintyCause) :
    (s.setCertainty c n y).besides c = s.besides c := by
  rw [State.setCertainty]
  split
  · rfl
  · exact s.besides_modConv c fun m => { m with certainty := n }

theorem State.besides_report (r : Report) : (s.report r).besides c = s.besides c := by
  rw [State.besides, s.conv_report, s.drum_report, State.besides]

theorem State.besides_degrade : (s.degrade c).besides c = s.besides c := by
  rw [State.degrade]
  split
  · exact s.besides_setCertainty c _ _
  · rfl

theorem State.besides_redepth : (s.redepth c).besides c = s.besides c := s.besides_modConv c _

theorem State.besides_loseRun : (s.loseRun c).besides c = s.besides c := by
  rw [State.loseRun]
  split
  · exact s.besides_modDrum c _
  · rw [State.besides_report, State.besides_setCertainty, State.besides_modDrum]

theorem State.besides_measure (t : Nat) : (s.measure c t).besides c = s.besides c := by
  obtain ⟨-, -, -, -, -, hconv, hdrum, -⟩ := s.measure_items c t
  obtain ⟨x, hx⟩ := s.compared_pm c t
  rw [State.besides, hconv, hdrum]
  exact congrArg₂ Prod.mk ((congrArg (fun p => p.convs.get c.other) hx).trans (Both.get_set_other ..))
    (congrArg (fun p => p.drums.get c.other) hx)

theorem State.besides_position (t : Nat) (b : Bool) : (s.position c t b).besides c = s.besides c := by
  rw [State.position]
  split_ifs
  · exact s.besides_measure c t
  · rw [State.holdSample, State.besides_redepth, State.besides_modDrum, State.besides_degrade, State.besides_modConv]
  · exact s.besides_modConv c _
  · rw [State.runSample]
    split_ifs <;> simp only [State.besides_loseRun, State.besides_redepth, State.besides_degrade,
      State.besides_modConv, State.besides_modDrum, State.besides_report]
end besides

/-! #### The marks leave the conveyances and the drums -/

section marks
variable (s : State)

theorem State.items_setPassage (i : Nat) (p : Passage) :
    (s.setPassage i p).pm.convs = s.pm.convs ∧ (s.setPassage i p).pm.drums = s.pm.drums := ⟨rfl, rfl⟩

theorem State.items_passMark (old : Both Int) (i : Nat) :
    (s.passMark old i).pm.convs = s.pm.convs ∧ (s.passMark old i).pm.drums = s.pm.drums := by
  unfold State.passMark
  repeat' split
  · exact ⟨rfl, rfl⟩
  · have hpm := s.report_pm (bare .markMissed i)
    have hconvs := congrArg PositionModel.convs hpm
    have hdrums := congrArg PositionModel.drums hpm
    exact ⟨hconvs, hdrums⟩
  all_goals exact ⟨rfl, rfl⟩

theorem State.items_passMarks (old : Both Int) :
    (s.passMarks old).pm.convs = s.pm.convs ∧ (s.passMarks old).pm.drums = s.pm.drums :=
  State.passMarks.eq_1 old s ▸ of_foldl (P := fun t : State => t.pm.convs = s.pm.convs ∧ t.pm.drums = s.pm.drums)
    (List.range 24) ⟨rfl, rfl⟩ fun t i h =>
      ⟨(t.items_passMark old i).1.trans h.1, (t.items_passMark old i).2.trans h.2⟩
end marks

/-! #### The record -/

section record
variable (s : State) (h : Heads)

/-- The state as both drums have been cross-checked. -/
def State.crossed : State := ((s.takeHeads h).crossCheck .a).crossCheck .b

theorem State.takeRecord_eq : s.takeRecord h =
    ((((s.crossed h).position .a s.efe.sampleTime s.strict).position .b s.efe.sampleTime s.strict).passMarks
      ⟨(s.conv .a).speed, (s.conv .b).speed⟩) := rfl

theorem State.crossed_pm : ∃ x y, (s.crossed h).pm = { s.pm with
      convs := ⟨{ s.conv .a with certainty := x }, { s.conv .b with certainty := y }⟩ } ∧
    (((s.takeHeads h).front .a).primary.valid = false → x = (s.conv .a).certainty) ∧
    (((s.takeHeads h).front .b).primary.valid = false → y = (s.conv .b).certainty) := by
  obtain ⟨x, g, hpm, hefe, -, hx⟩ := (s.takeHeads h).crossCheck_frame .a
  obtain ⟨y, k, hpm', -, -, hy⟩ := ((s.takeHeads h).crossCheck .a).crossCheck_frame .b
  have hb : ((s.takeHeads h).crossCheck .a).conv .b = s.conv .b := congrArg (fun p => p.convs.get .b) hpm
  have hfront : ((s.takeHeads h).crossCheck .a).front .b = (s.takeHeads h).front .b :=
    congrArg (fun e => e.drums.get .b) hefe
  refine ⟨x, y, ?_, hx, fun hv => ?_⟩
  · rw [State.crossed, hpm', hb, hpm]
    rfl
  · rw [hy (hfront ▸ hv), hb]

theorem State.crossed_efe (c : Conv) : ((s.crossed h).front c).primary = ((s.takeHeads h).front c).primary ∧
    (s.crossed h).efe.sampleTime = s.sampleClock ∧ (s.crossed h).efe.period = s.limits.samplePeriod := by
  obtain ⟨x, g, -, hefe, hg, -⟩ := (s.takeHeads h).crossCheck_frame .a
  obtain ⟨y, k, -, hefe', hk, -⟩ := ((s.takeHeads h).crossCheck .a).crossCheck_frame .b
  have hfront : ((s.takeHeads h).crossCheck .a).front .b = (s.takeHeads h).front .b :=
    congrArg (fun e => e.drums.get .b) hefe
  refine ⟨?_, (congrArg EncoderFrontEnd.sampleTime hefe').trans (congrArg EncoderFrontEnd.sampleTime hefe),
    (congrArg EncoderFrontEnd.period hefe').trans (congrArg EncoderFrontEnd.period hefe)⟩
  cases c with
  | a =>
    have hb := congrArg (fun e => (e.drums.get .a).primary) hefe'
    have ha := congrArg (fun e => (e.drums.get .a).primary) hefe
    exact hb.trans (ha.trans hg)
  | b =>
    have hb := congrArg (fun e => (e.drums.get .b).primary) hefe'
    exact hb.trans (hk.trans (congrArg DrumFront.primary hfront))

/-- The state in which a drum's position is taken at a Sample record. -/
def State.foundFor (c : Conv) : State := match c with
  | .a => s.crossed h
  | .b => (s.crossed h).position .a s.efe.sampleTime s.strict

/-- A drum's position as a Sample record takes it. -/
def State.placedFor (c : Conv) : State := (s.foundFor h c).position c s.efe.sampleTime s.strict

theorem State.foundFor_items (c : Conv) : ∃ x, (s.foundFor h c).conv c = { s.conv c with certainty := x } ∧
    (((s.takeHeads h).front c).primary.valid = false → x = (s.conv c).certainty) ∧
    (s.foundFor h c).drum c = s.drum c := by
  obtain ⟨x, y, hpm, hx, hy⟩ := s.crossed_pm h
  cases c with
  | a => exact ⟨x, congrArg (fun p => p.convs.get .a) hpm, hx, congrArg (fun p => p.drums.get .a) hpm⟩
  | b =>
    obtain ⟨hconv, hdrum⟩ := Prod.mk.inj ((s.crossed h).besides_position .a s.efe.sampleTime s.strict)
    exact ⟨y, hconv.trans (congrArg (fun p => p.convs.get .b) hpm), hy,
      hdrum.trans (congrArg (fun p => p.drums.get .b) hpm)⟩

theorem State.foundFor_frame (c : Conv) : (s.foundFor h c).ds = s.ds ∧ (s.foundFor h c).lines = s.lines ∧
    (s.foundFor h c).cc = s.cc ∧ (s.foundFor h c).efe = (s.crossed h).efe := by
  cases c <;> simp [State.foundFor, State.crossed]

/-- What the record leaves of a drum, a conveyance and a front is what its position leaves. -/
theorem State.takeRecord_items (c : Conv) : (s.takeRecord h).conv c = (s.placedFor h c).conv c ∧
    (s.takeRecord h).drum c = (s.placedFor h c).drum c := by
  rw [State.takeRecord_eq]
  obtain ⟨hconvs, hdrums⟩ := State.items_passMarks (((s.crossed h).position .a s.efe.sampleTime s.strict).position .b
    s.efe.sampleTime s.strict) ⟨(s.conv .a).speed, (s.conv .b).speed⟩
  rw [State.conv, hconvs, State.drum, hdrums]
  cases c with
  | a => exact Prod.mk.inj (((s.crossed h).position .a s.efe.sampleTime s.strict).besides_position .b
           s.efe.sampleTime s.strict)
  | b => exact ⟨rfl, rfl⟩

theorem State.takeRecord_efe : (s.takeRecord h).efe = (s.crossed h).efe := by simp [State.takeRecord_eq]

/-- A predicate that the position path keeps holds after the record where it holds after a drum's position. -/
theorem State.takeRecord_of_placed {P : State → Prop} (hP : Reporting P) {c : Conv} (hat : P (s.placedFor h c)) :
    P (s.takeRecord h) := by
  rw [State.takeRecord_eq]
  cases c with
  | a => exact hP.passMarks (hP.position hat _ _ _) _
  | b => exact hP.passMarks hat _
end record

/-! #### The blocks after the record -/

section blocks
variable (s : State) (e : Elapse) (heads : Heads) (order : List SampleBlock)

/-- The state after a Sample record and its blocks. -/
def State.sampled : State :=
  (blockOrder order).foldl (State.takeBlock (s.elapse e).efe.sampleTime ((s.elapse e).takeRecord heads).te.rest
    ((s.elapse e).takeRecord heads).rg) ((s.elapse e).takeRecord heads)

theorem exec_sample : exec (.sample e heads order) s = .next (s.sampled e heads order) := rfl

theorem State.sampled_of_record {P : State → Prop} (h : P ((s.elapse e).takeRecord heads))
    (hblock : ∀ t prev rest found b, P t → P (State.takeBlock prev rest found t b)) : P (s.sampled e heads order) :=
  of_foldl _ h fun _ _ ht => hblock _ _ _ _ _ ht

theorem State.sampled_pm : (s.sampled e heads order).pm = ((s.elapse e).takeRecord heads).pm :=
  s.sampled_of_record e heads order (P := fun t => t.pm = ((s.elapse e).takeRecord heads).pm) rfl
    fun _ _ _ _ _ h => (State.takeBlock_pm ..).trans h

theorem State.sampled_efe : (s.sampled e heads order).efe = ((s.elapse e).takeRecord heads).efe :=
  s.sampled_of_record e heads order (P := fun t => t.efe = ((s.elapse e).takeRecord heads).efe) rfl
    fun _ _ _ _ _ h => (State.takeBlock_efe ..).trans h

/-- A drum and its conveyance after a Sample record are as its position leaves them. -/
theorem State.sampled_items (c : Conv) : (s.sampled e heads order).conv c = ((s.elapse e).placedFor heads c).conv c ∧
    (s.sampled e heads order).drum c = ((s.elapse e).placedFor heads c).drum c := by
  rw [State.conv, State.drum, State.sampled_pm]
  exact (s.elapse e).takeRecord_items heads c

theorem State.sampled_primary (c : Conv) :
    ((s.sampled e heads order).front c).primary = (((s.elapse e).takeHeads heads).front c).primary := by
  rw [State.front, State.sampled_efe, State.takeRecord_efe]
  exact ((s.elapse e).crossed_efe heads c).1

theorem State.sampled_pending {c : Conv} {k : FaultKind} (h : ((s.elapse e).placedFor heads c).isPending k = true) :
    (s.sampled e heads order).isPending k = true := by
  have hblock (t : State) (prev : Nat) (rest : RestStep) (found : ReferenceGenerator) (b : SampleBlock)
      (ht : t.isPending k = true) : (State.takeBlock prev rest found t b).isPending k = true :=
    State.isPending_takeBlock t ht prev rest found b
  have hrecord : ((s.elapse e).takeRecord heads).isPending k = true :=
    State.takeRecord_of_placed (P := fun t => t.isPending k = true) (s.elapse e) heads (State.isPending_reporting k) h
  exact s.sampled_of_record e heads order (P := fun t => t.isPending k = true) hrecord hblock
end blocks

end Sys2Proof.Machine
end

section
/-! A Sample record with an invalid primary (R35 to R39): O24. -/

namespace Sys2Proof.Machine

open Sys2Proof

/-! #### The depth of a length -/

/-- The depth of R31 from the records of a conveyance and its items. -/
def depthWith (cv : Conveyance) (ly : List Layer) (m : ConvModel) (length : Int) : Int :=
  m.datumDepth + (length - paidOut ly m.datumCount).tdiv 1000000 +
    (stretchMm cv m.loadClass (m.datumDepth + (length - paidOut ly m.datumCount).tdiv 1000000 + cv.ropeOffset) -
      m.sDatum) + m.correction

section depth
variable (s : State) (c : Conv)

theorem State.depthNow_eq : s.depthNow c = depthWith (s.convRec c) (s.layers c) (s.conv c) (s.drum c).paidOut := rfl

/-- The depth is taken anew from the length, and the one before it kept (R31). -/
theorem State.conv_redepth : (s.redepth c).conv c = { s.conv c with
    prevDepth := (s.conv c).depth
    depth := depthWith (s.convRec c) (s.layers c) (s.conv c) (s.drum c).paidOut } := s.conv_modConv c _

/-- A certainty that is lessened: CERTAIN becomes DEGRADED (R36, R37). -/
def lessened (x : Certainty) : Certainty := if x = .certain then .degraded else x

theorem State.conv_setCertainty (n : Certainty) (y : CertaintyCause) :
    (s.setCertainty c n y).conv c = { s.conv c with certainty := n } :=
  (congrArg (fun p => p.convs.get c) (s.setCertainty_pm c n y)).trans (Both.get_set ..)

theorem State.drum_setCertainty (n : Certainty) (y : CertaintyCause) (d : Conv) :
    (s.setCertainty c n y).drum d = s.drum d := congrArg (fun p => p.drums.get d) (s.setCertainty_pm c n y)

theorem State.conv_degrade : (s.degrade c).conv c = { s.conv c with certainty := lessened (s.conv c).certainty } := by
  rw [State.degrade, lessened]
  split_ifs
  · exact s.conv_setCertainty c _ _
  · rfl

theorem State.drum_degrade (d : Conv) : (s.degrade c).drum d = s.drum d := by
  rw [State.degrade]
  split_ifs
  · exact s.drum_setCertainty c _ _ d
  · rfl

theorem State.layers_of_ds {t : State} (h : t.ds = s.ds) : t.layers c = s.layers c ∧ t.convRec c = s.convRec c ∧
    t.limits = s.limits := by
  rw [State.layers, State.convRec, State.limits, h]
  exact ⟨rfl, rfl, rfl⟩

/-! #### The held record -/

theorem State.holdSample_items : (s.holdSample c).drum c = { s.drum c with heldLast := true } ∧
    (s.holdSample c).conv c = { s.conv c with
      speed := 0, certainty := lessened (s.conv c).certainty, prevDepth := (s.conv c).depth
      depth := depthWith (s.convRec c) (s.layers c) (s.conv c) (s.drum c).paidOut } := by
  have hds : (((s.modConv c fun m => { m with speed := 0 }).degrade c).modDrum c
      fun d => { d with heldLast := true }).ds = s.ds := State.degrade_ds ..
  obtain ⟨hlayers, hrec, -⟩ := s.layers_of_ds c hds
  refine ⟨?_, ?_⟩
  · rw [State.holdSample, State.redepth_eq, State.drum_modConv, State.drum_modDrum, State.drum_degrade,
      State.drum_modConv]
  · rw [State.holdSample, State.conv_redepth, hlayers, hrec, State.conv_modDrum, State.conv_degrade, State.conv_modConv,
      State.drum_modDrum, State.drum_degrade, State.drum_modConv]
    rfl

/-! #### A sample of a run -/

variable (prev : Nat) (strict : Bool)

/-- The kind that the first sample of a run reports (R38). -/
def invalidKind (strict : Bool) : FaultKind := if strict then .sampleInvalidStrict else .sampleInvalid

/-- The state as a run begins, with its report, or goes on (R37, R38). -/
def State.begun : State :=
  if (s.drum c).run = .none ∨ (s.drum c).heldLast = true then
    (s.modDrum c fun d => { d with run := .run, markInRun := false, heldLast := false }).report
      (bare (invalidKind strict) c.code)
  else s

/-- The state as a sample of a run is extrapolated and counted (R37). -/
def State.extrapolated : State :=
  (((((s.begun c strict).modDrum c fun d => { d with
    paidOut := d.paidOut + (s.conv c).speed * signedElapsed s.efe.sampleTime prev }).modConv c
      fun m => { m with degraded := m.degraded + 1 }).degrade c).redepth c)

theorem State.runSample_eq : s.runSample c prev strict =
    let t := s.extrapolated c prev strict
    if t.limits.nDeg < (t.conv c).degraded then t.loseRun c else t := rfl

theorem State.begun_items : (s.begun c strict).conv c = s.conv c ∧ (s.begun c strict).ds = s.ds ∧
    (s.begun c strict).drum c = if (s.drum c).run = .none ∨ (s.drum c).heldLast = true then
      { s.drum c with run := .run, markInRun := false, heldLast := false } else s.drum c := by
  rw [State.begun]
  by_cases h : (s.drum c).run = .none ∨ (s.drum c).heldLast = true
  · rw [if_pos h, if_pos h, State.conv_report, State.conv_modDrum, State.drum_report, State.drum_modDrum]
    exact ⟨rfl, State.report_ds .., rfl⟩
  · rw [if_neg h, if_neg h]
    exact ⟨rfl, rfl, rfl⟩

theorem State.extrapolated_items : (s.extrapolated c prev strict).ds = s.ds ∧
    (s.extrapolated c prev strict).drum c = { (s.begun c strict).drum c with
      paidOut := (s.drum c).paidOut + (s.conv c).speed * signedElapsed s.efe.sampleTime prev } ∧
    (s.extrapolated c prev strict).conv c = { s.conv c with
      degraded := (s.conv c).degraded + 1, certainty := lessened (s.conv c).certainty, prevDepth := (s.conv c).depth
      depth := depthWith (s.convRec c) (s.layers c) (s.conv c)
        ((s.drum c).paidOut + (s.conv c).speed * signedElapsed s.efe.sampleTime prev) } := by
  obtain ⟨hconv, hds, hdrum⟩ := s.begun_items c strict
  have hpaid : ((s.begun c strict).drum c).paidOut = (s.drum c).paidOut := by
    rw [hdrum]
    split_ifs <;> rfl
  have hds' : ((((s.begun c strict).modDrum c fun d => { d with
      paidOut := d.paidOut + (s.conv c).speed * signedElapsed s.efe.sampleTime prev }).modConv c
        fun m => { m with degraded := m.degraded + 1 }).degrade c).ds = s.ds := (State.degrade_ds ..).trans hds
  obtain ⟨hlayers, hrec, -⟩ := s.layers_of_ds c hds'
  refine ⟨hds', ?_, ?_⟩
  · rw [State.extrapolated, State.redepth_eq, State.drum_modConv, State.drum_degrade, State.drum_modConv,
      State.drum_modDrum, hpaid]
  · rw [State.extrapolated, State.conv_redepth, hlayers, hrec, State.conv_degrade,
      State.conv_modConv, State.conv_modDrum,
      State.drum_degrade, State.drum_modConv, State.drum_modDrum, hconv, hpaid]
    rfl

theorem State.loseRun_eq : s.loseRun c =
    if (s.conv c).certainty = .uncertain then s.modDrum c fun d => { d with run := .lost }
    else ((s.modDrum c fun d => { d with run := .lost }).setCertainty c .uncertain .sample).report
      (bare .positionLost c.code) := rfl

theorem State.loseRun_items : (s.loseRun c).drum c = { s.drum c with run := .lost } ∧
    (s.loseRun c).conv c = { s.conv c with certainty := .uncertain } := by
  rw [State.loseRun_eq]
  split_ifs with h
  · refine ⟨State.drum_modDrum .., ?_⟩
    rw [State.conv_modDrum, ← h]
  · refine ⟨?_, ?_⟩
    · rw [State.drum_report, State.drum_setCertainty, State.drum_modDrum]
    · rw [State.conv_report, State.conv_setCertainty, State.conv_modDrum]

/-- The items after a sample of a run (R37, R39). -/
theorem State.runSample_items : (s.runSample c prev strict).drum c = { (s.begun c strict).drum c with
      paidOut := (s.drum c).paidOut + (s.conv c).speed * signedElapsed s.efe.sampleTime prev
      run := if s.limits.nDeg < (s.conv c).degraded + 1 then .lost else ((s.begun c strict).drum c).run } ∧
    (s.runSample c prev strict).conv c = { s.conv c with
      degraded := (s.conv c).degraded + 1
      certainty := if s.limits.nDeg < (s.conv c).degraded + 1 then .uncertain else lessened (s.conv c).certainty
      prevDepth := (s.conv c).depth
      depth := depthWith (s.convRec c) (s.layers c) (s.conv c)
        ((s.drum c).paidOut + (s.conv c).speed * signedElapsed s.efe.sampleTime prev) } := by
  obtain ⟨hds, hdrum, hconv⟩ := s.extrapolated_items c prev strict
  obtain ⟨hlost, huncertain⟩ := (s.extrapolated c prev strict).loseRun_items c
  have hcount : (s.extrapolated c prev strict).limits.nDeg < ((s.extrapolated c prev strict).conv c).degraded ↔
      s.limits.nDeg < (s.conv c).degraded + 1 := by rw [(s.layers_of_ds c hds).2.2, hconv]
  rw [State.runSample_eq]
  dsimp only
  rw [if_congr hcount rfl rfl]
  split_ifs
  · rw [hlost, huncertain, hdrum, hconv]
    exact ⟨rfl, rfl⟩
  · rw [hdrum, hconv]
    exact ⟨rfl, rfl⟩

/-! #### The flags and counts of an invalid record -/

theorem lessened_eq_uncertain (x : Certainty) : lessened x = .uncertain ↔ x = .uncertain := by cases x <;> decide

theorem State.tally_reported (r : Report) (k : FaultKind) : (s.report r).tally k =
    if k = r.kind then (true, min 255 ((s.tally k).2 + 1)) else s.tally k := by
  split_ifs with h
  · exact h ▸ s.tally_report_self r
  · exact s.tally_report_other r h

theorem State.tally_of_fm {t : State} (h : t.fm = s.fm) : t.tally = s.tally := by
  funext k
  rw [State.tally, State.isPending, h, State.tally, State.isPending]

theorem State.tally_begun (k : FaultKind) : (s.begun c strict).tally k =
    if ((s.drum c).run = .none ∨ (s.drum c).heldLast = true) ∧ k = invalidKind strict then
      (true, min 255 ((s.tally k).2 + 1))
    else s.tally k := by
  rw [State.begun]
  by_cases h : (s.drum c).run = .none ∨ (s.drum c).heldLast = true
  · rw [if_pos h, State.tally_reported]
    exact if_congr (by simp only [h, true_and]; rfl) rfl rfl
  · rw [if_neg h, if_neg fun hk => h hk.1]

theorem State.tally_extrapolated : (s.extrapolated c prev strict).tally = (s.begun c strict).tally :=
  State.tally_of_fm _ (State.degrade_fm ..)

theorem State.tally_loseRun (k : FaultKind) : (s.loseRun c).tally k =
    if (s.conv c).certainty ≠ .uncertain ∧ k = .positionLost then (true, min 255 ((s.tally k).2 + 1))
    else s.tally k := by
  rw [State.loseRun_eq]
  by_cases h : (s.conv c).certainty = .uncertain
  · rw [if_pos h, if_neg fun hk => hk.1 h]
    rfl
  · have hfm : ((s.modDrum c fun d => { d with run := .lost }).setCertainty c .uncertain .sample).tally = s.tally :=
      State.tally_of_fm _ (State.setCertainty_fm ..)
    rw [if_neg h, State.tally_reported, hfm]
    exact if_congr (by simp only [ne_eq, h, not_false_eq_true, true_and]; rfl) rfl rfl

/-- The flags and counts after a sample of a run (R37 to R39). -/
theorem State.tally_runSample (k : FaultKind) : (s.runSample c prev strict).tally k =
    if ((s.drum c).run = .none ∨ (s.drum c).heldLast = true) ∧ k = invalidKind strict ∨
        (s.limits.nDeg < (s.conv c).degraded + 1 ∧ (s.conv c).certainty ≠ .uncertain) ∧ k = .positionLost then
      (true, min 255 ((s.tally k).2 + 1))
    else s.tally k := by
  have hkind : FaultKind.positionLost ≠ invalidKind strict := by cases strict <;> decide
  obtain ⟨hds, hdrum, hconv⟩ := s.extrapolated_items c prev strict
  have hcount : (s.extrapolated c prev strict).limits.nDeg < ((s.extrapolated c prev strict).conv c).degraded ↔
      s.limits.nDeg < (s.conv c).degraded + 1 := by rw [(s.layers_of_ds c hds).2.2, hconv]
  have huncertain : ((s.extrapolated c prev strict).conv c).certainty = .uncertain ↔
    (s.conv c).certainty = .uncertain := by
    rw [hconv]
    exact lessened_eq_uncertain _
  rw [State.runSample_eq]
  dsimp only
  rw [apply_ite State.tally, if_congr hcount rfl rfl]
  by_cases hlost : s.limits.nDeg < (s.conv c).degraded + 1
  · rw [if_pos hlost, State.tally_loseRun, State.tally_extrapolated, State.tally_begun,
      if_congr (and_congr_left' (not_congr huncertain)) rfl rfl]
    by_cases hk : k = .positionLost
    · simp only [hk, hkind, and_false, and_true, if_false, false_or, hlost, true_and]
    · simp only [hk, and_false, if_false, or_false]
  · rw [if_neg hlost, State.tally_extrapolated, State.tally_begun]
    simp only [hlost, false_and, or_false]
end depth

/-! #### The position of a drum with an invalid primary -/

section invalid
variable (s : State) (c : Conv) (prev : Nat) (strict : Bool)

/-- The drum's brake is confirmed applied (R35). -/
theorem State.brakeHolds_iff : s.brakeHolds c = true ↔
    (if c = .a ∨ s.cc.state = .engaged then s.lines.brakeApplied else s.lines.bBrakeApplied) = true := Iff.rfl

theorem State.heldCase_iff : s.heldCase c = true ↔ mag (s.conv c).speed ≤ s.limits.standstill ∧
    (if c = .a ∨ s.cc.state = .engaged then s.lines.brakeApplied else s.lines.bBrakeApplied) = true := by
  rw [State.heldCase, Bool.and_eq_true]
  exact and_congr decide_eq_true_iff Iff.rfl

variable {s c}

theorem State.position_of_held (hv : (s.front c).primary.valid = false) (h : s.heldCase c = true) :
    s.position c prev strict = s.holdSample c := by
  rw [State.position, if_neg (ne_true_of_eq_false hv), if_pos h]

theorem State.position_of_lost (hv : (s.front c).primary.valid = false) (h : ¬s.heldCase c = true)
    (hlost : (s.drum c).run = .lost) (hheld : (s.drum c).heldLast = false) :
    s.position c prev strict = s.lostSample c := by
  rw [State.position, if_neg (ne_true_of_eq_false hv), if_neg h, if_pos ⟨hlost, by rw [hheld]; rfl⟩]

theorem State.position_of_run (hv : (s.front c).primary.valid = false) (h : ¬s.heldCase c = true)
    (hrun : (s.drum c).run ≠ .lost ∨ (s.drum c).heldLast = true) :
    s.position c prev strict = s.runSample c prev strict := by
  rw [State.position, if_neg (ne_true_of_eq_false hv), if_neg h, if_neg]
  rintro ⟨hlost, hheld⟩
  rcases hrun with hrun | hrun
  · exact hrun hlost
  · rw [hrun] at hheld
    cases hheld

/-- The flags and counts that an invalid record leaves (R35 to R39). -/
theorem State.tally_position (hv : (s.front c).primary.valid = false) (k : FaultKind) :
    (s.position c prev strict).tally k =
    if (¬s.heldCase c = true ∧ ((s.drum c).run ≠ .lost ∨ (s.drum c).heldLast = true)) ∧
        (((s.drum c).run = .none ∨ (s.drum c).heldLast = true) ∧ k = invalidKind strict ∨
          (s.limits.nDeg < (s.conv c).degraded + 1 ∧ (s.conv c).certainty ≠ .uncertain) ∧ k = .positionLost) then
      (true, min 255 ((s.tally k).2 + 1))
    else s.tally k := by
  by_cases hheld : s.heldCase c = true
  · rw [State.position_of_held prev strict hv hheld, if_neg fun h => h.1.1 hheld]
    exact congrFun (State.tally_of_fm s (State.holdSample_fm ..)) k
  · by_cases hrun : (s.drum c).run ≠ .lost ∨ (s.drum c).heldLast = true
    · rw [State.position_of_run prev strict hv hheld hrun, State.tally_runSample]
      exact if_congr (and_iff_right ⟨hheld, hrun⟩).symm rfl rfl
    · rw [not_or, not_not, Bool.not_eq_true] at hrun
      rw [State.position_of_lost prev strict hv hheld hrun.1 hrun.2, if_neg]
      · exact congrFun (State.tally_of_fm s (State.lostSample_fm ..)) k
      · rintro ⟨⟨-, h | h⟩, -⟩
        · exact h hrun.1
        · exact Bool.false_ne_true (hrun.2.symm.trans h)
end invalid

/-! #### The command -/

theorem HeadItem.take_invalid (h : HeadItem) (w : HeadWord) (f : Int)
    (hw : w = .missing ∨ ∃ raw bad, w = .word raw bad ∧ (bad = true ∨ raw = 0x80000000#32)) :
    (h.take w f).valid = false := by
  rcases hw with rfl | ⟨raw, bad, rfl, rfl | rfl⟩
  · rfl
  · rfl
  · cases bad <;> rfl

theorem State.takeHeads_front (s : State) (heads : Heads) (c : Conv) : ((s.takeHeads heads).front c).primary =
    (s.front c).primary.take (heads.primary.get c) (s.ds.desc.drums.get c).sense.factor := by cases c <;> rfl

theorem State.strict_iff (s : State) : s.strict = true ↔
    ∃ r, s.activeHead = some r ∧ (r.body.mode = .man ∨ s.limits.strictAll = true) := by
  rw [State.strict]
  cases s.activeHead with
  | none => simp
  | some r => simp

section command
variable (s : State) (e : Elapse) (heads : Heads) (c : Conv)
  (hheads : heads.primary.get c = .missing ∨ ∃ raw bad, heads.primary.get c = .word raw bad ∧
    (bad = true ∨ raw = 0x80000000#32))
include hheads

theorem State.primary_of_bad_word : (((s.elapse e).takeHeads heads).front c).primary.valid = false := by
  rw [State.takeHeads_front]
  exact HeadItem.take_invalid _ _ _ hheads

/-- The state in which an invalid record finds a drum, as far as its position reads it. -/
theorem State.foundFor_of_bad_word : (((s.elapse e).foundFor heads c).front c).primary.valid = false ∧
    ((s.elapse e).foundFor heads c).conv c = s.conv c ∧ ((s.elapse e).foundFor heads c).drum c = s.drum c ∧
    ((s.elapse e).foundFor heads c).ds = s.ds ∧ ((s.elapse e).foundFor heads c).lines = (s.elapse e).lines ∧
    ((s.elapse e).foundFor heads c).cc = s.cc ∧
    ((s.elapse e).foundFor heads c).efe.sampleTime = (s.elapse e).sampleClock := by
  have hv := s.primary_of_bad_word e heads c hheads
  obtain ⟨x, hconv, hx, hdrum⟩ := (s.elapse e).foundFor_items heads c
  obtain ⟨hds, hlines, hcc, hefe⟩ := (s.elapse e).foundFor_frame heads c
  obtain ⟨hprimary, htime, -⟩ := (s.elapse e).crossed_efe heads c
  refine ⟨?_, ?_, hdrum, hds, hlines, hcc, (congrArg EncoderFrontEnd.sampleTime hefe).trans htime⟩
  · rw [State.front, hefe]
    exact (congrArg HeadItem.valid hprimary).trans hv
  · rw [hconv, hx hv]
    rfl
end command

/-- The depth of R31 with the correction before the stretch. -/
theorem depthWith_eq (cv : Conveyance) (ly : List Layer) (m : ConvModel) (length : Int) : depthWith cv ly m length =
    m.datumDepth + (length - paidOut ly m.datumCount).tdiv 1000000 + m.correction +
      ((max (m.datumDepth + (length - paidOut ly m.datumCount).tdiv 1000000 + cv.ropeOffset) 0 *
        (cv.stretch.coeff m.loadClass : Int)).tdiv 1000000 - m.sDatum) := by
  unfold depthWith stretchMm
  ring

theorem not_held {x y : Nat} {b : Bool} (h : y < x ∨ b = false) : ¬(x ≤ y ∧ b = true) := by
  rintro ⟨hx, hb⟩
  rcases h with h | h
  · exact Nat.not_le.mpr h hx
  · exact Bool.false_ne_true (h.symm.trans hb)

/-- A Sample record whose primary is invalid (R35 to R39). -/
theorem invalid_record (e : Elapse) (heads : Heads) (order : List SampleBlock) (c : Conv) (s : State)
    (hheads : heads.primary.get c = .missing ∨ ∃ raw bad, heads.primary.get c = .word raw bad ∧
      (bad = true ∨ raw = 0x80000000#32)) :
    let t := s.sampled e heads order
    let m := s.conv c
    let d := s.drum c
    let braked := if c = .a ∨ s.cc.state = .engaged then (s.elapse e).lines.brakeApplied
      else (s.elapse e).lines.bBrakeApplied
    let lost := s.limits.nDeg < m.degraded + 1
    let length := d.paidOut + m.speed * signedElapsed (s.elapse e).sampleClock s.efe.sampleTime
    (mag m.speed ≤ s.limits.standstill ∧ braked = true → t.drum c = { d with heldLast := true } ∧
      t.conv c = { m with speed := 0, certainty := lessened m.certainty, prevDepth := m.depth
                          depth := depthWith (s.convRec c) (s.layers c) m d.paidOut }) ∧
    (¬(mag m.speed ≤ s.limits.standstill ∧ braked = true) → d.run = .lost → d.heldLast = false →
      t.drum c = d ∧ t.conv c = { m with prevDepth := m.depth }) ∧
    (¬(mag m.speed ≤ s.limits.standstill ∧ braked = true) → d.run ≠ .lost ∨ d.heldLast = true →
      ((t.drum c).paidOut = length ∧ (t.drum c).lastValid = d.lastValid ∧
        (t.drum c).run = if lost then .lost else .run) ∧
      t.conv c = { m with degraded := m.degraded + 1, prevDepth := m.depth
                          certainty := if lost then .uncertain else lessened m.certainty
                          depth := depthWith (s.convRec c) (s.layers c) m length } ∧
      (d.run = .none ∨ d.heldLast = true → t.isPending (invalidKind (s.elapse e).strict) = true) ∧
      (lost → m.certainty ≠ .uncertain → t.isPending .positionLost = true)) := by
  obtain ⟨hv, hconv, hdrum, hds, hlines, hcc, htime⟩ := s.foundFor_of_bad_word e heads c hheads
  obtain ⟨htconv, htdrum⟩ := s.sampled_items e heads order c
  have hpending (k : FaultKind) := s.sampled_pending e heads order (c := c) (k := k)
  have hheld := ((s.elapse e).foundFor heads c).heldCase_iff c
  obtain ⟨hlayers, hrec, hlimits⟩ := s.layers_of_ds c hds
  rw [hconv, hlimits, hcc, hlines] at hheld
  rw [State.placedFor] at htconv htdrum hpending
  generalize (s.elapse e).foundFor heads c = u at *
  refine ⟨fun h => ?_, fun h hl hn => ?_, fun h hr => ?_⟩
  · rw [State.position_of_held _ _ hv (hheld.mpr h)] at htconv htdrum
    obtain ⟨hd, hm⟩ := u.holdSample_items c
    rw [htdrum, htconv, hd, hm, hconv, hdrum, hlayers, hrec]
    exact ⟨rfl, rfl⟩
  · rw [State.position_of_lost _ _ hv (mt hheld.mp h) (hdrum ▸ hl) (hdrum ▸ hn)] at htconv htdrum
    rw [htdrum, htconv, State.lostSample, State.drum_modConv, State.conv_modConv, hdrum, hconv]
    exact ⟨rfl, rfl⟩
  · rw [State.position_of_run _ _ hv (mt hheld.mp h) (hdrum ▸ hr)] at htconv htdrum hpending
    obtain ⟨hd, hm⟩ := u.runSample_items c (s.elapse e).efe.sampleTime (s.elapse e).strict
    obtain ⟨-, -, hbegun⟩ := u.begun_items c (s.elapse e).strict
    have htally (k : FaultKind) := u.tally_runSample c (s.elapse e).efe.sampleTime (s.elapse e).strict k
    rw [hconv, hdrum, hlayers, hrec, hlimits, htime] at hm
    rw [hconv, hdrum, hlimits, htime] at hd
    rw [hdrum] at hbegun
    rw [hdrum, hconv, hlimits] at htally
    have hrun : ((u.begun c (s.elapse e).strict).drum c).run = .run := by
      rw [hbegun]
      split_ifs with hfirst
      · rfl
      · rw [not_or, Bool.not_eq_true] at hfirst
        obtain ⟨hnone, hlast⟩ := hfirst
        rw [hlast] at hr
        cases hx : (s.drum c).run with
        | run => rfl
        | none => exact absurd hx hnone
        | lost => exact absurd hx (hr.resolve_right Bool.false_ne_true)
    refine ⟨⟨?_, ?_, ?_⟩, htconv.trans hm, fun hfirst => hpending _ ?_, fun hlost hc => hpending _ ?_⟩
    · rw [htdrum, hd]
      rfl
    · rw [htdrum, hd, hbegun]
      split_ifs <;> rfl
    · rw [htdrum, hd, hrun]
    · exact congrArg Prod.fst ((htally _).trans (if_pos (.inl ⟨hfirst, rfl⟩)))
    · exact congrArg Prod.fst ((htally _).trans (if_pos (.inr ⟨⟨hlost, hc⟩, rfl⟩)))

theorem exec_runLost (e : Elapse) (c : Conv) (s : State) : exec (.runLost e c) s =
    if (s.drum c).run = .run ∧ s.limits.nDeg < (s.conv c).degraded then .next ((s.elapse e).loseRun c)
    else .next (s.elapse e) := rfl

/-- A kind is reported exactly under the condition of its flag and count. -/
theorem told_of_tally {s t : State} {k : FaultKind} {C D : Prop} [Decidable C]
    (h : t.tally k = if C then (true, min 255 ((s.tally k).2 + 1)) else s.tally k) (hCD : C ↔ D) :
    (D → t.isPending k = true ∧
      (t.fm.counts.toList[k.idx]?).getD 0 = min 255 ((s.fm.counts.toList[k.idx]?).getD 0 + 1)) ∧
    (¬D → t.isPending k = s.isPending k ∧
      (t.fm.counts.toList[k.idx]?).getD 0 = (s.fm.counts.toList[k.idx]?).getD 0) := by
  refine ⟨fun hd => ?_, fun hd => ?_⟩
  · rw [if_pos (hCD.mpr hd)] at h
    exact Prod.mk.inj h
  · rw [if_neg (mt hCD.mp hd)] at h
    exact Prod.mk.inj h

/-- Settles O24: `invalid_record`, the flags and counts of a position, and `loseRun`. -/
theorem invalidSampleHoldsExtrapolatesOrIsLost : Obligations.InvalidSampleHoldsExtrapolatesOrIsLost := by
  unfold Obligations.InvalidSampleHoldsExtrapolatesOrIsLost
  refine ⟨fun e heads order c s hheads => ?_, fun c prev strict s hv => ?_, fun e c s => ⟨fun h => ?_, fun h => ?_⟩⟩
  · obtain ⟨hheld, hlost, hrun⟩ := invalid_record e heads order c s hheads
    refine ⟨s.sampled e heads order, exec_sample .., ?_, fun hm hb => ?_, fun hn => ⟨fun hl hlast => ?_, fun hr => ?_⟩⟩
    · rw [State.sampled_primary]
      exact s.primary_of_bad_word e heads c hheads
    · obtain ⟨hd, hc⟩ := hheld ⟨hm, hb⟩
      rw [hd, hc, depthWith_eq]
      exact ⟨rfl, rfl, rfl, rfl, rfl, rfl, rfl⟩
    · exact hlost (not_held hn) hl hlast
    · obtain ⟨⟨hpaid, hvalid, hrun⟩, hc, hfirst, hpositionLost⟩ := hrun (not_held hn) hr
      rw [hpaid, hvalid, hrun, hc, depthWith_eq]
      refine ⟨rfl, rfl, rfl, rfl, rfl, rfl, rfl, rfl, rfl, fun hf => ⟨fun hs => ?_, fun hs => ?_⟩, hpositionLost⟩
      · have hstrict : (s.elapse e).strict = true := (s.elapse e).strict_iff.mpr hs
        have hp := hfirst hf
        rw [hstrict] at hp
        exact hp
      · have hstrict : (s.elapse e).strict = false := Bool.eq_false_iff.mpr (mt (s.elapse e).strict_iff.mp hs)
        have hp := hfirst hf
        rw [hstrict] at hp
        exact hp
  · have htally := State.tally_position prev strict hv
    have hstrict : FaultKind.sampleInvalidStrict = invalidKind strict ↔ strict = true := by cases strict <;> decide
    have hplain : FaultKind.sampleInvalid = invalidKind strict ↔ strict = false := by cases strict <;> decide
    have hlost : FaultKind.positionLost ≠ invalidKind strict := by cases strict <;> decide
    have hheld := s.heldCase_iff c
    have hrun (Q : Prop) := and_congr_left' (c := Q) (and_congr_left'
      (c := (s.drum c).run ≠ .lost ∨ (s.drum c).heldLast = true)
      (not_congr hheld))
    obtain ⟨hs, hs'⟩ := told_of_tally (htally .sampleInvalidStrict) ((hrun _).trans ((and_congr_right'
      ((or_iff_left fun h => by cases h.2).trans (and_congr_right' hstrict))).trans and_assoc.symm))
    obtain ⟨hp, hp'⟩ := told_of_tally (htally .sampleInvalid) ((hrun _).trans ((and_congr_right'
      ((or_iff_left fun h => by cases h.2).trans (and_congr_right' hplain))).trans and_assoc.symm))
    obtain ⟨hl, hl'⟩ := told_of_tally (htally .positionLost) ((hrun _).trans (and_congr_right'
      ((or_iff_right fun h => hlost h.2).trans (and_iff_left rfl))))
    exact ⟨hs, hs', hp, hp', hl, hl'⟩
  · rw [exec_runLost, if_pos h]
    rfl
  · rw [exec_runLost, if_neg]
    rintro ⟨hr, hn⟩
    exact h.elim (fun h => h hr) (fun h => Nat.not_le.mpr hn h)

end Sys2Proof.Machine
end

section
/-! A Sample record with a valid primary, and the command as its blocks take it (R24, R29 to R31): O23. -/

namespace Sys2Proof.Machine

open Sys2Proof

section measured
variable (s : State) (c : Conv) (prev : Nat)

theorem State.compared_ds : (s.compared c prev).ds = s.ds := by
  rw [State.compared]
  split_ifs
  · exact State.compareLength_ds ..
  · rfl

/-- The correction after a valid record (R43). -/
def State.newCorrection : Int :=
  if (s.drum c).run ≠ .none ∧ (s.drum c).markInRun = true then
    (s.conv c).correction - (s.measuredLength c - s.expectedLength c prev).tdiv 1000000
  else (s.conv c).correction

/-- The depth after a valid record (R31). -/
def State.measuredDepth : Int :=
  depthWith (s.convRec c) (s.layers c) { s.conv c with correction := s.newCorrection c prev } (s.measuredLength c)

/-- The items of the conveyance after a valid record, but for its certainty (R30, R31, R43). -/
theorem State.measure_conv : ∃ x, (s.measure c prev).conv c = { s.conv c with
    speed := s.measuredSpeed c, certainty := x, correction := s.newCorrection c prev
    degraded := if (s.drum c).run = .none then (s.conv c).degraded else 0, depth := s.measuredDepth c prev
    prevDepth := if (s.drum c).lastValid = none then s.measuredDepth c prev else (s.conv c).depth } := by
  obtain ⟨x, hx⟩ := s.compared_pm c prev
  have hconv : (s.compared c prev).conv c = { s.conv c with speed := s.measuredSpeed c, certainty := x } :=
    (congrArg (fun p => p.convs.get c) hx).trans (Both.get_set ..)
  obtain ⟨hlayers, hrec, -⟩ := s.layers_of_ds c (t := s.corrected c prev (s.compared c prev)) (s.compared_ds c prev)
  have hcorrected : (s.corrected c prev (s.compared c prev)).conv c = { s.conv c with
      speed := s.measuredSpeed c, certainty := x, correction := s.newCorrection c prev
      degraded := if (s.drum c).run = .none then (s.conv c).degraded else 0 } := by
    rw [State.corrected, State.conv_modDrum, State.conv_modConv, hconv]
    rfl
  have hpaid : ((s.corrected c prev (s.compared c prev)).drum c).paidOut = s.measuredLength c := by
    rw [State.corrected, State.drum_modDrum]
  have hredepth : ((s.corrected c prev (s.compared c prev)).redepth c).conv c = { s.conv c with
      speed := s.measuredSpeed c, certainty := x, correction := s.newCorrection c prev
      degraded := if (s.drum c).run = .none then (s.conv c).degraded else 0, depth := s.measuredDepth c prev
      prevDepth := (s.conv c).depth } := by
    rw [State.conv_redepth, hlayers, hrec, hcorrected, hpaid]
    rfl
  refine ⟨x, ?_⟩
  rw [State.measure_eq]
  dsimp only
  by_cases hv : (s.drum c).lastValid = none
  · have hnone : (s.drum c).lastValid.isNone = true := by rw [hv]; rfl
    rw [if_pos hnone, if_pos hv, State.conv_modConv, hredepth]
  · have hsome : ¬(s.drum c).lastValid.isNone = true := fun h => hv (Option.isNone_iff_eq_none.mp h)
    rw [if_neg hsome, if_neg hv, hredepth]
end measured

/-! #### The whole command -/

section frame
variable (s : State) (e : Elapse) (heads : Heads) (order : List SampleBlock)

theorem State.takeBlock_clutchState (prev : Nat) (rest : RestStep) (found : ReferenceGenerator) (b : SampleBlock) :
    (State.takeBlock prev rest found s b).cc.state = s.cc.state ∧
    (State.takeBlock prev rest found s b).cc.step = s.cc.step ∧
    (State.takeBlock prev rest found s b).cc.timer = s.cc.timer := by
  have hof {k : ClutchController} (h : k = s.cc) : k.state = s.cc.state ∧ k.step = s.cc.step ∧
    k.timer = s.cc.timer := by
    rw [h]
    exact ⟨rfl, rfl, rfl⟩
  cases b with
  | reference => exact hof (State.takeReference_cc ..)
  | envelope => exact hof (State.takeEnvelope_cc ..)
  | watch => exact hof (State.takeWatch_cc ..)
  | executive => exact hof (State.takeExecutive_cc ..)
  | clutch =>
    have hreport (t : State) (r : Report) := State.report_cc (s := t) (r := r)
    refine of_ite (P := fun t : State => t.cc.state = s.cc.state ∧ t.cc.step = s.cc.step ∧
      t.cc.timer = s.cc.timer) ?_ ?_
    · unfold State.testDiscrepancy
      repeat' split
      all_goals first | exact ⟨rfl, rfl, rfl⟩ | exact hof (hreport _ _)
    · unfold State.testDrift
      repeat' split
      all_goals first | exact ⟨rfl, rfl, rfl⟩ | (rw [hreport]; exact ⟨rfl, rfl, rfl⟩)

theorem State.takeHeads_eq : s.takeHeads heads = { s with efe :=
    { drums := ⟨{ s.front .a with
                    primary := (s.front .a).primary.take (heads.primary.get .a) (s.ds.desc.drums.get .a).sense.factor
                    check := (s.front .a).check.take (heads.check.get .a) (s.ds.desc.drums.get .a).sense.factor },
                { s.front .b with
                    primary := (s.front .b).primary.take (heads.primary.get .b) (s.ds.desc.drums.get .b).sense.factor
                    check := (s.front .b).check.take (heads.check.get .b) (s.ds.desc.drums.get .b).sense.factor }⟩
      sampleTime := s.sampleClock, period := s.limits.samplePeriod } } := rfl

theorem HeadItem.take_eq (h : HeadItem) (w : HeadWord) (f : Int) : h.take w f = match w with
    | .missing => { h with valid := false, count := h.raw.toInt * f }
    | .word raw bad => { raw := raw, valid := decide (bad = false ∧ raw ≠ 0x80000000#32), count := raw.toInt * f } := by
  cases w with
  | missing => rfl
  | word raw bad =>
    have hvalid : (!bad && raw != 0x80000000#32) = decide (bad = false ∧ raw ≠ 0x80000000#32) := by
      cases bad <;> simp [bne, BEq.beq]
    exact congrArg (fun v => ({ raw := raw, valid := v, count := raw.toInt * f } : HeadItem)) hvalid

theorem State.strict_eq : s.strict = match s.activeHead with
    | none => false
    | some r => decide (r.body.mode = .man ∨ s.limits.strictAll = true) := by
  rw [State.strict]
  cases s.activeHead with
  | none => rfl
  | some r => simp only [Bool.decide_or, Bool.decide_eq_true]

/-- A block's part of a Sample record, on what the record left. -/
theorem State.takeBlock_eq (prev : Nat) (opened : State) :
    State.takeBlock prev opened.te.rest opened.rg = fun t b => match b with
      | .reference => t.takeReference prev opened.rg.plan
      | .envelope => t.takeEnvelope prev opened.rg
      | .watch => t.takeWatch
      | .clutch => t.takeClutch
      | .executive => t.takeExecutive opened.te.rest := by
  funext t b
  cases b <;> rfl

/-- The command, from the state that the record opens to the blocks. -/
theorem exec_sample_of_opened (opened : State) (hopened : (s.elapse e).takeRecord heads = opened) :
    exec (.sample e heads order) s =
      .next ((order ++ [SampleBlock.reference, .envelope, .watch, .clutch, .executive]).eraseDups.foldl
        (fun t b => match b with
          | .reference => t.takeReference s.efe.sampleTime opened.rg.plan
          | .envelope => t.takeEnvelope s.efe.sampleTime opened.rg
          | .watch => t.takeWatch
          | .clutch => t.takeClutch
          | .executive => t.takeExecutive opened.te.rest) opened) := by
  have htime : (s.elapse e).efe.sampleTime = s.efe.sampleTime := rfl
  rw [exec_sample, State.sampled, blockOrder_eq, State.takeBlock_eq, htime, hopened]

/-- The record, from the state in which it is formed (R24, R38). -/
theorem State.takeRecord_of_formed (t formed : State) (strict : Bool) (hformed : t.takeHeads heads = formed)
    (hstrict : t.strict = strict) : t.takeRecord heads =
      ((((formed.crossCheck .a).crossCheck .b).position .a t.efe.sampleTime strict).position .b
        t.efe.sampleTime strict).passMarks ⟨(t.conv .a).speed, (t.conv .b).speed⟩ := by
  subst hformed hstrict
  rfl

/-- What a Sample record leaves of the blocks that it does not measure (R24). -/
theorem State.sampled_frame : (s.sampled e heads order).ds = s.ds ∧
    (s.sampled e heads order).lines = (s.elapse e).lines ∧
    (s.sampled e heads order).clock = (s.elapse e).clock ∧ (s.sampled e heads order).pending = s.pending ∧
    ((s.sampled e heads order).cc.state = s.cc.state ∧ (s.sampled e heads order).cc.step = s.cc.step ∧
      (s.sampled e heads order).cc.timer = s.cc.timer) ∧ (s.sampled e heads order).port = s.port := by
  have hport := (State.port_reporting s.port).takeRecord (s := s.elapse e) rfl heads
  have hcc : ((s.elapse e).takeRecord heads).cc = s.cc := State.takeRecord_cc ..
  refine s.sampled_of_record e heads order (P := fun t => t.ds = s.ds ∧ t.lines = (s.elapse e).lines ∧
    t.clock = (s.elapse e).clock ∧ t.pending = s.pending ∧
    (t.cc.state = s.cc.state ∧ t.cc.step = s.cc.step ∧ t.cc.timer = s.cc.timer) ∧ t.port = s.port)
    ⟨State.takeRecord_ds .., State.takeRecord_lines .., State.takeRecord_clock .., State.takeRecord_pending ..,
      by rw [hcc]; exact ⟨rfl, rfl, rfl⟩, hport⟩ fun t prev rest found b h => ?_
  obtain ⟨hds, hlines, hclock, hpending, ⟨hstate, hstep, htimer⟩, hp⟩ := h
  obtain ⟨bstate, bstep, btimer⟩ := t.takeBlock_clutchState prev rest found b
  exact ⟨(State.takeBlock_ds ..).trans hds, (State.takeBlock_lines ..).trans hlines,
    (State.takeBlock_clock ..).trans hclock,
    (State.takeBlock_pending ..).trans hpending, ⟨bstate.trans hstate, bstep.trans hstep, btimer.trans htimer⟩,
    (t.port_takeBlock prev rest found b).trans hp⟩

theorem State.sampled_time : (s.sampled e heads order).efe.sampleTime = (s.elapse e).sampleClock ∧
    (s.sampled e heads order).efe.period = s.limits.samplePeriod := by
  rw [State.sampled_efe, State.takeRecord_efe]
  exact ((s.elapse e).crossed_efe heads .a).2
end frame

theorem speedOver_eq (dL dt : Int) (h : dt ≠ 0) : speedOver dL dt = max (-65535) (min 65535 (dL.tdiv dt)) := by
  rw [speedOver, if_neg h]
  rfl

/-- A drum and its conveyance after a Sample record with a complete, error-free primary word (R29 to R31, R40, R43). -/
theorem valid_record (e : Elapse) (heads : Heads) (order : List SampleBlock) (s : State) (c : Conv) (raw : Word32)
    (hword : heads.primary.get c = .word raw false) (hraw : raw ≠ 0x80000000#32) :
    let count := raw.toInt * (s.ds.desc.drums.get c).sense.factor
    let length := paidOut (s.layers c) count
    let t := s.sampled e heads order
    let m := s.conv c
    let depth (k : Int) := depthWith (s.convRec c) (s.layers c) { m with correction := k } length
    (t.front c).primary = { raw := raw, valid := true, count := count } ∧
    t.drum c = { paidOut := length, lastValid := some (count, (s.elapse e).sampleClock), run := .none,
                 markInRun := false, heldLast := false } ∧
    ∃ x k, ((s.drum c).run = .none ∨ (s.drum c).markInRun = false → k = m.correction) ∧ t.conv c = { m with
      speed := match (s.drum c).lastValid with
        | none => 0
        | some (c0, t0) => speedOver (length - paidOut (s.layers c) c0) (signedElapsed (s.elapse e).sampleClock t0)
      certainty := x, correction := k, degraded := if (s.drum c).run = .none then m.degraded else 0
      depth := depth k, prevDepth := if (s.drum c).lastValid = none then depth k else m.depth } := by
  have hprimary : (((s.elapse e).takeHeads heads).front c).primary =
      { raw := raw, valid := true, count := raw.toInt * (s.ds.desc.drums.get c).sense.factor } := by
    have hvalid : (!false && raw != 0x80000000#32) = true := by simpa using hraw
    rw [State.takeHeads_front, hword, ← hvalid]
    rfl
  obtain ⟨y, hconv, -, hdrum⟩ := (s.elapse e).foundFor_items heads c
  obtain ⟨hds, -, -, hefe⟩ := (s.elapse e).foundFor_frame heads c
  obtain ⟨hfront, htime, -⟩ := (s.elapse e).crossed_efe heads c
  have hu : (((s.elapse e).foundFor heads c).front c).primary =
      { raw := raw, valid := true, count := raw.toInt * (s.ds.desc.drums.get c).sense.factor } := by
    rw [State.front, hefe]
    exact hfront.trans hprimary
  have hclock : ((s.elapse e).foundFor heads c).efe.sampleTime = (s.elapse e).sampleClock :=
    (congrArg EncoderFrontEnd.sampleTime hefe).trans htime
  obtain ⟨htconv, htdrum⟩ := s.sampled_items e heads order c
  rw [State.placedFor] at htconv htdrum
  obtain ⟨hlayers, hrec, -⟩ := s.layers_of_ds c (t := (s.elapse e).foundFor heads c) hds
  generalize (s.elapse e).foundFor heads c = u at *
  have hposition : u.position c (s.elapse e).efe.sampleTime (s.elapse e).strict =
      u.measure c (s.elapse e).efe.sampleTime := if_pos (by rw [hu])
  obtain ⟨-, -, -, -, hd, -⟩ := u.measure_items c (s.elapse e).efe.sampleTime
  obtain ⟨x, hm⟩ := u.measure_conv c (s.elapse e).efe.sampleTime
  have hlength : u.measuredLength c =
      paidOut (s.layers c) (raw.toInt * (s.ds.desc.drums.get c).sense.factor) := by
    rw [State.measuredLength, hlayers, hu]
  refine ⟨(s.sampled_primary e heads order c).trans hprimary, ?_, x,
    u.newCorrection c (s.elapse e).efe.sampleTime, fun h => ?_, ?_⟩
  · rw [htdrum, hposition, hd, hlength, hu, hclock]
  · rw [State.newCorrection, if_neg, hconv]
    · rfl
    · rintro ⟨hrun, hmark⟩
      rw [hdrum] at hrun hmark
      rcases h with h | h
      · exact hrun h
      · exact Bool.false_ne_true (h.symm.trans hmark)
  · rw [htconv, hposition, hm, State.measuredDepth, State.measuredSpeed, hlength, hlayers, hrec, hconv, hdrum, hclock]
    rfl

/-- Settles O23: the frame of the command, `valid_record`, and the command as the fold of its blocks. -/
theorem sampleMeasuresTheRope : Obligations.SampleMeasuresTheRope := by
  unfold Obligations.SampleMeasuresTheRope
  refine ⟨fun e heads order s => ⟨s.sampled e heads order, exec_sample .., ?_⟩, speedOver_eq, fun e heads order s => ?_⟩
  · obtain ⟨hds, hlines, hclock, hpending, ⟨hstate, hstep, htimer⟩, hport⟩ := s.sampled_frame e heads order
    obtain ⟨htime, hperiod⟩ := s.sampled_time e heads order
    refine ⟨hds, hlines, hclock, hpending, hstate, hstep, htimer, State.link_of_port _ _ hport, htime, hperiod,
      fun c raw hword hraw => ?_⟩
    obtain ⟨hprimary, hdrum, x, k, hk, hconv⟩ := valid_record e heads order s c raw hword hraw
    rw [hprimary, hdrum, hconv]
    exact ⟨rfl, rfl, rfl, hk, rfl, rfl, rfl, rfl, rfl, rfl, rfl⟩
  · refine exec_sample_of_opened s e heads order _ (State.takeRecord_of_formed heads (s.elapse e) _ _ ?_
      (s.elapse e).strict_eq)
    rw [State.takeHeads_eq, HeadItem.take_eq, HeadItem.take_eq, HeadItem.take_eq, HeadItem.take_eq]
    rfl

end Sys2Proof.Machine
end
